-- ==== Sys2Proof/Word.lean ====
section
/-!
DEFINITION. The words and the numbered things of the TL816 (00_scope.md 1.4, 10_formats.md R186).
-/

namespace Sys2Proof

/-- One octet of a frame. -/
abbrev Byte := BitVec 8

/-- One parameter word of a notice, an entry number or a sequence number. -/
abbrev Half := BitVec 16

/-- A value of the Clock (R183). -/
abbrev ClockValue := BitVec 32

/-- A section; section n of the manual is the one whose value is n - 1. -/
abbrev Sec := Fin 8

/-- A condition generator; generator n is the one whose value is n - 1. -/
abbrev Gen := Fin 8

/-- A switch point; switch point n is the one whose value is n - 1. -/
abbrev Sw := Fin 16

/-- A station of the field loop; address n is the one whose value is n - 1. -/
abbrev Sta := Fin 32

/-- A slot of the Vehicle Table; slot n is the one whose value is n - 1. -/
abbrev Slot := Fin 64

/-- A test circuit; circuit n is the one whose value is n - 1. -/
abbrev Circuit := Fin 2

/-- A millisecond timer: `none` while stopped, `some r` while it runs with `r` ms remaining. -/
abbrev Timer := Option Nat

/-- The number by which the manual names a thing held at index `i`. -/
def number {n : Nat} (i : Fin n) : Nat := i.val + 1

/-- The number of a thing that may be absent, 0 for absence. -/
def numberOr0 {n : Nat} : Option (Fin n) → Nat
  | none => 0
  | some i => number i

end Sys2Proof
end

