-- ==== Sys2Proof/Syntax.lean ====
section
/-!
DEFINITION. The commands of the TL816: one constructor per row of spec/opcode_table.json. A request's operand is the
payload of its frame (10_formats.md, "Request kinds and payloads"); a frame's or a reply's operand is its octets.
-/

namespace Sys2Proof

/-- The two position contacts of a breaker, made or not (R47). -/
structure Contacts where
  posOpen : Bool
  posClosed : Bool
  deriving DecidableEq, Repr, Inhabited

/-- The commands. -/
inductive Instr where
  /-- COLD_RESET (R75). The reset input or power-up returns every block to its cold-reset state: sections read their feedback, queues and tables empty, settings take defaults, the link reads BAUD SELECT and starts its start period. -/
  | coldReset (highRate : Bool) (contacts : Vector Contacts 8)
  /-- SAMPLE_FRAME (R1). A complete sample frame is taken by the Sample Port, checked for count continuity, and its sample sets and bus voltage are delivered. -/
  | sampleFrame (octets : List Byte)
  /-- SAMPLE_FRAME_INCOMPLETE (R1). A sample frame whose transfer ends before all fields are received is discarded, with no delivery, no count comparison and no frame-timer restart. -/
  | sampleFrameIncomplete (octets : List Byte)
  /-- LOSS_TIMER_EXPIRY (R5). A section's 2 ms loss timer expires without a valid sample set, and the section enters LOST with cause CHANNELS. -/
  | lossTimerExpiry (n : Sec)
  /-- FRAME_SILENCE (R6). The Sample Port's 2 ms frame timer expires, the previous count becomes absent, and every section in STARTING or MEASURING enters LOST with cause FRAMES. -/
  | frameSilence
  /-- BREAKER_FEEDBACK_CHANGE (R47). A change of either breaker position contact sets a new feedback reading, on which the section state's rules act. -/
  | breakerFeedbackChange (n : Sec) (contacts : Contacts)
  /-- DISCREPANCY_TIMER_EXPIRY (R47). A DISCREPANT reading lasting 200 ms queues BREAKER DISCREPANCY and is treated as closed from then on. -/
  | discrepancyTimerExpiry (n : Sec)
  /-- OPENING_SUPERVISION_EXPIRY (R70). Opening supervision expires before the feedback reads OPEN, and the section enters BREAKER_FAIL. -/
  | openingSupervisionExpiry (n : Sec)
  /-- DEAD_TIMER_EXPIRY (R53). The dead timer expires, NO_SUPPLY is removed, and the section joins the test list or is held, queuing RECLOSE HELD. -/
  | deadTimerExpiry (n : Sec)
  /-- HOLD_LIMIT_EXPIRY (R56). The hold limit timer expires while held or in HELD, and the section enters LOCKOUT queuing HOLD EXPIRED. -/
  | holdLimitExpiry (n : Sec)
  /-- HOLD_TIMER_EXPIRY (R55). The section's hold timer reaches 0 and the hold TIMER becomes absent. -/
  | holdTimerExpiry (n : Sec)
  /-- SETTLE_TIMER_EXPIRY (R83). The settle timer expires and the Line Test Unit decides the test from its pair window, computing Rload and classifying it. -/
  | settleTimerExpiry (c : Circuit)
  /-- CLOSE_SUPERVISION_EXPIRY (R59). Close supervision expires before CLOSED is read, and the section asserts its trip line, enters LOCKOUT and queues CLOSE FAIL. -/
  | closeSupervisionExpiry (n : Sec)
  /-- RECLAIM_EXPIRY (R60). The reclaim timer expires and the section enters CLOSED, ending the sequence with attempt count 0. -/
  | reclaimExpiry (n : Sec)
  /-- LOST_TIMER_EXPIRY (R111). A record's lost timer expires, the record becomes LOST, leaves the active count, is withdrawn from a queue it does not occupy and VEHICLE LOST is queued. -/
  | lostTimerExpiry (slot : Slot)
  /-- FORGET_TIMER_EXPIRY (R112). A record's forget timer expires, and the record is freed with VEHICLE FORGOTTEN or kept overdue with VEHICLE OVERDUE. -/
  | forgetTimerExpiry (slot : Slot)
  /-- POLE_TIMER_EXPIRY (R132). The pole timer expires without the second pole, and the lock becomes DEWIRED, the occupant is marked DEWIRED and DEWIRE is queued. -/
  | poleTimerExpiry (k : Sw)
  /-- PASSAGE_TIMER_EXPIRY (R133). A passage lasting Tpass queues STALLED once, changing nothing else. -/
  | passageTimerExpiry (k : Sw)
  /-- DRIVE_SUPERVISION_EXPIRY (R125). Drive supervision expires, the position becomes UNKNOWN, and the drive is retried once or the lock becomes FAILED with DRIVE FAIL. -/
  | driveSupervisionExpiry (k : Sw)
  /-- CYCLE_TIMER_EXPIRY (R147). The cycle timer expires, starting the next cycle in RESTING or setting the late mark in RUNNING. -/
  | cycleTimerExpiry
  /-- LOOP_REQUEST_SENT (R151). The last octet of a loop request has gone, LOOP DIRECTION turns to receive and the start limit starts. -/
  | loopRequestSent
  /-- START_LIMIT_EXPIRY (R151). No reply octet arrives within the start limit, and the exchange fails with cause TIMEOUT. -/
  | startLimitExpiry
  /-- GAP_LIMIT_EXPIRY (R151). The gap limit expires before the reply is complete, and the exchange fails with cause GAP. -/
  | gapLimitExpiry
  /-- LOOP_REPLY_COMPLETE (R152). A loop reply reaching its declared length is checked for CHECK, ADDRESS and FORMAT and ends the exchange as a success or failure. -/
  | loopReplyComplete (octets : List Byte)
  /-- HOST_GAP_TIMEOUT (R176). The 5 ms gap timer expires while receiving a host frame, and the partial frame is dropped. -/
  | hostGapTimeout
  /-- FRAME_ABANDON (R176). A host frame whose length octet is 0 or above 250 is abandoned and the receiver returns to HUNTING. -/
  | frameAbandon (octet : Byte)
  /-- FRAME_DISCARD (R177). A complete host frame with a CRC error, or completing while a reply is in progress, is discarded with no reply. -/
  | frameDiscard (octets : List Byte)
  /-- UNKNOWN_KIND (R178). A taken request whose kind is no request kind of the part is answered with UNKNOWN KIND. -/
  | unknownKind (kind : Byte) (payload : List Byte)
  /-- REPLY_SENT (R177). The last octet of a reply's CRC has been sent, ending the reply in progress. -/
  | replySent
  /-- START_PERIOD_END (R175). The 100 ms start period after cold reset ends and requests are handled in the ordinary way. -/
  | startPeriodEnd
  /-- SET_PROTECTION (R10). Stores a clamped protection record for one section, governing from its next arrival. -/
  | setProtection (payload : List Byte)
  /-- GET_PROTECTION (R10). Returns the stored protection record of one section. -/
  | getProtection (payload : List Byte)
  /-- REBASE_FILTER (R19). Rebases a MEASURING section's filter accumulator to its latest current. -/
  | rebaseFilter (payload : List Byte)
  /-- GET_MEASUREMENT (R25). Returns an FPU's live measurement state, latest values, tracker and counter. -/
  | getMeasurement (payload : List Byte)
  /-- SET_CONDITION (R34). Returns a generator to OFF and stores its new setting record. -/
  | setCondition (payload : List Byte)
  /-- GET_CONDITION (R34). Returns a generator's setting record, output state, count and latest results. -/
  | getCondition (payload : List Byte)
  /-- ACK_CONDITION (R32). Returns a LATCHED generator to OFF. -/
  | ackCondition (payload : List Byte)
  /-- SET_CAPTURE (R37). Stores a buffer's setting record, discards its entries and enters the capture state its mode begins in. -/
  | setCapture (payload : List Byte)
  /-- GET_CAPTURE (R44). Returns a capture buffer's settings and running state. -/
  | getCapture (payload : List Byte)
  /-- FETCH_CAPTURE (R43). Removes and returns up to 16 of a buffer's oldest entries and clears its overrun flag. -/
  | fetchCapture (payload : List Byte)
  /-- SET_SECTION (R48). Stores a clamped section settings record, applied to a sequence in flight as the rule gives. -/
  | setSection (payload : List Byte)
  /-- GET_SECTION_SETTINGS (R48). Returns a section's stored settings record. -/
  | getSectionSettings (payload : List Byte)
  /-- SET_BACKUP_TRIP (R48). Stores the global backup trip setting. -/
  | setBackupTrip (payload : List Byte)
  /-- GET_BACKUP_TRIP (R48). Returns the global backup trip setting. -/
  | getBackupTrip (payload : List Byte)
  /-- GET_SECTION (R68). Returns the section record, lines, timers and halt status. -/
  | getSection (payload : List Byte)
  /-- CLOSE_SECTION (R63). Starts a manual sequence from OPEN with no holds, joining the test list. -/
  | closeSection (payload : List Byte)
  /-- OPEN_SECTION (R64). Opens a section by a MANUAL trip, or moves a sequencing section to OPEN at once. -/
  | openSection (payload : List Byte)
  /-- FORCE_CLOSE (R65). Closes a HELD section without a dewirement hold, entering CLOSING. -/
  | forceClose (payload : List Byte)
  /-- CLEAR_LOCKOUT (R66). Moves a section from LOCKOUT to OPEN. -/
  | clearLockout (payload : List Byte)
  /-- ISOLATE (R66). Moves a section from OPEN or LOCKOUT to ISOLATED. -/
  | isolate (payload : List Byte)
  /-- DEISOLATE (R66). Moves a section from ISOLATED to OPEN. -/
  | deisolate (payload : List Byte)
  /-- INTERTRIP (R67). Delivers a trip request with cause INTERTRIP, taken or discarded by section state. -/
  | intertrip (payload : List Byte)
  /-- HOLD_RECLOSE (R55). Sets a section's hold timer, making the hold TIMER present. -/
  | holdReclose (payload : List Byte)
  /-- EXTEND_HOLD (R55). Adds time to a running hold timer. -/
  | extendHold (payload : List Byte)
  /-- RELEASE_HOLD (R55). Sets a section's hold timer to 0, making the hold TIMER absent. -/
  | releaseHold (payload : List Byte)
  /-- RELEASE_BUS_TRIP (R71). Releases the bus trip and moves every BREAKER_FAIL section reading OPEN to LOCKOUT, queuing BUS TRIP RELEASED. -/
  | releaseBusTrip (payload : List Byte)
  /-- SET_TEST_CIRCUITS (R76). Stores the test circuit count, granting circuit 2 at once when raised. -/
  | setTestCircuits (payload : List Byte)
  /-- GET_TEST_STATUS (R89). Returns the circuit count, holders, waiting list and running test state. -/
  | getTestStatus (payload : List Byte)
  /-- GET_TEST_RESULT (R90). Returns a section's last test record. -/
  | getTestResult (payload : List Byte)
  /-- SET_VEHICLE_TIMING (R110). Stores the clamped lost and forget times. -/
  | setVehicleTiming (payload : List Byte)
  /-- GET_VEHICLE_TIMING (R110). Returns the lost and forget times. -/
  | getVehicleTiming (payload : List Byte)
  /-- GET_VEHICLE (R113). Returns one vehicle record by number. -/
  | getVehicle (payload : List Byte)
  /-- LIST_VEHICLES (R113). Returns up to 32 matching records in slot order with a continuation slot. -/
  | listVehicles (payload : List Byte)
  /-- REMOVE_VEHICLE (R114). Frees a non-occupant vehicle record, withdrawing it and reporting fault facts. -/
  | removeVehicle (payload : List Byte)
  /-- CLEAR_FAULT (R115). Removes the named faults from a vehicle record, queuing VEHICLE FAULT CLEARED. -/
  | clearFault (payload : List Byte)
  /-- CONFIGURE_SWITCH (R117). Stores a switch point's feeding section, default direction and timers. -/
  | configureSwitch (payload : List Byte)
  /-- SET_SWITCH (R135). Makes a host drive of an idle switch point to the given direction. -/
  | setSwitch (payload : List Byte)
  /-- PIN_SWITCH (R136). Makes the lock PINNED on a frog standing at an end. -/
  | pinSwitch (payload : List Byte)
  /-- UNPIN_SWITCH (R136). Makes the lock NONE from PINNED. -/
  | unpinSwitch (payload : List Byte)
  /-- CLEAR_SWITCH_LOCK (R137). Clears a DEWIRED lock with no poles under, or a FAILED lock. -/
  | clearSwitchLock (payload : List Byte)
  /-- GET_SWITCH (R138). Returns a switch point's whole record. -/
  | getSwitch (payload : List Byte)
  /-- SET_STATION (R143). Writes a station record into CENSUS, aborting its exchange and telling the switch points concerned. -/
  | setStation (payload : List Byte)
  /-- REMOVE_STATION (R144). Returns a station record to UNCONFIGURED, ending any binding. -/
  | removeStation (payload : List Byte)
  /-- SET_CYCLE_TIME (R148). Stores Tcyc, read at the next cycle start. -/
  | setCycleTime (payload : List Byte)
  /-- GET_LOOP_STATUS (R148). Returns the loop's cycle state and exchange in flight. -/
  | getLoopStatus (payload : List Byte)
  /-- LOOP_SKIP (R159). Aborts the exchange in flight and continues the cycle with the next exchange. -/
  | loopSkip (payload : List Byte)
  /-- LOOP_RESET (R160). Aborts any exchange in flight, ends the cycle and starts a new one at once. -/
  | loopReset (payload : List Byte)
  /-- GET_STATION (R163). Returns a station record and whether the exchange in flight addresses it. -/
  | getStation (payload : List Byte)
  /-- FETCH_NOTICES (R169). Removes and returns up to 8 of the oldest notice records, clearing the overflow mark. -/
  | fetchNotices (payload : List Byte)
  /-- SET_ATTENTION (R171). Stores the attention mask and sets ATTN. -/
  | setAttention (payload : List Byte)
  /-- GET_NOTICE_STATUS (R172). Returns the Notice Queue's counts, entry numbers, overflow and attention state. -/
  | getNoticeStatus (payload : List Byte)
  /-- SET_TIME (R183). Sets the Clock to the given value without touching any timer. -/
  | setTime (payload : List Byte)
  /-- GET_TIME (R183). Returns the Clock. -/
  | getTime (payload : List Byte)
  /-- RESTART (R184). Warm restart handed to the Section Controllers, switch points, loop, generators and buffers in order, leaving a halt if halted. -/
  | restart (payload : List Byte)
  /-- HOST_OCTET_RECEIVED (R176). An octet arrives on HOST RX: in HUNTING a 0xC5 begins a frame and moves the receiver to LENGTH, others are discarded; in LENGTH or BODY it is taken into the frame and restarts the 5 ms gap timer. -/
  | hostOctetReceived (octet : Byte)
  /-- LOOP_OCTET_RECEIVED (R151). An octet arrives on LOOP RX: outside AWAITING or RECEIVING it is discarded; the first reply octet stops the start limit and makes the exchange RECEIVING; every reply octet restarts the gap limit; a length octet above 64 fails the exchange with FORMAT at once. -/
  | loopOctetReceived (octet : Byte)
  /-- CLOCK_TICK (R183). Each millisecond the 32-bit Clock increases by 1, wrapping from 4294967295 to 0, during a halt as at any other time. -/
  | clockTick
  deriving DecidableEq, Repr

end Sys2Proof
end

