-- ==== Sys2Proof/Decode.lean ====
section
/-!
DEFINITION. The words of the commands: no row of spec/opcode_table.json gives bits, so no word spells one [log 25].
-/

namespace Sys2Proof

/-- The command that a word spells by the table's bits: the table gives no row any, so none. -/
def decodeTableWord (_nbits _w : Nat) : Option Instr := none

end Sys2Proof
end

