-- ==== Sys2Proof/Config.lean ====
section
/-!
DEFINITION. The free values: what the manual leaves open and the part nevertheless settles. None has a body,
so no proof can use a value of one. `draw` is the State's own count of the orders drawn so far.
-/

namespace Sys2Proof.Config

/-- DESIGN CHOICE [log 5]. The rank by which a step serves one of several equal blocks: at draw `draw` the block at
index `block` has this rank, and lower ranks are served first. R165 lets either of two blocks' notices be taken
first, and R79 gives the outcome of either order of a removal and a grant. -/
opaque rank (draw block : Nat) : Nat

/-- DESIGN CHOICE [log 40]. The rank by which the generators bound to section index `sec` are evaluated at its arrival, at
draw `draw`; lower ranks first. R27 gives the generators of one arrival no order, and none with the order of the sections. -/
opaque generatorRank (draw sec gen : Nat) : Nat

/-- DESIGN CHOICE [log 6]. Which of the six orders of an arrival's trip requests, comparator values and capture
entry is taken at draw `draw` by section index `sec` (R33, R40 and R41 give the outcome of either order). -/
opaque handOut (draw sec : Nat) : Nat

/-- DESIGN CHOICE [log 7]. The octet at place `place` of a reply field of `width` octets whose value is absent. -/
opaque absentOctet (width place : Nat) : Byte

/-- DESIGN CHOICE [log 7]. The code of a power condition in a reply (10_formats.md lists none). -/
opaque powerCode (powered : Bool) : Byte

/-- DESIGN CHOICE [log 7]. The code of the cycle phase in GET LOOP STATUS (10_formats.md lists none). -/
opaque cyclePhaseCode (running : Bool) : Byte

/-- DESIGN CHOICE [log 7]. The code of an exchange's phase in a reply; `phase` is 0 for SENDING, 1 for AWAITING and
2 for RECEIVING (10_formats.md lists none). -/
opaque exchangePhaseCode (phase : Nat) : Byte

end Sys2Proof.Config
end

