-- ==== Sys2Proof/Machine/State.lean ====
section
/-!
DEFINITION. The state of the TL816 as plain data, block by block, and its cold-reset value (R26, R35, R45, R75, R91,
R116, R142, R164, R173, R183, R185).
-/

namespace Sys2Proof.Machine

/-! ### Stops -/

/-- No rule of the spec makes the part stop: every command has an effect, if only to be discarded [log 25]. -/
inductive Fault where
  deriving DecidableEq, Repr

/-- Why a command gets no meaning. -/
inductive Refusal where
  /-- Raised by Dispatch for a command that has no meaning yet; safe. No arm raises it. -/
  | notModelled (mnemonic : String)
  deriving DecidableEq, Repr

/-! ### Sample Port and Feeder Protection Units (chapter 1) -/

/-- Measurement state of a section. -/
inductive MeasState where
  | starting | measuring | lost
  deriving DecidableEq, Repr

/-- Why a section entered LOST (R5, R6). -/
inductive LossCause where
  | channels | frames
  deriving DecidableEq, Repr

/-- What entry into LOST does (R7). -/
inductive LossAction where
  | trip | block
  deriving DecidableEq, Repr

/-- A protection record (the settings table of chapter 1, R10). -/
structure Protection where
  /-- instant level, Imax -/
  instant : Nat := 12000
  /-- rise window, k -/
  window : Nat := 8
  /-- rise start, Drise -/
  riseStart : Nat := 400
  /-- rise hold, Dhold -/
  riseHold : Nat := 200
  /-- step base -/
  stepBase : Nat := 3000
  /-- per-vehicle allowance, A -/
  allowance : Nat := 400
  /-- step ceiling -/
  stepCeil : Nat := 8000
  /-- step duration, Tstep -/
  stepDuration : Nat := 160
  /-- filter shift, s -/
  shift : Nat := 10
  /-- sustained level, Ls -/
  level : Nat := 5000
  /-- sustained duration, Td -/
  duration : Nat := 8000
  lossAction : LossAction := .trip
  deriving DecidableEq, Repr

/-- The step tracker; a rise event keeps its start value I0, its held threshold, the active count read at its start
and its event count (R15, R16). -/
inductive Tracker where
  | quiet
  | rising (start : Int) (threshold : Nat) (nActive : Nat) (count : Nat)
  deriving DecidableEq, Repr

/-- One Feeder Protection Unit (R26). The fill count of R13 is the length of `history`. -/
structure Fpu where
  state : MeasState := .starting
  lossTimer : Timer := some 2
  loss : Option (LossCause × ClockValue) := none
  history : List Int := []
  tracker : Tracker := .quiet
  /-- filter accumulator, 256 times F -/
  acc : Int := 0
  sustained : Nat := 0
  /-- the number the next arrival takes (R3) -/
  seq : Half := 0
  lastI : Int := 0
  lastU : Nat := 0
  lastD : Int := 0
  lastSeq : Half := 0
  protection : Protection := {}
  deriving DecidableEq, Repr

/-- The Sample Port: the previous count and the frame timer (R2, R6). -/
structure Port where
  prevCount : Option Byte := none
  frameTimer : Timer := some 2
  deriving DecidableEq, Repr

/-! ### Condition Generators and Capture Buffers (chapter 2) -/

/-- One input of a generator (R28). -/
inductive Comparator where
  | iAbove (level : Nat)
  | iBelow (level : Nat)
  | uAbove (level : Nat)
  | uBelow (level : Nat)
  | fAbove (level : Int)
  | rising
  | presentAbove (count : Nat)
  | breakerClosed
  deriving DecidableEq, Repr

/-- Output state of a generator, with the count its state uses (R30, R31). -/
inductive GenState where
  | off
  | onset (count : Nat)
  | on
  | release (count : Nat)
  | latched
  deriving DecidableEq, Repr

/-- A generator's setting record (R34). -/
structure Condition where
  sec : Sec
  inputs : List Comparator := []
  /-- combine mode: ALL when set, ANY when clear -/
  all : Bool := false
  onset : Nat := 0
  release : Nat := 0
  latch : Bool := false
  notice : Bool := false
  trip : Bool := false
  capture : Bool := false
  deriving DecidableEq, Repr

/-- One Condition Generator (R35). -/
structure Generator where
  setting : Condition
  out : GenState := .off
  results : List Bool := []
  combined : Bool := false
  deriving DecidableEq, Repr

/-- Mode of a capture buffer. -/
inductive CaptureMode where
  | off | fill | ring | freezeOnTrip | onCondition
  deriving DecidableEq, Repr

/-- Capture state of a buffer. -/
inductive CaptureState where
  | idle | filling | full | ringing | awaitTrip | postTrigger | frozen | gated
  deriving DecidableEq, Repr

/-- One capture entry (R24). -/
structure CaptureEntry where
  seq : Half
  current : Int
  voltage : Nat
  rise : Int
  filtered : Int
  rising : Bool
  saturated : Bool
  deriving DecidableEq, Repr

/-- The cause of a trip request. -/
inductive Cause where
  | instant | step | breakerOwn | sustained | cond | measLoss | intertrip | bus | manual
  deriving DecidableEq, Repr

/-- A buffer's setting record (R37). -/
structure CaptureSetting where
  mode : CaptureMode := .off
  /-- decimation, N -/
  decimation : Nat := 1
  /-- post-trigger count, P -/
  post : Nat := 16
  /-- watermark, W -/
  watermark : Nat := 48
  gen : Gen := 0
  deriving DecidableEq, Repr

/-- One Capture Buffer (R45). The unread count is the length of `entries`, oldest first. -/
structure Capture where
  setting : CaptureSetting := {}
  state : CaptureState := .idle
  entries : List CaptureEntry := []
  overrun : Bool := false
  decCount : Nat := 0
  remainder : Nat := 0
  armed : Bool := true
  gate : Bool := false
  /-- principal cause at the latest trigger (R40) -/
  trigger : Option Cause := none
  deriving DecidableEq, Repr

/-! ### Section Controllers (chapter 3) -/

/-- Section state, in the order of the state table. -/
inductive SecState where
  | closed | tripping | deadTime | testWait | lineTest | closing | reclaim | held | opened | lockout | isolated
  | breakerFail
  deriving DecidableEq, Repr

/-- Reading of a breaker's position contacts (R47). -/
inductive Feedback where
  | opened | closed | travel | discrepant
  deriving DecidableEq, Repr

/-- Origin of a trip (R50). -/
inductive Origin where
  | closed | reclaim | closing | sequence
  deriving DecidableEq, Repr

/-- The values a trip request carries (R22). -/
structure TripValues where
  current : Int
  rise : Int
  delta : Int
  filtered : Int
  nActive : Nat
  seq : Half
  time : ClockValue
  deriving DecidableEq, Repr

/-- The trip record (R50); `causes` holds the cause set in the order in which the causes came. -/
structure TripRecord where
  first : Cause
  causes : List Cause
  principal : Cause
  values : TripValues
  complete : Bool
  origin : Origin
  openingTime : Option Nat := none
  deriving DecidableEq, Repr

/-- The hold set (R54). -/
structure Holds where
  timer : Bool := false
  leak : Bool := false
  dewired : Bool := false
  switchLock : Bool := false
  noSupply : Bool := false
  deriving DecidableEq, Repr

/-- The three dead times of a record or of a latched copy. -/
structure DeadTimes where
  first : Nat := 2000
  second : Nat := 10000
  third : Nat := 30000
  deriving DecidableEq, Repr

/-- Section settings (R48). -/
structure SectionSettings where
  /-- automatic tests, Nmax -/
  tests : Nat := 2
  dead : DeadTimes := {}
  /-- breaker open limit, Tbf -/
  openLimit : Nat := 80
  /-- close limit, Tclose -/
  closeLimit : Nat := 200
  /-- reclaim, Trec -/
  reclaim : Nat := 5000
  /-- hold limit, Thold -/
  holdLimit : Nat := 600000
  leakHold : Bool := true
  /-- test resistor in ohms, Rt -/
  resistor : Nat := 20
  /-- fault level, Rfault -/
  faultLevel : Nat := 100
  /-- clear level, Rclear -/
  clearLevel : Nat := 500
  /-- vehicle auxiliary resistance, Rveh -/
  vehicle : Nat := 2000
  /-- test settle, Ttest -/
  settle : Nat := 300
  deriving DecidableEq, Repr

/-- Result of a line test (R83, R86). -/
inductive TestResult where
  | clear | fault | inconclusive | noSupply
  deriving DecidableEq, Repr

/-- Why a test gave NO_SUPPLY (R83). -/
inductive NoSupplyReason where
  | none | measurement | busLow
  deriving DecidableEq, Repr

/-- The last test record of a section (R87). -/
structure TestRecord where
  result : TestResult
  reason : NoSupplyReason
  us : Nat
  ub : Nat
  rload : Nat
  nPresent : Nat
  rexp : Nat
  rc : Nat
  circuit : Circuit
  pairs : Nat
  time : ClockValue
  deriving DecidableEq, Repr

/-- One Section Controller: the section record of chapter 3, its lines and its last test record. -/
structure Section where
  state : SecState := .opened
  attempt : Nat := 0
  /-- the latched test limit -/
  limit : Nat := 2
  /-- the latched dead times -/
  dead : DeadTimes := {}
  manual : Bool := false
  record : Option TripRecord := none
  holds : Holds := {}
  holdTimer : Timer := none
  held : Bool := false
  heldSince : Option ClockValue := none
  feedback : Feedback := .opened
  asClosed : Bool := false
  opening : Timer := none
  deadTimer : Timer := none
  closing : Timer := none
  reclaim : Timer := none
  holdLimit : Timer := none
  discrepancy : Timer := none
  /-- milliseconds since entry into TRIPPING (R50, R183) -/
  trippingMs : Nat := 0
  tripLine : Bool := false
  closeLine : Bool := false
  testLine : Bool := false
  settings : SectionSettings := {}
  lastTest : Option TestRecord := none
  deriving DecidableEq, Repr

/-! ### Test Arbiter and Line Test Unit (chapter 4) -/

/-- A test context (R81); the pair count is the length of `pairs`, which are (U, Ubus), newest first. -/
structure TestContext where
  sec : Sec
  settle : Nat
  pairs : List (Nat × Nat)
  deriving DecidableEq, Repr

/-- The Test Arbiter's record and the Line Test Unit's contexts, both by circuit. -/
structure Arbiter where
  count : Nat := 1
  holders : Vector (Option Sec) 2 := Vector.replicate 2 none
  waiting : List Sec := []
  contexts : Vector (Option TestContext) 2 := Vector.replicate 2 none
  deriving DecidableEq, Repr

/-! ### Vehicle Table (chapter 5) -/

/-- A direction of a frog. -/
inductive Direction where
  | straight | turnout
  deriving DecidableEq, Repr

/-- A route request; `none` is NONE. -/
abbrev Route := Option Direction

/-- A vehicle record; its slot is its place in the table. -/
structure Vehicle where
  number : Nat
  /-- status: ACTIVE when set, LOST when clear -/
  active : Bool
  sec : Option Sec
  leak : Bool
  dewired : Bool
  lastStation : Sta
  lastSeen : ClockValue
  lostTimer : Timer
  forgetTimer : Timer
  overdue : Bool
  queue : Option Sw
  occupied : Option Sw
  deferred : Option (Sw × Route)
  deriving DecidableEq, Repr

/-- The Vehicle Table (R116); `power` holds the power copies, POWERED when set. -/
structure VehicleTable where
  slots : Vector (Option Vehicle) 64 := Vector.replicate 64 none
  power : Vector Bool 8 := Vector.replicate 8 false
  fullArmed : Bool := true
  lostTime : Nat := 300000
  forgetTime : Nat := 1800000
  deriving DecidableEq, Repr

/-! ### Switch Point Controllers (chapter 6) -/

/-- What a switch point knows of its frog. -/
inductive Position where
  | straight | turnout | moving | unknown
  deriving DecidableEq, Repr

/-- A position as a switch station reports it. -/
inductive StationPosition where
  | straight | turnout | between
  deriving DecidableEq, Repr

/-- Stage of a drive. -/
inductive DriveStage where
  | none | pending | sent
  deriving DecidableEq, Repr

/-- The lock of a switch point. -/
inductive Lock where
  | none | pinned | dewired | failed | noField
  deriving DecidableEq, Repr

/-- A timer that can be suspended with its time kept (R139). -/
inductive SwTimer where
  | stopped
  | running (remaining : Nat)
  | suspended (remaining : Nat)
  deriving DecidableEq, Repr

/-- State of a station. -/
inductive StationState where
  | unconfigured | census | online | lost | disabled
  deriving DecidableEq, Repr

/-- One entry of an approach queue. -/
structure QueueEntry where
  number : Nat
  dir : Direction
  deriving DecidableEq, Repr

/-- One Switch Point Controller (R142). -/
structure SwitchPoint where
  bound : Option Sta := none
  station : StationState := .unconfigured
  feeding : Option Sec := none
  /-- power copy, POWERED when set -/
  power : Bool := false
  default : Direction := .straight
  position : Position := .unknown
  target : Direction := .straight
  stage : DriveStage := .none
  /-- the model's own: a request in flight has been built for the present drive [log 33] -/
  carried : Bool := false
  failed : Nat := 0
  poles : Nat := 0
  both : Bool := false
  occupant : Option Nat := none
  queue : List QueueEntry := []
  lock : Lock := .none
  poleTimer : SwTimer := .stopped
  passTimer : SwTimer := .stopped
  driveTimer : Timer := none
  /-- milliseconds since the drive's acceptance (R124, R183) -/
  driveMs : Nat := 0
  /-- the last position the station reported (R125); DESIGN CHOICE at reset [log 17] -/
  lastReport : StationPosition := .between
  tPole : Nat := 4000
  tPass : Nat := 30000
  tDrive : Nat := 3000
  deriving DecidableEq, Repr

/-! ### Field Loop Controller (chapter 7) -/

/-- What a station record binds: nothing, a switch point (or none), or the two sides of a boundary. -/
inductive Role where
  | unset
  | switch (k : Option Sw)
  | boundary (sideA sideB : Option Sec)
  deriving DecidableEq, Repr

/-- Rate of an exchange. -/
inductive Rate where
  | fast | medium | slow
  deriving DecidableEq, Repr

/-- Cause of a failed exchange. -/
inductive LoopFailure where
  | none | timeout | gap | check | address | format
  deriving DecidableEq, Repr

/-- One station record (R143, R164). -/
structure Station where
  role : Role := .unset
  rate : Rate := .fast
  relax : Nat := 0
  state : StationState := .unconfigured
  failures : Nat := 0
  mark : Option Bool := none
  lastFailure : LoopFailure := .none
  deriving DecidableEq, Repr

/-- Command of a loop request (R149). -/
inductive LoopCommand where
  | poll
  | drive (target : Direction)
  | census
  deriving DecidableEq, Repr

/-- Phase of an exchange (R151), which the LOOP DIRECTION line follows (Loop.direction). AWAITING carries its start limit in ms; RECEIVING carries its gap limit in bit times
and the octets received. -/
inductive Phase where
  | sending
  | awaiting (limit : Nat)
  | receiving (gap : Nat) (octets : List Byte)
  deriving DecidableEq, Repr

/-- The exchange in flight (R149). -/
structure Exchange where
  station : Sta
  command : LoopCommand
  rate : Rate
  /-- the taken mark of the request -/
  taken : Bool
  phase : Phase
  deriving DecidableEq, Repr

/-- The Field Loop Controller (R164). The poll and census positions are addresses, 0 for none. -/
structure Loop where
  stations : Vector Station 32 := Vector.replicate 32 {}
  cycleTime : Nat := 100
  /-- cycle phase: RUNNING when set, RESTING when clear -/
  running : Bool := false
  cycleTimer : Timer := some 100
  cycleMs : Nat := 0
  pollPos : Nat := 0
  censusDone : Bool := true
  censusPos : Nat := 0
  late : Bool := false
  overrun : Bool := false
  /-- the address last addressed in this cycle, 0 for none (R147) -/
  lastAddressed : Nat := 0
  /-- the station this cycle's census made ONLINE (R146) -/
  found : Option Sta := none
  exchange : Option Exchange := none
  holding : Bool := false
  deriving DecidableEq, Repr

/-! ### Notice Queue (chapter 8) -/

/-- The notice kinds, in the order of their table. -/
inductive NoticeKind where
  | sampleGap | measLost | measRestored | condition | captureWatermark | captureOverrun | captureFrozen | trip
  | recloseHeld | holdExpired | reclosed | closeFail | lockout | localClose | breakerDiscrepancy | breakerFail
  | busTripReleased | halt | testResult | vehicleNew | vehicleFound | vehicleLost | vehicleOverdue | vehicleForgotten
  | vehicleFault | vehicleFaultCleared | badTelegram | tableFull | queueFull | mismatch | switchMoved | unexpectedMove
  | driveFail | unannounced | contactFault | dewire | passageIncomplete | stalled | contactResync | stationLost
  | stationOnline | stationMismatch | loopOverrun | overflow
  deriving DecidableEq, Repr

/-- The source of a notice. -/
inductive Source where
  | link
  | port
  | sec (n : Sec)
  | switch (k : Sw)
  | vehicle (number : Nat)
  | station (address : Nat)
  | generator (g : Gen)
  deriving DecidableEq, Repr

/-- A notice record. -/
structure Notice where
  entry : Half
  kind : NoticeKind
  priority : Nat
  time : ClockValue
  source : Source
  words : List Half
  deriving DecidableEq, Repr

/-- The Notice Queue (R173), records oldest first, and the ATTN line. -/
structure NoticeQueue where
  records : List Notice := []
  counter : Half := 0
  overflow : Bool := false
  mask : Nat := 3
  attn : Bool := false
  deriving DecidableEq, Repr

/-! ### Link Controller (chapter 9) -/

/-- Status of a reply (R179). -/
inductive Status where
  | ok | unknownKind | badArgument | badLength | refusedState | refusedHold | busy | halted
  deriving DecidableEq, Repr

/-- One field of a reply's payload (R186): a value with its width in octets, an absent value with its width, or a value
whose code the code tables do not list [log 7]. -/
inductive ReplyField where
  | nat (width value : Nat)
  | int (width : Nat) (value : Int)
  | absent (width : Nat)
  | power (powered : Bool)
  | cyclePhase (running : Bool)
  | exchangePhase (phase : Nat)
  deriving DecidableEq, Repr

/-- The reply in progress: the request's kind, the status and the payload. -/
structure Reply where
  kind : Byte
  status : Status
  fields : List ReplyField
  deriving DecidableEq, Repr

/-- The receiver (R176); BODY holds the length octet and the octets received after it. -/
inductive Receiver where
  | hunting
  | length
  | body (len : Nat) (got : List Byte)
  deriving DecidableEq, Repr

/-- The Link Controller (R185); the line rate is 460800 bit/s when `highRate` is set, else 115200 bit/s. -/
structure Link where
  highRate : Bool
  receiver : Receiver := .hunting
  gapTimer : Timer := none
  reply : Option Reply := none
  startPeriod : Timer := some 100
  deriving DecidableEq, Repr

/-! ### The whole part -/

/-- The state of the part, with the model's own queue of waiting commands. -/
structure State where
  port : Port
  fpus : Vector Fpu 8
  gens : Vector Generator 8
  caps : Vector Capture 8
  secs : Vector Section 8
  /-- the BUS TRIP line -/
  busTrip : Bool
  halted : Bool
  /-- the backup trip setting (R48) -/
  backup : Bool
  arb : Arbiter
  vt : VehicleTable
  sws : Vector SwitchPoint 16
  loop : Loop
  notices : NoticeQueue
  link : Link
  clock : ClockValue
  /-- the model's own: how many free orders have been drawn [log 5] -/
  draws : Nat
  /-- the model's own: the commands that wait, first in first out -/
  pending : List Instr
  deriving DecidableEq, Repr

/-- The reading of a breaker's two contacts (R47). -/
def Feedback.ofContacts (c : Contacts) : Feedback :=
  match c.posOpen, c.posClosed with
  | true, false => .opened
  | false, true => .closed
  | false, false => .travel
  | true, true => .discrepant

/-- A Section Controller at cold reset, by the reading it finds (R75, R46). -/
def Section.cold (reading : Feedback) : Section :=
  match reading with
  | .closed => { state := .closed, feedback := .closed }
  | .discrepant => { state := .closed, feedback := .discrepant, discrepancy := some 200 }
  | .opened => { state := .opened, feedback := .opened }
  | .travel => { state := .opened, feedback := .travel, tripLine := true, opening := some 80 }

/-- The part at cold reset, with the breaker contacts and the BAUD SELECT level it finds (R75, R174). -/
def State.cold (highRate : Bool) (contacts : Vector Contacts 8) : State where
  port := {}
  fpus := Vector.replicate 8 {}
  gens := Vector.ofFn fun n => { setting := { sec := n } }
  caps := Vector.replicate 8 {}
  secs := contacts.map fun c => Section.cold (Feedback.ofContacts c)
  busTrip := false
  halted := false
  backup := true
  arb := {}
  vt := { power := contacts.map fun c => decide ((Section.cold (Feedback.ofContacts c)).state = .closed) }
  sws := Vector.replicate 16 {}
  loop := {}
  notices := {}
  link := { highRate := highRate }
  clock := 0
  draws := 0
  pending := []

/-- The part right after cold reset, every breaker read OPEN and the line at 115200 bit/s: both are inputs, DESIGN
CHOICE [log 8]. -/
def State.reset : State := State.cold false (Vector.replicate 8 ⟨true, false⟩)

end Sys2Proof.Machine
end

