-- ==== Sys2Proof/Machine/Flags.lean ====
section
/-!
DEFINITION. The codes of 10_formats.md ("Codes in records and parameter words"), the words that hold a set with one
bit per member, and the priorities the trip-cause table gives.
-/

namespace Sys2Proof.Machine

/-- A mark, flag or line level as a code: 1 when set or asserted, PRESUMED [log 7]. -/
def markCode (b : Bool) : Nat := if b then 1 else 0

def MeasState.code : MeasState → Nat
  | .starting => 0 | .measuring => 1 | .lost => 2

def LossCause.code : LossCause → Nat
  | .channels => 0 | .frames => 1

def LossAction.code : LossAction → Nat
  | .trip => 0 | .block => 1

def Tracker.code : Tracker → Nat
  | .quiet => 0 | .rising .. => 1

/-- The step tracker is RISING. -/
def Tracker.isRising : Tracker → Bool
  | .quiet => false | .rising .. => true

def GenState.code : GenState → Nat
  | .off => 0 | .onset _ => 1 | .on => 2 | .release _ => 3 | .latched => 4

/-- The onset or release count; OFF, ON and LATCHED use none, so GET CONDITION shows it as absent there, DESIGN CHOICE
[log 41]. -/
def GenState.count : GenState → Option Nat
  | .onset n => some n | .release n => some n | .off => none | .on => none | .latched => none

/-- Comparator code, in the order of the comparator table (R28). -/
def Comparator.code : Comparator → Nat
  | .iAbove _ => 0 | .iBelow _ => 1 | .uAbove _ => 2 | .uBelow _ => 3 | .fAbove _ => 4 | .rising => 5
  | .presentAbove _ => 6 | .breakerClosed => 7

def CaptureMode.code : CaptureMode → Nat
  | .off => 0 | .fill => 1 | .ring => 2 | .freezeOnTrip => 3 | .onCondition => 4

def CaptureState.code : CaptureState → Nat
  | .idle => 0 | .filling => 1 | .full => 2 | .ringing => 3 | .awaitTrip => 4 | .postTrigger => 5 | .frozen => 6
  | .gated => 7

/-- A trip cause's bit number. -/
def Cause.code : Cause → Nat
  | .instant => 0 | .step => 1 | .breakerOwn => 2 | .sustained => 3 | .cond => 4 | .measLoss => 5 | .intertrip => 6
  | .bus => 7 | .manual => 8

/-- A trip cause's priority (chapter 3, table of causes). -/
def Cause.priority : Cause → Nat
  | .instant => 6 | .step => 5 | .breakerOwn => 5 | .sustained => 4 | .cond => 4 | .measLoss => 4 | .intertrip => 4
  | .bus => 3 | .manual => 2

/-- Every cause once, by bit number. -/
def Cause.all : List Cause :=
  [.instant, .step, .breakerOwn, .sustained, .cond, .measLoss, .intertrip, .bus, .manual]

/-- A cause set as a word with one bit per cause. -/
def causeWord (cs : List Cause) : Nat :=
  ((Cause.all.filter (cs.contains ·)).map fun c => 2 ^ c.code).sum

def SecState.code : SecState → Nat
  | .closed => 0 | .tripping => 1 | .deadTime => 2 | .testWait => 3 | .lineTest => 4 | .closing => 5 | .reclaim => 6
  | .held => 7 | .opened => 8 | .lockout => 9 | .isolated => 10 | .breakerFail => 11

/-- A section is POWERED in CLOSED and RECLAIM and UNPOWERED in every other state (chapter 3). -/
def SecState.powered : SecState → Bool
  | .closed => true | .reclaim => true
  | .tripping => false | .deadTime => false | .testWait => false | .lineTest => false | .closing => false
  | .held => false | .opened => false | .lockout => false | .isolated => false | .breakerFail => false

def Feedback.code : Feedback → Nat
  | .opened => 0 | .closed => 1 | .travel => 2 | .discrepant => 3

def Origin.code : Origin → Nat
  | .closed => 0 | .reclaim => 1 | .closing => 2 | .sequence => 3

/-- The hold set as a word of the bits that chapter 10 lists; a reply sends it in 2 octets, DESIGN CHOICE [log 47]. -/
def Holds.word (h : Holds) : Nat :=
  markCode h.timer + 2 * markCode h.leak + 4 * markCode h.dewired + 8 * markCode h.switchLock + 16 * markCode h.noSupply

/-- No hold is present. -/
def Holds.isEmpty (h : Holds) : Bool :=
  !(h.timer || h.leak || h.dewired || h.switchLock || h.noSupply)

/-- Reasons of a LOCKOUT notice (R62). -/
inductive LockoutReason where
  | trip | testFault | holdLimit | closeFail | bus | halt | restart | busRelease
  deriving DecidableEq, Repr

def LockoutReason.code : LockoutReason → Nat
  | .trip => 0 | .testFault => 1 | .holdLimit => 2 | .closeFail => 3 | .bus => 4 | .halt => 5 | .restart => 6
  | .busRelease => 7

def TestResult.code : TestResult → Nat
  | .clear => 0 | .fault => 1 | .inconclusive => 2 | .noSupply => 3

def NoSupplyReason.code : NoSupplyReason → Nat
  | .none => 0 | .measurement => 1 | .busLow => 2

/-- The fourth word of TEST RESULT (10_formats.md). -/
def testWord (r : TestResult) (why : NoSupplyReason) (nPresent : Nat) : Nat :=
  2 ^ 14 * r.code + 2 ^ 12 * why.code + nPresent % 128

/-- A fault set as a word: LEAK bit 0, DEWIRED bit 1. -/
def faultWord (leak dewired : Bool) : Nat := markCode leak + 2 * markCode dewired

def Direction.code : Direction → Nat
  | .straight => 0 | .turnout => 1

/-- A route request's code in a telegram: 0 NONE, 1 STRAIGHT, 2 TURNOUT. -/
def routeCode : Route → Nat
  | none => 0 | some .straight => 1 | some .turnout => 2

def Position.code : Position → Nat
  | .straight => 0 | .turnout => 1 | .moving => 2 | .unknown => 3

/-- The position in which a frog stands at the end `d`. -/
def Direction.position : Direction → Position
  | .straight => .straight | .turnout => .turnout

def StationPosition.code : StationPosition → Nat
  | .straight => 0 | .turnout => 1 | .between => 2

/-- The end a station reports, if it reports one. -/
def StationPosition.atEnd : StationPosition → Option Direction
  | .straight => some .straight | .turnout => some .turnout | .between => none

def DriveStage.code : DriveStage → Nat
  | .none => 0 | .pending => 1 | .sent => 2

def Lock.code : Lock → Nat
  | .none => 0 | .pinned => 1 | .dewired => 2 | .failed => 3 | .noField => 4

def Rate.code : Rate → Nat
  | .fast => 0 | .medium => 1 | .slow => 2

def StationState.code : StationState → Nat
  | .unconfigured => 0 | .census => 1 | .online => 2 | .lost => 3 | .disabled => 4

def LoopFailure.code : LoopFailure → Nat
  | .none => 0 | .timeout => 1 | .gap => 2 | .check => 3 | .address => 4 | .format => 5

/-- A loop command's code (loop frames, octet 1). -/
def LoopCommand.code : LoopCommand → Nat
  | .poll => 1 | .drive _ => 2 | .census => 3

/-- A loop command's target (loop frames, octet 2). -/
def LoopCommand.target : LoopCommand → Nat
  | .poll => 0 | .census => 0 | .drive .straight => 1 | .drive .turnout => 2

/-- An exchange's phase as the argument of its unlisted code [log 7]. -/
def Phase.index : Phase → Nat
  | .sending => 0 | .awaiting _ => 1 | .receiving .. => 2

/-- The kind of station a record expects: 0 SWITCH, 1 BOUNDARY. -/
def Role.kindCode : Role → Option Nat
  | .unset => none | .switch _ => some 0 | .boundary .. => some 1

/-- A notice kind's code: its place in the table of notice kinds, from 1. -/
def NoticeKind.code : NoticeKind → Nat
  | .sampleGap => 1 | .measLost => 2 | .measRestored => 3 | .condition => 4 | .captureWatermark => 5
  | .captureOverrun => 6 | .captureFrozen => 7 | .trip => 8 | .recloseHeld => 9 | .holdExpired => 10 | .reclosed => 11
  | .closeFail => 12 | .lockout => 13 | .localClose => 14 | .breakerDiscrepancy => 15 | .breakerFail => 16
  | .busTripReleased => 17 | .halt => 18 | .testResult => 19 | .vehicleNew => 20 | .vehicleFound => 21
  | .vehicleLost => 22 | .vehicleOverdue => 23 | .vehicleForgotten => 24 | .vehicleFault => 25
  | .vehicleFaultCleared => 26 | .badTelegram => 27 | .tableFull => 28 | .queueFull => 29 | .mismatch => 30
  | .switchMoved => 31 | .unexpectedMove => 32 | .driveFail => 33 | .unannounced => 34 | .contactFault => 35
  | .dewire => 36 | .passageIncomplete => 37 | .stalled => 38 | .contactResync => 39 | .stationLost => 40
  | .stationOnline => 41 | .stationMismatch => 42 | .loopOverrun => 43 | .overflow => 44

/-- A notice source's type code. -/
def Source.typeCode : Source → Nat
  | .link => 0 | .port => 1 | .sec _ => 2 | .switch _ => 3 | .vehicle _ => 4 | .station _ => 5 | .generator _ => 6

/-- A notice source's number, 0 for LINK and PORT. -/
def Source.num : Source → Nat
  | .link => 0 | .port => 0 | .sec n => number n | .switch k => number k | .vehicle v => v | .station a => a
  | .generator g => number g

def Status.code : Status → Nat
  | .ok => 0 | .unknownKind => 1 | .badArgument => 2 | .badLength => 3 | .refusedState => 4 | .refusedHold => 5
  | .busy => 6 | .halted => 7

end Sys2Proof.Machine
end

