-- ==== Sys2Proof/Machine/Operands.lean ====
section
/-!
DEFINITION. The operand forms: the fields of a payload and of a frame (R186, R187, chapter 10's layouts), clamping
(R181), the host CRC, the loop's check octet, and the octets of a reply and of a loop request.
-/

namespace Sys2Proof.Machine

/-! ### Fields, high octet first (R186) -/

/-- The octet at place `k`, 0 beyond the end. -/
def octetAt (p : List Byte) (k : Nat) : Nat := (p.getD k 0).toNat

/-- The two-octet field at place `k`. -/
def halfAt (p : List Byte) (k : Nat) : Nat := 256 * octetAt p k + octetAt p (k + 1)

/-- The four-octet field at place `k`. -/
def wideAt (p : List Byte) (k : Nat) : Nat := 65536 * halfAt p k + halfAt p (k + 2)

/-- The signed two-octet field at place `k`. -/
def signedAt (p : List Byte) (k : Nat) : Int := (BitVec.ofNat 16 (halfAt p k)).toInt

/-- An amount held within its range (R181). -/
def clamp (lo hi n : Nat) : Nat := max lo (min hi n)

/-- A signed amount held within its range (R181). -/
def clampInt (lo hi n : Int) : Int := max lo (min hi n)

/-- The thing numbered `n` among `m`, if there is one. -/
def indexOf (m n : Nat) : Option (Fin m) :=
  if h : 1 ≤ n ∧ n ≤ m then some ⟨n - 1, by omega⟩ else none

/-- A two-valued code (0 or 1), if it names a value. -/
def switchCode (n : Nat) : Option Bool :=
  match n with
  | 0 => some false
  | 1 => some true
  | _ => none

/-- A parameter word; a value above 65535 is held at 65535 (R186). -/
def word (n : Nat) : Half := BitVec.ofNat 16 (min n 65535)

/-! ### The sample frame (chapter 10) -/

/-- The contents of a complete sample frame. -/
structure SampleFrame where
  count : Byte
  /-- current of each section, sign-extended from 15 bits -/
  current : Vector Int 8
  /-- voltage of each section, 12 bits -/
  voltage : Vector Nat 8
  ubus : Nat
  /-- both channels of the section are vouched for (R3) -/
  valid : Vector Bool 8
  ubusValid : Bool
  deriving DecidableEq, Repr

/-- A frame's 38 octets, 304 bits; what the converter clocks in after them is ignored (R186). -/
def sampleFrameOctets : Nat := 38

/-- A 16-bit current word's low 15 bits, sign-extended (R186). -/
def currentOf (n : Nat) : Int := (BitVec.ofNat 15 n).toInt

/-- A sample frame from its octets; none when not every field was received (R1). -/
def parseSampleFrame (p : List Byte) : Option SampleFrame :=
  if p.length < sampleFrameOctets then none
  else some
    { count := p.getD 0 0
      current := Vector.ofFn fun n : Sec => currentOf (halfAt p (1 + 2 * n.val))
      voltage := Vector.ofFn fun n : Sec => halfAt p (17 + 2 * n.val) % 4096
      ubus := halfAt p 33 % 4096
      valid := Vector.ofFn fun n : Sec => (p.getD 37 0).getLsbD n.val && (p.getD 36 0).getLsbD n.val
      ubusValid := (p.getD 35 0).getLsbD 0 }

/-! ### The host CRC (R186) -/

/-- One bit of the CRC: shift left, and add the polynomial 0x1021 when the top bit went out. -/
def crcBit (c : Half) : Half :=
  if c.getLsbD 15 then (c <<< 1) ^^^ 0x1021 else c <<< 1

/-- One octet into the CRC, most significant bit first. -/
def crcOctet (c : Half) (b : Byte) : Half :=
  crcBit (crcBit (crcBit (crcBit (crcBit (crcBit (crcBit (crcBit (c ^^^ (b.zeroExtend 16 <<< 8)))))))))

/-- The CRC-16 of a host frame, from 0xFFFF, with no reflection and no final inversion. -/
def crc16 (p : List Byte) : Half := p.foldl crcOctet 0xFFFF

/-! ### Replies (R179, R186) -/

/-- A value in `width` octets, high octet first. -/
def bigEndian (width value : Nat) : List Byte :=
  (List.range width).map fun k => BitVec.ofNat 8 (value / 256 ^ (width - 1 - k))

/-- The octets of one reply field. -/
def ReplyField.octets : ReplyField → List Byte
  | .nat width value => bigEndian width value
  | .int width value => bigEndian width (value % (256 ^ width : Nat)).toNat
  | .absent width => (List.range width).map fun k => Config.absentOctet width k
  | .power b => [Config.powerCode b]
  | .cyclePhase b => [Config.cyclePhaseCode b]
  | .exchangePhase p => [Config.exchangePhaseCode p]

/-- The payload octets of a reply. -/
def Reply.payload (r : Reply) : List Byte := r.fields.flatMap ReplyField.octets

/-- The octets a reply's CRC covers: length, kind with its top bit set, status, payload. -/
def Reply.covered (r : Reply) : List Byte :=
  BitVec.ofNat 8 (r.payload.length + 2) :: (r.kind ||| 0x80) :: BitVec.ofNat 8 r.status.code :: r.payload

/-- The octets of a reply on HOST TX. -/
def Reply.frame (r : Reply) : List Byte :=
  0xC5 :: r.covered ++ bigEndian 2 (crc16 r.covered).toNat

/-- A number that names a thing, 1 octet. -/
def fieldNo (n : Nat) : ReplyField := .nat 1 n

/-- A code, 1 octet. -/
def fieldCode (n : Nat) : ReplyField := .nat 1 n

/-- A mark or a line level, 1 octet. -/
def fieldMark (b : Bool) : ReplyField := .nat 1 (markCode b)

/-- A count or a value, 2 octets. -/
def fieldVal (n : Nat) : ReplyField := .nat 2 n

/-- A signed value, 2 octets. -/
def fieldInt (z : Int) : ReplyField := .int 2 z

/-- A Clock value, a time remaining or a count of milliseconds, 4 octets. -/
def fieldMs (n : Nat) : ReplyField := .nat 4 n

/-- A field of `width` octets that may be absent. -/
def fieldOpt (width : Nat) : Option Nat → ReplyField
  | none => .absent width
  | some n => .nat width n

/-- A number that names a thing, absent when there is none. -/
def fieldNoOpt {n : Nat} (i : Option (Fin n)) : ReplyField := fieldOpt 1 (i.map number)

/-- The time remaining of a timer, absent when it is stopped. -/
def fieldTimer (t : Timer) : ReplyField := fieldOpt 4 t

/-- The notice record in a FETCH NOTICES reply (chapter 10). -/
def Notice.fields (r : Notice) : List ReplyField :=
  [fieldVal r.entry.toNat, fieldCode r.kind.code, .nat 1 r.priority, fieldMs r.time.toNat, fieldCode r.source.typeCode,
    fieldVal r.source.num, .nat 1 r.words.length] ++ r.words.map fun w => fieldVal w.toNat

/-- The capture entry in a FETCH CAPTURE reply (chapter 10). -/
def CaptureEntry.fields (e : CaptureEntry) : List ReplyField :=
  [fieldVal e.seq.toNat, fieldInt e.current, fieldVal e.voltage, fieldInt e.rise, fieldInt e.filtered,
    .nat 1 (markCode e.rising + 2 * markCode e.saturated)]

/-! ### Host frames (R176, R177) -/

/-- The frame whose octets from the length octet on are `octets` has a CRC error, or is not whole (R177). -/
def hostFrameBad (octets : List Byte) : Bool :=
  let n := octetAt octets 0
  !(decide (octets.length = n + 3) && (crc16 (octets.take (n + 1))).toNat == halfAt octets (n + 1))

/-- The frame a request of this kind and payload travels in, from its length octet on. -/
def requestFrame (kind : Byte) (payload : List Byte) : List Byte :=
  let covered := BitVec.ofNat 8 (payload.length + 1) :: kind :: payload
  covered ++ bigEndian 2 (crc16 covered).toNat

/-! ### Loop frames (R187) -/

/-- The sum of a frame's octets modulo 256. -/
def octetSum (p : List Byte) : Byte := p.foldl (· + ·) 0

/-- A frame with its check octet, which makes the sum 0 modulo 256. -/
def withCheck (p : List Byte) : List Byte := p ++ [- octetSum p]

/-- The five octets of a loop request. -/
def loopRequest (e : Exchange) : List Byte :=
  withCheck [BitVec.ofNat 8 (number e.station), BitVec.ofNat 8 e.command.code, BitVec.ofNat 8 e.command.target,
    BitVec.ofNat 8 (markCode e.taken)]

/-- A vehicle telegram as a reply carries it. -/
structure Telegram where
  number : Nat
  route : Nat
  leak : Bool
  powerLost : Bool
  direction : Nat
  deriving DecidableEq, Repr

/-- The telegram whose five octets begin at place `k`. -/
def telegramAt (p : List Byte) (k : Nat) : Telegram where
  number := halfAt p k
  route := octetAt p (k + 2)
  leak := (p.getD (k + 3) 0).getLsbD 0
  powerLost := (p.getD (k + 3) 0).getLsbD 1
  direction := octetAt p (k + 4)

/-- A contact event: a pole enters or leaves. -/
inductive ContactEvent where
  | entry | exit
  deriving DecidableEq, Repr

/-- A contact event from its code. -/
def contactOf (n : Nat) : Option ContactEvent :=
  match n with
  | 1 => some .entry
  | 2 => some .exit
  | _ => none

/-- The contents of a reply that passes its checks. -/
structure LoopReply where
  mark : Bool
  /-- the kind code of octet 2 (0 SWITCH, 1 BOUNDARY in a census reply) -/
  kind : Nat
  position : Nat
  poles : Nat
  events : List ContactEvent
  telegrams : List Telegram
  deriving DecidableEq, Repr

/-- A switch station's position code, if it names a position of a switch station. -/
def stationPositionOf (n : Nat) : Option StationPosition :=
  match n with
  | 0 => some .straight
  | 1 => some .turnout
  | 2 => some .between
  | _ => none

/-- Every code of `codes` names a contact event: the events, in order. -/
def contactsOf : List Nat → Option (List ContactEvent)
  | [] => some []
  | n :: ns =>
    match contactOf n, contactsOf ns with
    | some e, some es => some (e :: es)
    | _, _ => none

/-- The FORMAT check of R187 on the octets of a reply. `kind` is the kind the position and the poles are read by: the
reply's own in a census, the record's in a poll. -/
def parseLoopBody (census : Bool) (kind : Nat) (p : List Byte) : Option LoopReply :=
  let e := octetAt p 4 / 16
  let t := octetAt p 4 % 4
  let position := octetAt p 2 % 4
  let poles := octetAt p 3
  if octetAt p 0 < 6 ∨ octetAt p 0 > 64 ∨ e > 8 ∨ t > 2 ∨ octetAt p 0 ≠ 6 + e + 5 * t then none
  else if census ∧ kind > 1 then none
  else if kind = 1 ∧ position ≠ 3 ∨ kind ≠ 1 ∧ position = 3 then none
  else if census ∧ kind = 0 ∧ poles > 2 then none
  else
    match contactsOf ((List.range e).map fun k => octetAt p (5 + k)) with
    | none => none
    | some events => some
        { mark := (p.getD 2 0).getLsbD 7
          kind := octetAt p 2 / 16 % 4
          position := position
          poles := poles
          events := events
          telegrams := (List.range t).map fun k => telegramAt p (5 + e + 5 * k) }

/-- R152's checks on a complete reply to an exchange with station `a`, in their order; a reply too short to hold an
address fails ADDRESS, DEDUCED [log 21]. `recordKind` is the kind of the station's record. -/
def parseLoopReply (a : Sta) (census : Bool) (recordKind : Nat) (p : List Byte) : Except LoopFailure LoopReply :=
  if octetSum p ≠ 0 then .error .check
  else if p.length < 2 ∨ octetAt p 1 ≠ number a then .error .address
  else
    match parseLoopBody census (if census then octetAt p 2 / 16 % 4 else recordKind) p with
    | none => .error .format
    | some r => .ok r

/-- The octets received make a complete reply (R152). -/
def loopComplete (p : List Byte) : Bool := decide (octetAt p 0 ≤ p.length)

/-- The start limit in ms of R151. -/
def startLimit (r : Rate) (relax : Nat) : Nat :=
  (match r with | .fast => 1 | .medium => 3 | .slow => 8) * (relax + 1)

/-- The gap limit of R151 in bit times of the rate: four octets of ten bits, times one more than the relax. -/
def gapLimit (relax : Nat) : Nat := 40 * (relax + 1)

end Sys2Proof.Machine
end

