-- ==== Sys2Proof/Machine/Ops.lean ====
section
/-!
DEFINITION. The named operations the blocks share: updates of one block's record, the drawn order of equal blocks,
queuing a notice (R165 to R167, R170), the Vehicle Table's counts (R93) and timers.
-/

namespace Sys2Proof.Machine

/-! ### Updates of one record -/

/-- A vector with the entry at `i` changed by `f`. -/
def updateAt {α : Type} {n : Nat} (v : Vector α n) (i : Fin n) (f : α → α) : Vector α n := v.set i (f v[i])

def State.modFpu (s : State) (n : Sec) (f : Fpu → Fpu) : State := { s with fpus := updateAt s.fpus n f }

def State.modGen (s : State) (g : Gen) (f : Generator → Generator) : State := { s with gens := updateAt s.gens g f }

def State.modCap (s : State) (n : Sec) (f : Capture → Capture) : State := { s with caps := updateAt s.caps n f }

def State.modSec (s : State) (n : Sec) (f : Section → Section) : State := { s with secs := updateAt s.secs n f }

def State.modSw (s : State) (k : Sw) (f : SwitchPoint → SwitchPoint) : State := { s with sws := updateAt s.sws k f }

def State.modArb (s : State) (f : Arbiter → Arbiter) : State := { s with arb := f s.arb }

def State.modVt (s : State) (f : VehicleTable → VehicleTable) : State := { s with vt := f s.vt }

def State.modLoop (s : State) (f : Loop → Loop) : State := { s with loop := f s.loop }

def State.modLink (s : State) (f : Link → Link) : State := { s with link := f s.link }

def State.modNotices (s : State) (f : NoticeQueue → NoticeQueue) : State := { s with notices := f s.notices }

def State.modStation (s : State) (a : Sta) (f : Station → Station) : State :=
  s.modLoop fun l => { l with stations := updateAt l.stations a f }

/-- Change the record in a slot, if the slot holds one. -/
def State.modSlot (s : State) (slot : Slot) (f : Vehicle → Vehicle) : State :=
  s.modVt fun t => { t with slots := updateAt t.slots slot (Option.map f) }

/-! ### Orders the manual leaves open [log 5] -/

/-- Insert a block before the first of a higher rank. -/
def insertByRank (rank : Nat → Nat) (i : Fin 8) : List (Fin 8) → List (Fin 8)
  | [] => [i]
  | j :: js => if rank i.val ≤ rank j.val then i :: j :: js else j :: insertByRank rank i js

/-- The eight blocks of a kind in the order of their ranks. -/
def orderByRank (rank : Nat → Nat) : List (Fin 8) :=
  (List.finRange 8).foldr (insertByRank rank) []

/-- The order of eight equal blocks at this step. -/
def State.order (s : State) : List (Fin 8) := orderByRank (Config.rank s.draws)

/-- The order in which section `n`'s generators are evaluated at its arrival of this step, free of the order of the sections,
DESIGN CHOICE [log 40]. -/
def State.generatorOrder (n : Sec) (s : State) : List Gen := orderByRank (Config.generatorRank s.draws n.val)

/-- The step has used its draw. -/
def State.drawn (s : State) : State := { s with draws := s.draws + 1 }

/-- Take `f` for each of the blocks in turn. -/
def forEach {ι : Type} (l : List ι) (f : ι → State → State) (s : State) : State :=
  l.foldl (fun s i => f i s) s

/-! ### The Notice Queue (chapter 8) -/

/-- ATTN is asserted exactly while a stored record's priority exceeds the mask (R170). -/
def attnLevel (mask : Nat) (records : List Notice) : Bool := records.any fun r => decide (mask < r.priority)

/-- Set the ATTN line by R170. -/
def NoticeQueue.withAttn (q : NoticeQueue) : NoticeQueue := { q with attn := attnLevel q.mask q.records }

/-- Store a record as the newest, stamped with the Clock and the entry counter (R165). -/
def NoticeQueue.store (q : NoticeQueue) (time : ClockValue) (kind : NoticeKind) (priority : Nat) (source : Source)
    (words : List Half) : NoticeQueue :=
  NoticeQueue.withAttn
    { q with
      records := q.records ++ [{ entry := q.counter, kind, priority, time, source, words }]
      counter := q.counter + 1 }

/-- Count one more dropped notice of priority `priority` in an OVERFLOW record's words (R167). -/
def countDropped (priority : Nat) : List Half → List Half
  | [kind, first, dropped, highest] =>
    [kind, first, if dropped = 65535 then dropped else dropped + 1, word (max highest.toNat priority)]
  | ws => ws

/-- Change the last element of a list. -/
def modifyNewest {α : Type} (f : α → α) : List α → List α
  | [] => []
  | [x] => [f x]
  | x :: y :: ys => x :: modifyNewest f (y :: ys)

/-- The Notice Queue takes one notice (R165, R166, R167). With 47 records and the mark clear an OVERFLOW record is stored in
its place by R166, even right after a fetch of 1 cleared the mark, where R168 speaks of the notice being stored: DESIGN
CHOICE [log 45]. -/
def NoticeQueue.take (q : NoticeQueue) (time : ClockValue) (kind : NoticeKind) (priority : Nat) (source : Source)
    (words : List Half) : NoticeQueue :=
  if q.overflow then
    { q with records := modifyNewest (fun r => { r with words := countDropped priority r.words }) q.records }
  else if q.records.length < 47 then q.store time kind priority source words
  else
    { q.store time .overflow 6 .link [word kind.code, word priority, 1, word priority] with overflow := true }

/-- A block queues a notice. -/
def queueNotice (kind : NoticeKind) (priority : Nat) (source : Source) (words : List Half) (s : State) : State :=
  s.modNotices fun q => q.take s.clock kind priority source words

/-! ### The Vehicle Table's counts (R93) -/

/-- How many records a section counts that satisfy `p`. -/
def State.countVehicles (s : State) (n : Sec) (p : Vehicle → Bool) : Nat :=
  s.vt.slots.toList.countP fun r =>
    match r with
    | none => false
    | some v => v.sec == some n && p v

def State.present (s : State) (n : Sec) : Nat := s.countVehicles n fun _ => true

def State.active (s : State) (n : Sec) : Nat := s.countVehicles n (·.active)

def State.leaking (s : State) (n : Sec) : Nat := s.countVehicles n (·.leak)

def State.dewired (s : State) (n : Sec) : Nat := s.countVehicles n (·.dewired)

/-! ### Timers -/

/-- One millisecond passes for a running timer; at 0 it waits for its expiry to be taken [log 1], [log 2]. -/
def tickTimer (t : Timer) : Timer := t.map (· - 1)

/-- One millisecond passes for a timer that can be suspended. -/
def SwTimer.tick : SwTimer → SwTimer
  | .running r => .running (r - 1)
  | .stopped => .stopped
  | .suspended r => .suspended r

def SwTimer.isRunning : SwTimer → Bool
  | .running _ => true
  | .stopped => false
  | .suspended _ => false

/-- Suspend a running timer with its time kept (R139). -/
def SwTimer.suspend : SwTimer → SwTimer
  | .running r => .suspended r
  | .stopped => .stopped
  | .suspended r => .suspended r

/-- Resume a suspended timer from its time (R140). -/
def SwTimer.resume : SwTimer → SwTimer
  | .suspended r => .running r
  | .stopped => .stopped
  | .running r => .running r

/-- The time remaining of a running or suspended timer. -/
def SwTimer.remaining : SwTimer → Timer
  | .running r => some r
  | .suspended r => some r
  | .stopped => none

end Sys2Proof.Machine
end

