-- ==== Sys2Proof/Machine/Answer.lean ====
section
/-!
DEFINITION. Taking a request and answering it (R175, R177 to R182): the checks common to every request kind, and the
reply that is then in progress.
-/

namespace Sys2Proof.Machine

/-- The receiver returns to HUNTING, its slot empty and its gap timer stopped (R176, R177). -/
def Link.toHunting (l : Link) : Link := { l with receiver := .hunting, gapTimer := none }

/-- What the owning block decides: the state after, the status and the fields of the reply's payload. -/
structure Answer where
  state : State
  status : Status
  fields : List ReplyField

/-- The request is carried out (check 6 passed). -/
def accept (s : State) (fields : List ReplyField) : Answer := ⟨s, .ok, fields⟩

/-- The request is refused by check 5: no payload, nothing changes (R179, R181). -/
def badArgument (s : State) : Answer := ⟨s, .badArgument, []⟩

/-- The request is refused by the owning block's state: nothing changes, and the reply shows the state (R179). -/
def refuseState (s : State) (fields : List ReplyField) : Answer := ⟨s, .refusedState, fields⟩

/-- The request is refused by a section's hold set (R179). -/
def refuseHold (s : State) (fields : List ReplyField) : Answer := ⟨s, .refusedHold, fields⟩

/-- A reply begins (R177). -/
def reply (kind : Byte) (status : Status) (fields : List ReplyField) (s : State) : State :=
  s.modLink fun l => { l with reply := some { kind, status, fields } }

/-- A request frame of kind `kind` completes with a good CRC (R177), and is checked and answered in the order of R178:
`sizeOk` is check 3, `duringHalt` says whether the kind is answered during a halt (R182), `owner` makes checks 5 and 6
and carries the request out before the reply is sent (R180). -/
def takeRequest (kind : Byte) (sizeOk duringHalt : Bool) (owner : State → Answer) (s : State) : State :=
  let s := s.modLink Link.toHunting
  if s.link.reply.isSome then s
  else if s.link.startPeriod.isSome then reply kind .busy [] s
  else if !sizeOk then reply kind .badLength [] s
  else if s.halted && !duringHalt then reply kind .halted [] s
  else
    let a := owner s
    reply kind a.status a.fields a.state

/-- A request whose payload has a fixed size. -/
def takeFixed (kind : Byte) (size : Nat) (duringHalt : Bool) (payload : List Byte) (owner : State → Answer)
    (s : State) : State :=
  takeRequest kind (payload.length == size) duringHalt owner s

/-- A request whose first octet names one of `m` things: outside 1 to `m` it is a bad argument (R181). -/
def naming (m : Nat) (payload : List Byte) (owner : Fin m → State → Answer) (s : State) : Answer :=
  match indexOf m (octetAt payload 0) with
  | none => badArgument s
  | some i => owner i s

end Sys2Proof.Machine
end

