-- ==== Sys2Proof/Machine/Capture.lean ====
section
/-!
DEFINITION. The Capture Buffers (R36 to R45): entries, trigger, gate, and their requests.
-/

namespace Sys2Proof.Machine

/-- The capture state in which a mode begins (R37). -/
def CaptureMode.begins : CaptureMode → CaptureState
  | .off => .idle | .fill => .filling | .ring => .ringing | .freezeOnTrip => .awaitTrip | .onCondition => .gated

/-- A generator's capture gate is open in ON, RELEASE and LATCHED with CAPTURE in its action set (R33). -/
def Generator.gateOpen (g : Generator) : Bool :=
  g.setting.capture &&
    match g.out with
    | .on => true | .release _ => true | .latched => true | .off => false | .onset _ => false

/-- A buffer restarts under a setting record (R37, R45): entries discarded, overrun clear, counters 0, watermark armed,
the mode's first state, and in GATED the named generator's present gate. -/
def Capture.restarted (gateOf : Gen → Bool) (setting : CaptureSetting) (b : Capture) : Capture :=
  { b with
    setting := setting
    state := setting.mode.begins
    entries := []
    overrun := false
    decCount := 0
    remainder := 0
    armed := true
    gate := if setting.mode = .onCondition then gateOf setting.gen else b.gate }

/-- Sequence number of the newest entry held, 0 if none (R40, R42). -/
def Capture.newestSeq (b : Capture) : Half := (b.entries.getLast?.map (·.seq)).getD 0

/-- Append a written candidate and watch the watermark: it raises the unread count to W while armed (R42). -/
def captureAppend (n : Sec) (e : CaptureEntry) (s : State) : State :=
  let s := s.modCap n fun b => { b with entries := b.entries ++ [e] }
  let b := s.caps[n]
  if b.armed && b.entries.length == b.setting.watermark then
    let s := queueNotice .captureWatermark 2 (.sec n) [word b.entries.length, e.seq] s
    s.modCap n fun b => { b with armed := false }
  else s

/-- A candidate is ring-written (R39). -/
def captureRing (n : Sec) (e : CaptureEntry) (s : State) : State :=
  let b := s.caps[n]
  match b.entries with
  | oldest :: rest =>
    if b.entries.length < 64 then captureAppend n e s
    else
      let s := s.modCap n fun b => { b with entries := rest ++ [e], overrun := true }
      if b.overrun then s else queueNotice .captureOverrun 3 (.sec n) [oldest.seq] s
  | [] => captureAppend n e s

/-- The buffer enters FROZEN (R40). -/
def captureFreeze (n : Sec) (s : State) : State :=
  let s := s.modCap n fun b => { b with state := .frozen }
  let b := s.caps[n]
  queueNotice .captureFrozen 4 (.sec n)
    [word b.entries.length, b.newestSeq, word ((b.trigger.map Cause.code).getD 0)] s

/-- A candidate is written or discarded by the rule of the capture state (R38 to R41). -/
def captureCandidate (n : Sec) (e : CaptureEntry) (s : State) : State :=
  match s.caps[n].state with
  | .idle => s
  | .full => s
  | .frozen => s
  | .filling =>
    let s := captureAppend n e s
    if s.caps[n].entries.length ≥ 64 then s.modCap n fun b => { b with state := .full } else s
  | .ringing => captureRing n e s
  | .awaitTrip => captureRing n e s
  | .postTrigger =>
    let s := captureRing n e s
    let s := s.modCap n fun b => { b with remainder := b.remainder - 1 }
    if s.caps[n].remainder = 0 then captureFreeze n s else s
  | .gated => if s.caps[n].gate then captureRing n e s else s

/-- The buffer discards every entry in this state, and its decimation counter stands still (R36). -/
def CaptureState.discards : CaptureState → Bool
  | .idle => true | .full => true | .frozen => true
  | .filling => false | .ringing => false | .awaitTrip => false | .postTrigger => false | .gated => false

/-- The FPU hands its buffer a capture entry (R36): one in N is a candidate. -/
def captureEntry (n : Sec) (e : CaptureEntry) (s : State) : State :=
  let b := s.caps[n]
  if b.state.discards then s
  else
    let s := s.modCap n fun b => { b with decCount := (b.decCount + 1) % b.setting.decimation }
    if b.decCount = 0 then captureCandidate n e s else s

/-- The section has entered TRIPPING: the trigger (R40), with the principal cause of the trip record. -/
def captureTrigger (n : Sec) (c : Cause) (s : State) : State :=
  let b := s.caps[n]
  if b.state = .awaitTrip then
    let s := s.modCap n fun b =>
      { b with remainder := b.setting.post, trigger := some c, state := .postTrigger }
    if b.setting.post = 0 then captureFreeze n s else s
  else s

/-- A generator's gate stands at `open?`: told to every buffer in mode ON_CONDITION that names it (R33, R41). -/
def tellGate (g : Gen) (isOpen : Bool) (s : State) : State :=
  { s with caps := s.caps.map fun b =>
      if b.setting.mode = .onCondition ∧ b.setting.gen = g then { b with gate := isOpen } else b }

/-- A buffer's step of a RESTART (R45). -/
def captureRestart (s : State) : State :=
  { s with caps := s.caps.map fun b => b.restarted (fun g => s.gens[g].gateOpen) b.setting }

/-! ### Requests -/

/-- The setting record as a reply carries it: mode, N, P, W, named generator. -/
def CaptureSetting.fields (c : CaptureSetting) : List ReplyField :=
  [fieldCode c.mode.code, .nat 1 c.decimation, .nat 1 c.post, .nat 1 c.watermark, fieldNo (number c.gen)]

/-- A capture mode from its code. -/
def captureModeOf (n : Nat) : Option CaptureMode :=
  match n with
  | 0 => some .off
  | 1 => some .fill
  | 2 => some .ring
  | 3 => some .freezeOnTrip
  | 4 => some .onCondition
  | _ => none

/-- SET CAPTURE at its buffer (R37). -/
def setCapture (p : List Byte) (s : State) : Answer :=
  naming 8 p (fun n s =>
    match captureModeOf (octetAt p 1), indexOf 8 (octetAt p 5) with
    | some mode, some gen =>
      let c : CaptureSetting :=
        { mode, decimation := clamp 1 16 (octetAt p 2), post := clamp 0 63 (octetAt p 3),
          watermark := clamp 1 64 (octetAt p 4), gen }
      let s := s.modCap n fun b => b.restarted (fun g => s.gens[g].gateOpen) c
      accept s (c.fields ++ [fieldCode s.caps[n].state.code])
    | _, _ => badArgument s) s

/-- GET CAPTURE (R44). -/
def getCapture (p : List Byte) (s : State) : Answer :=
  naming 8 p (fun n s =>
    let b := s.caps[n]
    accept s (b.setting.fields ++
      [fieldCode b.state.code, fieldVal b.entries.length, fieldMark b.overrun, fieldVal b.decCount,
        fieldVal b.remainder, fieldMark b.armed, fieldMark b.gate])) s

/-- The buffer after a fetch of `count` entries (R43). -/
def Capture.fetched (count : Nat) (b : Capture) : Capture :=
  { b with
    entries := b.entries.drop count
    overrun := false
    armed := b.armed || decide ((b.entries.drop count).length < b.setting.watermark) }

/-- FETCH CAPTURE (R43). The reply carries the entries, oldest first, then the number returned, the unread count after,
the capture state and the overrun flag as it stood before. -/
def fetchCapture (p : List Byte) (s : State) : Answer :=
  naming 8 p (fun n s =>
    let b := s.caps[n]
    let count := clamp 1 16 (octetAt p 1)
    let out := b.entries.take count
    let s := s.modCap n (Capture.fetched count)
    accept s (out.flatMap CaptureEntry.fields ++
      [fieldVal out.length, fieldVal s.caps[n].entries.length, fieldCode b.state.code, fieldMark b.overrun])) s

/-! ### The commands of this family -/

/-- The request SET_CAPTURE is taken (R37). -/
def reqSetCapture (p : List Byte) (s : State) : State := takeFixed 0x0C 6 false p (setCapture p) s

/-- SET_CAPTURE (R37). -/
def execSetCapture (p : List Byte) (s : State) : Host.Outcome State Fault Refusal := .next (reqSetCapture p s)

/-- The request GET_CAPTURE is taken (R44). -/
def reqGetCapture (p : List Byte) (s : State) : State := takeFixed 0x0D 1 true p (getCapture p) s

/-- GET_CAPTURE (R44). -/
def execGetCapture (p : List Byte) (s : State) : Host.Outcome State Fault Refusal := .next (reqGetCapture p s)

/-- The request FETCH_CAPTURE is taken (R43). -/
def reqFetchCapture (p : List Byte) (s : State) : State := takeFixed 0x0E 2 true p (fetchCapture p) s

/-- FETCH_CAPTURE (R43). -/
def execFetchCapture (p : List Byte) (s : State) : Host.Outcome State Fault Refusal := .next (reqFetchCapture p s)

end Sys2Proof.Machine
end

