-- ==== Sys2Proof/Machine/SwitchDrives.lean ====
section
/-!
DEFINITION. The part of a Switch Point Controller that the other blocks lean on: the serving rule at the end of each
event (R121, R122), the cancelling of a drive, and power reports (R126).
-/

namespace Sys2Proof.Machine

/-- Conditions 2 to 7 of R121: nothing but the head and its direction is left to ask. -/
def SwitchPoint.mayServe (halted : Bool) (w : SwitchPoint) : Bool :=
  decide (w.position ≠ .moving) && w.poles == 0 && decide (w.lock = .none) && w.feeding.isSome && w.power
    && w.bound.isSome && decide (w.station = .online) && !halted

/-- A drive is made toward `d`: target, stage PENDING, position MOVING (R121, R135). -/
def SwitchPoint.startDrive (w : SwitchPoint) (d : Direction) : SwitchPoint :=
  { w with target := d, stage := .pending, carried := false, position := .moving }

/-- The serving rule (R121). -/
def SwitchPoint.serve (halted : Bool) (w : SwitchPoint) : SwitchPoint :=
  match w.queue.head? with
  | none => w
  | some h => if w.mayServe halted && decide (w.position ≠ h.dir.position) then w.startDrive h.dir else w

/-- A drive is cut short: supervision stops, stage NONE, position UNKNOWN (R126, R128, R130, R139). -/
def SwitchPoint.cancelDrive (w : SwitchPoint) : SwitchPoint :=
  { w with driveTimer := none, stage := .none, position := .unknown }

/-- MISMATCH for a pinned switch point (R122): at the end of an event at which a vehicle became the head, the head's
direction changed or a pin was taken, the head's direction differs from the position. -/
def pinnedMismatch (k : Sw) (before : Option QueueEntry) (pin : Bool) (s : State) : State :=
  let w := s.sws[k]
  match w.queue.head? with
  | none => s
  | some h =>
    if decide (w.lock = .pinned) && decide (w.position ≠ h.dir.position) && (pin || decide (before ≠ some h)) then
      queueNotice .mismatch 4 (.switch k) [word h.number, word h.dir.code, word w.position.code, 0] s
    else s

/-- One event of switch point `k`: its effect `f`, then the serving rule, then the pinned MISMATCH (R121, R122). -/
def swEvent (k : Sw) (pin : Bool) (f : State → State) (s : State) : State :=
  let before := s.sws[k].queue.head?
  let s := f s
  let s := s.modSw k (SwitchPoint.serve s.halted)
  pinnedMismatch k before pin s

/-- A power report's effect on the record (R126): UNPOWERED while MOVING cancels the drive. -/
def SwitchPoint.takePower (powered : Bool) (w : SwitchPoint) : SwitchPoint :=
  let w := { w with power := powered }
  if !powered && decide (w.position = .moving) then w.cancelDrive else w

/-- Switch point `k` takes a power report (R126). -/
def swPower (powered : Bool) (k : Sw) (s : State) : State :=
  swEvent k false (fun s => s.modSw k (SwitchPoint.takePower powered)) s

/-- A section's power condition is reported to its switch points and to the Vehicle Table (R61, R94). -/
def reportPower (n : Sec) (powered : Bool) (s : State) : State :=
  let s := forEach (List.finRange 16)
    (fun k s => if s.sws[k].feeding = some n then swPower powered k s else s) s
  s.modVt fun t => { t with power := t.power.set n powered }

end Sys2Proof.Machine
end

