-- ==== Sys2Proof/Machine/LoopCycle.lean ====
section
/-!
DEFINITION. The cycle of the field loop: choosing and building the next exchange (R146, R149), the end of a cycle
(R147), aborting an exchange (R158) and holding drives for a halt (R161).
-/

namespace Sys2Proof.Machine

/-- The levels of the LOOP DIRECTION line. -/
inductive LoopDirection where
  | transmit | receive
  deriving DecidableEq, Repr

/-- The LOOP DIRECTION line (R151, R158): transmit while a request goes out, receive from its last octet or its abort on,
and between exchanges. The phase holds it. -/
def Loop.direction (l : Loop) : LoopDirection :=
  match l.exchange with
  | none => .receive
  | some e =>
    match e.phase with
    | .sending => .transmit
    | .awaiting _ => .receive
    | .receiving .. => .receive

/-- The switch point a station record binds. -/
def Role.switchPoint : Role → Option Sw
  | .switch k => k | .unset => none | .boundary .. => none

/-- The lowest address above `pos` whose station is ONLINE, other than one this cycle's census made ONLINE (R146). -/
def Loop.nextPoll (l : Loop) : Option Sta :=
  (List.finRange 32).find? fun a =>
    decide (l.pollPos < number a) && decide (l.stations[a].state = .online) && decide (l.found ≠ some a)

/-- A station in CENSUS or LOST is a candidate for the census exchange (R146). -/
def Station.wantsCensus (r : Station) : Bool := decide (r.state = .census) || decide (r.state = .lost)

/-- The census candidate: the lowest above the census position, else the lowest in the table (R146). -/
def Loop.nextCensus (l : Loop) : Option Sta :=
  match (List.finRange 32).find? fun a => decide (l.censusPos < number a) && l.stations[a].wantsCensus with
  | some a => some a
  | none => (List.finRange 32).find? fun a => l.stations[a].wantsCensus

/-- The command of a poll's request: DRIVE for a PENDING drive of the bound switch point unless drives are held, else
POLL (R149). -/
def pollCommand (a : Sta) (s : State) : LoopCommand :=
  match s.loop.stations[a].role.switchPoint with
  | none => .poll
  | some k =>
    if decide (s.sws[k].stage = .pending) && !s.loop.holding then .drive s.sws[k].target else .poll

/-- The exchange with station `a` begins: its request is built and goes out, LOOP DIRECTION at transmit (R149, R151). -/
def beginExchange (a : Sta) (c : LoopCommand) (s : State) : State :=
  s.modLoop fun l =>
    { l with
      lastAddressed := number a
      exchange := some
        { station := a, command := c, rate := l.stations[a].rate, taken := l.stations[a].mark.getD false
          phase := .sending } }

/-- The bound switch point's drive travels in the request just built (R123) [log 33]. -/
def markCarried (a : Sta) (c : LoopCommand) (s : State) : State :=
  match c, s.loop.stations[a].role.switchPoint with
  | .drive _, some k => s.modSw k fun w => { w with carried := true }
  | .drive _, none => s
  | .poll, _ => s
  | .census, _ => s

/-- The poll of station `a` begins (R146, R149). -/
def beginPoll (a : Sta) (s : State) : State :=
  let c := pollCommand a s
  beginExchange a c (markCarried a c (s.modLoop fun l => { l with pollPos := number a }))

/-- Choose the next exchange of the running cycle and begin it; false when the cycle's exchanges have ended (R146). -/
def tryExchange (s : State) : State × Bool :=
  match s.loop.nextPoll with
  | some a => (beginPoll a s, true)
  | none =>
    if s.loop.censusDone then (s, false)
    else
      match s.loop.nextCensus with
      | some a =>
        (beginExchange a .census (s.modLoop fun l => { l with censusPos := number a, censusDone := true }), true)
      | none => (s.modLoop fun l => { l with censusDone := true }, false)

/-- A cycle starts (R146). -/
def Loop.startCycle (l : Loop) : Loop :=
  { l with running := true, cycleTimer := some l.cycleTime, cycleMs := 0, pollPos := 0, censusDone := false
           late := false, lastAddressed := 0, found := none }

/-- The loop rests until the cycle timer expires (R147). -/
def Loop.rest (l : Loop) : Loop := { l with running := false, overrun := false }

/-- A cycle starts and its first exchange is chosen; with no exchange to make it rests at once (R146). -/
def newCycle (s : State) : State :=
  match tryExchange (s.modLoop Loop.startCycle) with
  | (s, true) => s
  | (s, false) => s.modLoop Loop.rest

/-- The cycle's exchanges have ended (R147): rest, or when late start the next cycle at once, with LOOP OVERRUN at the
start of a run. -/
def endCycle (s : State) : State :=
  let l := s.loop
  if l.late then
    let s :=
      if l.overrun then s
      else
        queueNotice .loopOverrun 3 (.station l.lastAddressed) [word l.cycleTime, word l.cycleMs]
          (s.modLoop fun l => { l with overrun := true })
    newCycle s
  else s.modLoop Loop.rest

/-- An exchange has ended: the next one is chosen at once (R146, R150). -/
def nextExchange (s : State) : State :=
  match tryExchange s with
  | (s, true) => s
  | (s, false) => endCycle s

/-- The exchange in flight is gone, LOOP DIRECTION at receive (R158). -/
def dropExchange (s : State) : State := s.modLoop fun l => { l with exchange := none }

/-- The exchange in flight, if any, is aborted and the cycle goes on: neither a success nor a failure, and a drive it
carried stays PENDING (R158). -/
def abortAndContinue (s : State) : State :=
  match s.loop.exchange with
  | none => s
  | some _ => nextExchange (dropExchange s)

/-- LOOP RESET's effect, and RESTART's on the loop (R160, R162): the exchange is aborted, the cycle ends and a new one
starts, the overrun run mark clear and the census position kept. -/
def resetCycle (s : State) : State :=
  newCycle ((dropExchange s).modLoop fun l => { l with overrun := false })

/-- The loop learns of a halt (R161): it holds drives, and a DRIVE request still SENDING is aborted. -/
def holdDrives (s : State) : State :=
  let s := s.modLoop fun l => { l with holding := true }
  match s.loop.exchange with
  | some { command := .drive _, phase := .sending, .. } => abortAndContinue s
  | _ => s

end Sys2Proof.Machine
end

