-- ==== Sys2Proof/Machine/SectionCore.lean ====
section
/-!
DEFINITION. The Section Controller's shared operations: entering a state with its lines and timers (R46), the Test
Arbiter's list, grants and releases (R77 to R80, R57), holds (R54, R56), trip requests (R49 to R52), readings that move
the breaker (R59, R69), breaker failure and the halt (R70, R72).
-/

namespace Sys2Proof.Machine

/-! ### Entering a state (R46) -/

/-- OPEN, LOCKOUT and ISOLATED, whose trip line follows the feedback (R46). -/
def SecState.openLike : SecState → Bool
  | .opened => true | .lockout => true | .isolated => true
  | .closed => false | .tripping => false | .deadTime => false | .testWait => false | .lineTest => false
  | .closing => false | .reclaim => false | .held => false | .breakerFail => false

/-- The trip line of a state at its entry, not halted (the state table, R46). -/
def SecState.tripAtEntry (st : SecState) (f : Feedback) : Bool :=
  match st with
  | .closed => false | .closing => false | .reclaim => false
  | .tripping => true | .deadTime => true | .testWait => true | .lineTest => true | .held => true
  | .breakerFail => true
  | .opened => decide (f ≠ .opened) | .lockout => decide (f ≠ .opened) | .isolated => decide (f ≠ .opened)

/-- The three lines at entry into the present state; a halted part asserts every trip line and releases the others
(R46, R72, R73). -/
def Section.withLines (halted : Bool) (r : Section) : Section :=
  { r with
    tripLine := halted || r.state.tripAtEntry r.feedback
    closeLine := !halted && decide (r.state = .closing)
    testLine := !halted && decide (r.state = .lineTest) }

/-- The record as the section enters state `st`: the timers of the state left stop, those of `st` start, the lines are
set, and CLOSED, OPEN, LOCKOUT and ISOLATED remove NO_SUPPLY (R46, R49, R53, R54, R58, R59). The dead timer and the hold
limit are started by the rules that enter DEAD_TIME and HELD. -/
def Section.entered (halted : Bool) (st : SecState) (r : Section) : Section :=
  Section.withLines halted
    { r with
      state := st
      opening :=
        if st = .tripping ∨ st.openLike ∧ r.feedback ≠ .opened then some r.settings.openLimit else none
      deadTimer := none
      closing := if st = .closing then some r.settings.closeLimit else none
      reclaim := if st = .reclaim then some r.settings.reclaim else none
      holdLimit := none
      held := false
      heldSince := none
      trippingMs := if st = .tripping then 0 else r.trippingMs
      holds := { r.holds with noSupply := r.holds.noSupply && !(st.openLike || decide (st = .closed)) } }

/-- The section enters `st` with no report. -/
def enter (n : Sec) (st : SecState) (s : State) : State := s.modSec n (Section.entered s.halted st)

/-- A change between POWERED and UNPOWERED is reported (R61). -/
def reportChange (n : Sec) (was : SecState) (s : State) : State :=
  if was.powered = s.secs[n].state.powered then s else reportPower n s.secs[n].state.powered s

/-- The section enters LOCKOUT and queues LOCKOUT after the event's other notices (R62). -/
def enterLockout (n : Sec) (why : LockoutReason) (s : State) : State :=
  let s := enter n .lockout s
  queueNotice .lockout 5 (.sec n) [word why.code, word s.secs[n].attempt] s

/-- The dead time of the number given. -/
def DeadTimes.time (d : DeadTimes) (k : Nat) : Nat :=
  match k with
  | 0 => d.first
  | 1 => d.first
  | 2 => d.second
  | _ => d.third

/-- The section enters DEAD_TIME with the latched dead time numbered `k` (R53). -/
def enterDead (n : Sec) (k : Nat) (s : State) : State :=
  (enter n .deadTime s).modSec n fun r => { r with deadTimer := some (r.dead.time k) }

/-- The section enters HELD (R58). -/
def enterHeld (n : Sec) (s : State) : State :=
  (enter n .held s).modSec n fun r =>
    { r with heldSince := some s.clock, holdLimit := some r.settings.holdLimit }

/-! ### The Test Arbiter's list and circuits (R77 to R80) -/

/-- How many circuits have a holder. -/
def Arbiter.held (a : Arbiter) : Nat := a.holders.toList.countP (·.isSome)

/-- A free and usable circuit, the lower-numbered first (R78). -/
def Arbiter.freeCircuit (a : Arbiter) : Option Circuit :=
  (List.finRange 2).find? fun c => decide (number c ≤ a.count) && (a.holders[c]).isNone

/-- The circuit's holder and test context are cleared (R80, R88). -/
def Arbiter.clear (a : Arbiter) (c : Circuit) : Arbiter :=
  { a with holders := a.holders.set c none, contexts := a.contexts.set c none }

/-- The grant of circuit `c` reaches section `n` (R57, R81): in TEST_WAIT it enters LINE_TEST, counts the attempt in an
automatic sequence and a test context opens; otherwise the circuit is handed back. -/
def takeGrant (n : Sec) (c : Circuit) (s : State) : State :=
  if s.secs[n].state = .testWait then
    let s := enter n .lineTest s
    let s := s.modSec n fun r => { r with attempt := if r.manual then r.attempt else r.attempt + 1 }
    s.modArb fun a =>
      { a with contexts := a.contexts.set c (some ⟨n, s.secs[n].settings.settle, []⟩) }
  else s.modArb fun a => a.clear c

/-- The grant rule, at most `fuel` times (R78). While the part is halted no grant is made (R80). -/
def grantLoop : Nat → State → State
  | 0, s => s
  | fuel + 1, s =>
    match s.arb.waiting, s.arb.freeCircuit with
    | n :: rest, some c =>
      if !s.halted && decide (s.arb.held < s.arb.count) then
        let s := s.modArb fun a => { a with waiting := rest, holders := a.holders.set c (some n) }
        grantLoop fuel (takeGrant n c s)
      else s
    | _, _ => s

/-- The grant rule is applied: each grant takes one section off the list, so as many rounds as the list is long are
enough (R78). -/
def applyGrants (s : State) : State := grantLoop s.arb.waiting.length s

/-- The section asks to be placed on the waiting list (R77). -/
def joinTestList (n : Sec) (s : State) : State :=
  applyGrants (s.modArb fun a => if n ∈ a.waiting then a else { a with waiting := a.waiting ++ [n] })

/-- The section enters TEST_WAIT and joins the list (R53, R56, R63). -/
def enterTestWait (n : Sec) (s : State) : State := joinTestList n (enter n .testWait s)

/-- The section is taken off the waiting list (R79). -/
def leaveTestList (n : Sec) (s : State) : State :=
  s.modArb fun a => { a with waiting := a.waiting.filter (· ≠ n) }

/-- The circuit the section holds. -/
def Arbiter.circuitOf (a : Arbiter) (n : Sec) : Option Circuit :=
  (List.finRange 2).find? fun c => decide (a.holders[c] = some n)

/-- The section tells the arbiter that its circuit is free, and the grant rule is applied; a release by a section that
holds none changes nothing (R80). A context still open is abandoned (R88). -/
def releaseCircuit (n : Sec) (s : State) : State :=
  match s.arb.circuitOf n with
  | none => s
  | some c => applyGrants (s.modArb fun a => a.clear c)

/-- The section is about to leave TEST_WAIT other than by a grant, or LINE_TEST other than by a result (R57). -/
def abandonTest (n : Sec) (s : State) : State :=
  match s.secs[n].state with
  | .testWait => leaveTestList n s
  | .lineTest => releaseCircuit n s
  | .closed => s | .tripping => s | .deadTime => s | .closing => s | .reclaim => s | .held => s | .opened => s
  | .lockout => s | .isolated => s | .breakerFail => s

/-! ### Holds (R54, R56) -/

/-- After a change of the hold set: a section held in DEAD_TIME whose last hold is gone enters TEST_WAIT (R56);
a halted part only records it (R73). -/
def holdsChanged (n : Sec) (s : State) : State :=
  let r := s.secs[n]
  if !s.halted && decide (r.state = .deadTime) && r.held && r.holds.isEmpty then enterTestWait n s else s

/-- A hold is recorded as present or absent (R54). -/
def setHolds (n : Sec) (f : Holds → Holds) (s : State) : State :=
  holdsChanged n (s.modSec n fun r => { r with holds := f r.holds })

/-- The Vehicle Table reports a section's two fault facts (R102). -/
def reportFacts (n : Sec) (s : State) : State :=
  setHolds n (fun h =>
    { h with leak := decide (0 < s.leaking n) && s.secs[n].settings.leakHold, dewired := decide (0 < s.dewired n) }) s

/-- Some switch point fed from the section has lock DEWIRED (R54). -/
def State.switchLocked (s : State) (n : Sec) : Bool :=
  s.sws.toList.any fun w => decide (w.feeding = some n) && decide (w.lock = .dewired)

/-- A switch point reports whether its lock is DEWIRED to section `n` (R134). -/
def reportLock (n : Sec) (s : State) : State :=
  setHolds n (fun h => { h with switchLock := s.switchLocked n }) s

/-! ### Trip requests (R49 to R52) -/

/-- F, the accumulator shifted right arithmetically by 8 places (R18). -/
def Fpu.filtered (f : Fpu) : Int := f.acc >>> (8 : Nat)

/-- The values of a request that the Section Controller raises itself or takes from the host (chapter 3, after the
table of causes), and of MEAS_LOSS (R22). -/
def ownValues (n : Sec) (s : State) : TripValues :=
  let f := s.fpus[n]
  { current := f.lastI, rise := f.lastD, delta := 0, filtered := f.filtered, nActive := s.active n
    seq := f.lastSeq, time := s.clock }

/-- A new trip record (R50). -/
def newRecord (n : Sec) (c : Cause) (o : Origin) (v : TripValues) (s : State) : TripRecord :=
  { first := c, causes := [c], principal := c, values := v
    complete := decide (s.fpus[n].state ≠ .lost), origin := o }

/-- A cause joins a trip record (R50, R51). The complete flag stays as the request that started the trip found it, DESIGN
CHOICE [log 36]. -/
def TripRecord.join (c : Cause) (t : TripRecord) : TripRecord :=
  if c ∈ t.causes then t
  else
    { t with
      causes := t.causes ++ [c]
      principal := if t.principal.priority < c.priority then c else t.principal }

/-- Lines 5 to 7 of R52's table: the number of the dead time that follows, none for LOCKOUT. -/
def Section.nextDead (r : Section) : Option Nat :=
  if r.manual then none else if r.attempt < r.limit then some (r.attempt + 1) else none

/-- Where a section goes from TRIPPING. -/
inductive AfterTrip where
  | opened
  | lockout
  | dead (k : Nat)
  deriving DecidableEq, Repr

/-- The state that follows. -/
def AfterTrip.state : AfterTrip → SecState
  | .opened => .opened | .lockout => .lockout | .dead _ => .deadTime

/-- R52's table, by its first line that applies; a halted part always goes to LOCKOUT (R73). -/
def Section.afterTrip (halted : Bool) (r : Section) (t : TripRecord) : AfterTrip :=
  if halted then .lockout
  else if .manual ∈ t.causes then .opened
  else if .bus ∈ t.causes then .lockout
  else if .instant ∈ t.causes ∧ t.origin = .reclaim then .lockout
  else if t.origin = .sequence then .lockout
  else
    match r.nextDead with
    | some k => .dead k
    | none => .lockout

/-- The feedback reads OPEN in TRIPPING (R52, R73): the opening time is recorded, TRIP is queued and the section goes
on. A section in TRIPPING always has a trip record (R49, R69). -/
def leaveTripping (n : Sec) (s : State) : State :=
  let r := s.secs[n]
  match r.record with
  | none => s
  | some t =>
    let next := r.afterTrip s.halted t
    let s := s.modSec n fun r => { r with record := some { t with openingTime := some r.trippingMs } }
    let s := queueNotice .trip t.principal.priority (.sec n)
      [word t.principal.code, word (causeWord t.causes), word next.state.code, word r.trippingMs] s
    match next with
    | .opened => enter n .opened s
    | .lockout => enterLockout n .trip s
    | .dead k => enterDead n k s

/-- The section enters TRIPPING under a new trip record, and tells its Capture Buffer (R49 steps 1, 2, 4, 5; R69). -/
def beginTripping (n : Sec) (c : Cause) (o : Origin) (v : TripValues) (s : State) : State :=
  let t := newRecord n c o v s
  captureTrigger n t.principal (enter n .tripping (s.modSec n fun r => { r with record := some t }))

/-- A new sequence begins: the test limit and the dead times are latched (R49 step 3). -/
def Section.newSequence (r : Section) : Section :=
  { r with limit := r.settings.tests, dead := r.settings.dead, attempt := 0, manual := false }

/-- A trip starts (R49). -/
def startTrip (n : Sec) (c : Cause) (o : Origin) (v : TripValues) (s : State) : State :=
  let was := s.secs[n].state
  let s := if o = .closed then s.modSec n Section.newSequence else s
  let s := reportChange n was (beginTripping n c o v s)
  if s.secs[n].feedback = .opened then leaveTripping n s else s

/-- The Section Controller takes a trip request, joins it or discards it, by its state (R49, R51). -/
def tripRequest (n : Sec) (c : Cause) (v : TripValues) (s : State) : State :=
  match s.secs[n].state with
  | .closed => startTrip n c .closed v s
  | .reclaim => startTrip n c .reclaim v s
  | .closing => startTrip n c .closing v s
  | .tripping => s.modSec n fun r => { r with record := r.record.map (TripRecord.join c) }
  | .deadTime => s | .testWait => s | .lineTest => s | .held => s | .opened => s | .lockout => s | .isolated => s
  | .breakerFail => s

/-! ### Readings that move the section (R59, R69) -/

/-- The breaker reads CLOSED, or DISCREPANT and is treated as closed (R47). -/
def Section.readsClosed (r : Section) : Bool :=
  decide (r.feedback = .closed) || decide (r.feedback = .discrepant) && r.asClosed

/-- A CLOSED reading in CLOSING (R59). -/
def reclosed (n : Sec) (s : State) : State :=
  let s := reportChange n .closing (enter n .reclaim s)
  let r := s.secs[n]
  queueNotice .reclosed 2 (.sec n) [word r.attempt, word (markCode r.manual)] s

/-- The section enters CLOSING; a breaker that already reads CLOSED is reclosed at once (R58, R59, R65) [log 31]. -/
def enterClosing (n : Sec) (s : State) : State :=
  let s := enter n .closing s
  if s.secs[n].readsClosed then reclosed n s else s

/-- LOCAL CLOSE is queued with the state the section leaves (R69). -/
def queueLocalClose (n : Sec) (s : State) : State :=
  queueNotice .localClose 6 (.sec n) [word s.secs[n].state.code] s

/-- The breaker of an OPEN, LOCKOUT or ISOLATED section has been closed by hand (R69, R73). -/
def localClose (n : Sec) (s : State) : State :=
  let was := s.secs[n].state
  let s := enter n .closed (queueLocalClose n s)
  reportChange n was (s.modSec n fun r => { r with attempt := 0, manual := false })

/-- The breaker of a sequencing section has closed against an asserted trip line (R69). -/
def closeInSequence (n : Sec) (s : State) : State :=
  let s := abandonTest n (queueLocalClose n s)
  beginTripping n .breakerOwn .sequence (ownValues n s) s

/-- The section acts on a reading of CLOSED, or on a DISCREPANT reading from then on treated as closed (R47, R59, R69,
R73). -/
def onClosed (n : Sec) (s : State) : State :=
  let r := s.secs[n]
  match r.state with
  | .closing => reclosed n s
  | .opened => if s.halted || !r.tripLine then localClose n s else s
  | .lockout => if s.halted || !r.tripLine then localClose n s else s
  | .isolated => if s.halted || !r.tripLine then localClose n s else s
  | .deadTime => closeInSequence n s
  | .testWait => closeInSequence n s
  | .lineTest => closeInSequence n s
  | .held => closeInSequence n s
  | .closed => s | .reclaim => s | .tripping => s | .breakerFail => s

/-- The trip line is released and opening supervision stops, in OPEN, LOCKOUT or ISOLATED; a halted part keeps the line
asserted (R46, R73). -/
def releaseTrip (n : Sec) (s : State) : State :=
  s.modSec n fun r => { r with opening := none, tripLine := s.halted }

/-- The section acts on a reading of OPEN (R46, R52, R69, R70). -/
def onOpened (n : Sec) (s : State) : State :=
  match s.secs[n].state with
  | .tripping => leaveTripping n s
  | .closed => tripRequest n .breakerOwn (ownValues n s) s
  | .reclaim => tripRequest n .breakerOwn (ownValues n s) s
  | .opened => releaseTrip n s
  | .lockout => releaseTrip n s
  | .isolated => releaseTrip n s
  | .deadTime => s | .testWait => s | .lineTest => s | .closing => s | .held => s | .breakerFail => s

/-- A new reading of the position contacts (R47). -/
def takeReading (n : Sec) (f : Feedback) (s : State) : State :=
  let s := s.modSec n fun r =>
    { r with feedback := f, asClosed := false, discrepancy := if f = .discrepant then some 200 else none }
  match f with
  | .opened => onOpened n s
  | .closed => onClosed n s
  | .travel => s
  | .discrepant => s

/-! ### Breaker failure and the halt (R70, R72) -/

/-- A section's part in a bus trip (R70). -/
def busCascade (n : Sec) (s : State) : State :=
  match s.secs[n].state with
  | .closed => tripRequest n .bus (ownValues n s) s
  | .reclaim => tripRequest n .bus (ownValues n s) s
  | .closing => tripRequest n .bus (ownValues n s) s
  | .tripping => tripRequest n .bus (ownValues n s) s
  | .deadTime => enterLockout n .bus (abandonTest n s)
  | .testWait => enterLockout n .bus (abandonTest n s)
  | .lineTest => enterLockout n .bus (abandonTest n s)
  | .held => enterLockout n .bus (abandonTest n s)
  | .opened => s | .lockout => s | .isolated => s | .breakerFail => s

/-- A section's BUS request at entry into HALT (R72 step 3). -/
def haltTrip (n : Sec) (s : State) : State :=
  match s.secs[n].state with
  | .closed => tripRequest n .bus (ownValues n s) s
  | .reclaim => tripRequest n .bus (ownValues n s) s
  | .closing => tripRequest n .bus (ownValues n s) s
  | .tripping => tripRequest n .bus (ownValues n s) s
  | .deadTime => s | .testWait => s | .lineTest => s | .held => s
  | .opened => s | .lockout => s | .isolated => s | .breakerFail => s

/-- A sequencing section's LOCKOUT at entry into HALT (R72 step 4). -/
def haltLockout (n : Sec) (s : State) : State :=
  match s.secs[n].state with
  | .deadTime => enterLockout n .halt (abandonTest n s)
  | .testWait => enterLockout n .halt (abandonTest n s)
  | .lineTest => enterLockout n .halt (abandonTest n s)
  | .held => enterLockout n .halt (abandonTest n s)
  | .closed => s | .reclaim => s | .closing => s | .tripping => s
  | .opened => s | .lockout => s | .isolated => s | .breakerFail => s

/-- The part enters HALT because section `n` failed (R72, R161): HALT queued, lines set, closed sections tripped,
sequencing sections locked out, drives held. From then on the section timers stand still. The loop is told last, after
steps 1 to 4, where neither rule names the place, DESIGN CHOICE [log 42]. -/
def enterHalt (n : Sec) (s : State) : State :=
  let order := s.order
  let s := queueNotice .halt 7 (.sec n) [word (if s.busTrip then 0 else 1)] s
  let s := { s with halted := true, secs := s.secs.map (fun r =>
    { r with tripLine := true, closeLine := false, testLine := false }) }
  let s := forEach order haltTrip s
  let s := forEach order haltLockout s
  holdDrives s

/-- A breaker failure takes action BUS TRIP (R70). -/
def busTripAction (n : Sec) (s : State) : State :=
  forEach (s.order.filter (· ≠ n)) busCascade { s with busTrip := true }

/-- Opening supervision has run out: the section enters BREAKER_FAIL (R70). -/
def breakerFails (n : Sec) (s : State) : State :=
  let halting := s.busTrip || !s.backup
  let s := enter n .breakerFail s
  let s := queueNotice .breakerFail 7 (.sec n) [word s.secs[n].feedback.code, word (markCode halting)] s
  if halting then enterHalt n s else busTripAction n s

end Sys2Proof.Machine
end

