-- ==== Sys2Proof/Machine/VehicleCore.lean ====
section
/-!
DEFINITION. What the switch points ask of the Vehicle Table (R105, R106): looking up a record, standing reports, and the
DEWIRED request.
-/

namespace Sys2Proof.Machine

/-- The record in a slot carries this number. -/
def slotHolds (num : Nat) : Option Vehicle → Bool
  | none => false
  | some v => v.number == num

/-- The slot of the record with this number (R92). -/
def State.findVehicle (s : State) (num : Nat) : Option Slot :=
  (List.finRange 64).find? fun i => slotHolds num s.vt.slots[i]

/-- Change the record with this number, if there is one. -/
def State.modVehicle (s : State) (num : Nat) (f : Vehicle → Vehicle) : State :=
  match s.findVehicle num with
  | none => s
  | some i => s.modSlot i f

/-- The vehicle was appended to the queue of `k` (R106). -/
def vehicleQueued (num : Nat) (k : Sw) (s : State) : State := s.modVehicle num fun v => { v with queue := some k }

/-- The vehicle was taken as occupant of `k` (R106). -/
def vehicleOccupies (num : Nat) (k : Sw) (s : State) : State := s.modVehicle num fun v => { v with occupied := some k }

/-- The fault facts of the section a record counts in are reported; none for section 0 (R102). -/
def reportFactsOf (n : Option Sec) (s : State) : State :=
  match n with
  | none => s
  | some n => reportFacts n s

/-- A switch point asks the table to add DEWIRED to its occupant (R105). -/
def addDewired (num : Nat) (k : Sw) (s : State) : State :=
  match s.findVehicle num with
  | none => s
  | some i =>
    match s.vt.slots[i] with
    | none => s
    | some v =>
      if v.dewired then s
      else
        let s := s.modSlot i fun v => { v with dewired := true }
        reportFactsOf v.sec (queueNotice .vehicleFault 5 (.vehicle num) [1, 1, word (number k)] s)

end Sys2Proof.Machine
end

