-- ==== Sys2Proof/Machine/Switches.lean ====
section
/-!
DEFINITION. The Switch Point Controllers (chapter 6): approaches and withdrawals, locks, contact events, position
reports, drives, station loss and return, timers, and the requests.
-/

namespace Sys2Proof.Machine

/-- A vehicle number as a notice word, 0 for none. -/
def vehicleWord : Option Nat → Half
  | none => 0
  | some v => word v

/-- The head's vehicle number, 0 if the queue is empty. -/
def SwitchPoint.headWord (w : SwitchPoint) : Half := vehicleWord (w.queue.head?.map (·.number))

/-! ### Approaches and withdrawals (R119, R120, R108) -/

/-- The number stands in the approach queue. -/
def SwitchPoint.holds (w : SwitchPoint) (num : Nat) : Bool := w.queue.any fun e => e.number == num

/-- Switch point `k` takes an approach (R119). -/
def swApproach (k : Sw) (num : Nat) (route : Route) (s : State) : State :=
  swEvent k false (fun s =>
    let w := s.sws[k]
    let dir := route.getD w.default
    if w.holds num then
      s.modSw k fun w => { w with queue := w.queue.map fun e => if e.number = num then { e with dir := dir } else e }
    else if 4 ≤ w.queue.length then
      queueNotice .queueFull 3 (.switch k) [word num, w.headWord, word dir.code] s
    else vehicleQueued num k (s.modSw k fun w => { w with queue := w.queue ++ [⟨num, dir⟩] })) s

/-- A removal report (R106): the record's standing is cleared, and a deferred approach is released (R108). -/
def vehicleRemoved (num : Nat) (s : State) : State :=
  match s.findVehicle num with
  | none => s
  | some i =>
    let deferred := s.vt.slots[i].bind (·.deferred)
    let s := s.modSlot i fun v => { v with queue := none, occupied := none }
    match deferred with
    | none => s
    | some (c, route) => (swApproach c num route s).modVehicle num fun v => { v with deferred := none }

/-- The number's entry leaves the queue of `k`, and the removal is reported. -/
def dropEntry (k : Sw) (num : Nat) (s : State) : State :=
  vehicleRemoved num (s.modSw k fun w => { w with queue := w.queue.filter fun e => e.number != num })

/-- A withdrawal removes the entry: the number stands in the queue and is not the occupant (R120). -/
def SwitchPoint.yields (w : SwitchPoint) (num : Nat) : Bool := w.holds num && decide (w.occupant ≠ some num)

/-- Switch point `k` is asked to withdraw a number (R120); it answers whether it did, which is `yields` before it. -/
def swWithdraw (k : Sw) (num : Nat) (s : State) : State :=
  swEvent k false (fun s => if s.sws[k].yields num then dropEntry k num s else s) s

/-! ### The lock (R134) -/

/-- The lock becomes `l`; DEWIRED gained or left is reported to the feeding section (R134). -/
def setLock (k : Sw) (l : Lock) (s : State) : State :=
  let w := s.sws[k]
  let s := s.modSw k fun w => { w with lock := l }
  match w.feeding with
  | none => s
  | some n => if decide (w.lock = .dewired) = decide (l = .dewired) then s else reportLock n s

/-! ### Poles under the frog (R129 to R133) -/

/-- A passage begins (R129). -/
def beginPassage (k : Sw) (s : State) : State :=
  let s := s.modSw k fun w =>
    { w with poles := 1, both := false, poleTimer := .running w.tPole, passTimer := .running w.tPass }
  let w := s.sws[k]
  match w.queue.head? with
  | some h =>
    let s := vehicleOccupies h.number k (s.modSw k fun w => { w with occupant := some h.number })
    if w.position ≠ .moving ∧ w.position ≠ h.dir.position then
      queueNotice .mismatch 4 (.switch k) [word h.number, word h.dir.code, word w.position.code, 1] s
    else s
  | none => queueNotice .unannounced 4 (.switch k) [word w.position.code, word w.lock.code] s

/-- CONTACT FAULT for an event code (1 ENTRY, 2 EXIT) that the count cannot follow (R129, R131). -/
def contactFault (k : Sw) (event : Half) (s : State) : State :=
  let w := s.sws[k]
  queueNotice .contactFault 5 (.switch k) [event, word w.poles, vehicleWord w.occupant] s

/-- The count of poles takes an ENTRY (R129). -/
def countEntry (k : Sw) (s : State) : State :=
  match s.sws[k].poles with
  | 0 => beginPassage k s
  | 1 => s.modSw k fun w => { w with poles := 2, both := true, poleTimer := .stopped }
  | _ => contactFault k 1 s

/-- DEWIRE with its third word (R130, R132). -/
def queueDewire (k : Sw) (cause third : Half) (s : State) : State :=
  queueNotice .dewire 6 (.switch k) [vehicleWord s.sws[k].occupant, cause, third] s

/-- An ENTRY found the frog MOVING (R130). -/
def entryDuringMove (k : Sw) (s : State) : State :=
  let s := setLock k .dewired (s.modSw k SwitchPoint.cancelDrive)
  queueDewire k 0 (word s.sws[k].target.code) s

/-- An ENTRY contact event (R129, R130). -/
def swEntry (k : Sw) (s : State) : State :=
  swEvent k false (fun s =>
    if s.sws[k].position = .moving then entryDuringMove k (countEntry k s) else countEntry k s) s

/-- The passage ends (R131). -/
def endPassage (k : Sw) (s : State) : State :=
  let w := s.sws[k]
  let s := s.modSw k fun w => { w with poles := 0, poleTimer := .stopped, passTimer := .stopped }
  let s :=
    if w.both then s
    else queueNotice .passageIncomplete 4 (.switch k) [vehicleWord w.occupant, word w.lock.code] s
  match w.occupant with
  | none => s
  | some v => dropEntry k v (s.modSw k fun w => { w with occupant := none })

/-- An EXIT contact event (R131). -/
def swExit (k : Sw) (s : State) : State :=
  swEvent k false (fun s =>
    match s.sws[k].poles with
    | 0 => contactFault k 2 s
    | 1 => endPassage k s
    | n + 2 => s.modSw k fun w => { w with poles := n + 1 }) s

/-- A contact event (R129, R131). -/
def swContact (k : Sw) (e : ContactEvent) (s : State) : State :=
  match e with
  | .entry => swEntry k s
  | .exit => swExit k s

/-- The pole timer expires (R132). -/
def poleExpired (k : Sw) (s : State) : State :=
  if s.sws[k].poleTimer.isRunning then
    swEvent k false (fun s =>
      let s := setLock k .dewired (s.modSw k fun w => { w with poleTimer := .stopped })
      let s :=
        match s.sws[k].occupant with
        | none => s
        | some v => addDewired v k s
      queueDewire k 1 (word s.sws[k].position.code) s) s
  else s

/-- The passage timer expires (R133). -/
def passageExpired (k : Sw) (s : State) : State :=
  if s.sws[k].passTimer.isRunning then
    swEvent k false (fun s =>
      let s := s.modSw k fun w => { w with passTimer := .stopped }
      let w := s.sws[k]
      queueNotice .stalled 4 (.switch k) [vehicleWord w.occupant, word w.poles] s) s
  else s

/-! ### Drives and positions (R123 to R128) -/

/-- The station accepted the DRIVE (R123); an acceptance for a drive no longer pending changes nothing (R126). -/
def driveAccepted (k : Sw) (s : State) : State :=
  swEvent k false (fun s =>
    s.modSw k fun w =>
      if w.stage = .pending ∧ w.carried then
        { w with stage := .sent, carried := false, driveTimer := some w.tDrive, driveMs := 0 }
      else w) s

/-- The target is reported while MOVING: the drive ends (R124). -/
def driveArrives (k : Sw) (s : State) : State :=
  let w := s.sws[k]
  let s := s.modSw k fun w =>
    { w with driveTimer := none, stage := .none, position := w.target.position, failed := 0 }
  queueNotice .switchMoved 1 (.switch k)
    [word w.target.position.code, w.headWord, word (if w.stage = .sent then w.driveMs else 0)] s

/-- A report differs from the position held: the position follows it, and UNEXPECTED MOVE is queued (R127). -/
def unexpectedMove (k : Sw) (p : StationPosition) (s : State) : State :=
  let w := s.sws[k]
  let s := s.modSw k fun w =>
    { w with position := match p.atEnd with | some d => d.position | none => .unknown }
  queueNotice .unexpectedMove 5 (.switch k) [word w.position.code, word p.code, word w.poles] s

/-- A report from UNKNOWN (R127). -/
def SwitchPoint.learn (p : StationPosition) (w : SwitchPoint) : SwitchPoint :=
  match p.atEnd with
  | none => { w with position := .unknown }
  | some d => { w with position := d.position, failed := if d = w.target then 0 else w.failed }

/-- A position report (R124, R127). -/
def swPosition (k : Sw) (p : StationPosition) (s : State) : State :=
  swEvent k false (fun s =>
    let s := s.modSw k fun w => { w with lastReport := p }
    let w := s.sws[k]
    match w.position with
    | .moving => if p.atEnd = some w.target then driveArrives k s else s
    | .unknown => s.modSw k (SwitchPoint.learn p)
    | .straight => if p = .straight then s else unexpectedMove k p s
    | .turnout => if p = .turnout then s else unexpectedMove k p s) s

/-- Drive supervision expires (R125). -/
def driveExpired (k : Sw) (s : State) : State :=
  if s.sws[k].driveTimer.isSome then
    swEvent k false (fun s =>
      let w := s.sws[k]
      let s := s.modSw k SwitchPoint.cancelDrive
      if w.failed = 0 then s.modSw k fun w => { w with failed := 1 }
      else
        let s := setLock k .failed (s.modSw k fun w => { w with failed := 0 })
        queueNotice .driveFail 6 (.switch k) [word w.target.code, word w.lastReport.code, w.headWord] s) s
  else s

/-- The end of a halt: a drive still PENDING is cancelled (R128). -/
def swRestart (k : Sw) (s : State) : State :=
  swEvent k false (fun s => s.modSw k fun w => if w.stage = .pending then w.cancelDrive else w) s

/-- The switch points' step of a RESTART (R128, R142, R184 step 2). -/
def switchesRestart (wasHalted : Bool) (s : State) : State :=
  if wasHalted then forEach (List.finRange 16) swRestart s else s

/-! ### Stations (R118, R139, R140) -/

/-- The bound station has left ONLINE (R139). -/
def SwitchPoint.loseStation (st : StationState) (w : SwitchPoint) : SwitchPoint :=
  { w.cancelDrive with
    station := st
    lock := match w.lock with
      | .dewired => .dewired | .failed => .failed | .none => .noField | .pinned => .noField | .noField => .noField
    poleTimer := w.poleTimer.suspend
    passTimer := w.passTimer.suspend }

/-- The station's state changes to one that is not ONLINE; leaving ONLINE is R139. -/
def SwitchPoint.takeState (st : StationState) (w : SwitchPoint) : SwitchPoint :=
  if w.station = .online then w.loseStation st else { w with station := st }

/-- The loop tells switch point `k` of its station's new state, not ONLINE (R118, R145). -/
def swStation (k : Sw) (st : StationState) (s : State) : State :=
  swEvent k false (fun s => s.modSw k (SwitchPoint.takeState st)) s

/-- The loop tells switch point `k` that station `a`, in CENSUS, now binds it (R118, R143). -/
def swBind (k : Sw) (a : Sta) (s : State) : State :=
  swEvent k false (fun s => s.modSw k fun w => { w.takeState .census with bound := some a }) s

/-- The loop tells switch point `k` that its binding has ended (R118, R144) [log 16]. -/
def swUnbind (k : Sw) (s : State) : State :=
  swEvent k false (fun s => s.modSw k fun w => { w.takeState .unconfigured with bound := none }) s

/-- The kept count is settled against the census count (R140's table). -/
def resyncPoles (k : Sw) (census : Nat) (s : State) : State :=
  match s.sws[k].poles, census with
  | 0, 0 => s
  | 0, 1 => beginPassage k s
  | 0, _ =>
    (beginPassage k s).modSw k fun w => { w with poles := 2, both := true, poleTimer := .stopped }
  | 1, 0 => endPassage k s
  | 1, 1 => s.modSw k fun w => { w with poleTimer := w.poleTimer.resume, passTimer := w.passTimer.resume }
  | 1, _ =>
    s.modSw k fun w =>
      { w with poles := 2, both := true, poleTimer := .stopped, passTimer := w.passTimer.resume }
  | _, 0 => endPassage k (s.modSw k fun w => { w with both := true })
  | _, 1 => s.modSw k fun w => { w with poles := 1, poleTimer := .stopped, passTimer := w.passTimer.resume }
  | _, _ => s.modSw k fun w => { w with passTimer := w.passTimer.resume }

/-- The bound station has become ONLINE, with the census reply's poles count and position (R140) [log 19]. -/
def swOnline (k : Sw) (census : Nat) (p : StationPosition) (s : State) : State :=
  swEvent k false (fun s =>
    let s := s.modSw k fun w => ({ w with station := .online, lastReport := p } : SwitchPoint).learn p
    let w := s.sws[k]
    let s :=
      if w.poles = census then s
      else
        queueNotice .contactResync 4 (.switch k)
          [word w.poles, word census, vehicleWord w.occupant, word w.position.code] s
    let s := resyncPoles k census s
    s.modSw k fun w => { w with lock := if w.lock = .noField then .none else w.lock }) s

/-! ### Requests (R117, R135 to R138) -/

/-- What a switch point request's reply carries. -/
def switchReply (k : Sw) (s : State) : List ReplyField :=
  let w := s.sws[k]
  [fieldCode w.position.code, fieldCode w.target.code, fieldCode w.stage.code, fieldVal w.poles, fieldCode w.lock.code,
    fieldVal w.queue.length]

/-- The request was taken; the reply shows the switch point after it. -/
def acceptSwitch (k : Sw) (s : State) : Answer := accept s (switchReply k s)

/-- The request is refused by the switch point's state. -/
def refuseSwitch (k : Sw) (s : State) : Answer := refuseState s (switchReply k s)

/-- A direction from its code in a request. -/
def directionOf (n : Nat) : Option Direction :=
  match n with
  | 0 => some .straight
  | 1 => some .turnout
  | _ => none

/-- The record CONFIGURE SWITCH stores, as its reply carries it (R117): the five fields that the request sets, not the whole
switch point record, DESIGN CHOICE [log 48]. -/
def configFields (w : SwitchPoint) : List ReplyField :=
  [fieldNoOpt w.feeding, fieldCode w.default.code, .nat 2 w.tPole, fieldMs w.tPass, .nat 2 w.tDrive]

/-- The feeding section becomes `n`: the power copy is read anew, and a DEWIRED lock moves its hold (R117, R134). -/
def setFeeding (k : Sw) (n : Sec) (s : State) : State :=
  let w := s.sws[k]
  if w.feeding = some n then s
  else
    let powered := s.secs[n].state.powered
    let s := s.modSw k fun w => { w with feeding := some n, power := powered }
    if w.lock = .dewired then
      let s :=
        match w.feeding with
        | none => s
        | some old => reportLock old s
      reportLock n s
    else s

/-- CONFIGURE SWITCH (R117). -/
def configureSwitch (p : List Byte) (s : State) : Answer :=
  naming 16 p (fun k s =>
    match indexOf 8 (octetAt p 1), directionOf (octetAt p 2) with
    | some n, some d =>
      if s.sws[k].position = .moving ∨ 0 < s.sws[k].poles then refuseState s (configFields s.sws[k])
      else
        let s := swEvent k false (fun s =>
          (setFeeding k n s).modSw k fun w =>
            { w with
              default := d
              tPole := clamp 500 20000 (halfAt p 3)
              tPass := clamp 5000 600000 (wideAt p 5)
              tDrive := clamp 500 20000 (halfAt p 9) }) s
        accept s (configFields s.sws[k])
    | _, _ => badArgument s) s

/-- The conditions under which SET SWITCH is taken (R135). -/
def SwitchPoint.hostMayDrive (w : SwitchPoint) : Bool :=
  w.queue.isEmpty && w.poles == 0 && (decide (w.lock = .none) || decide (w.lock = .pinned))
    && decide (w.position ≠ .moving) && w.feeding.isSome && w.power && decide (w.station = .online)

/-- SET SWITCH (R135). -/
def setSwitch (p : List Byte) (s : State) : Answer :=
  naming 16 p (fun k s =>
    match directionOf (octetAt p 1) with
    | none => badArgument s
    | some d =>
      if s.sws[k].hostMayDrive then
        acceptSwitch k (swEvent k false (fun s =>
          s.modSw k fun w => if w.position = d.position then w else w.startDrive d) s)
      else refuseSwitch k s) s

/-- PIN SWITCH (R136). A pin that stands already is taken and changes nothing, whatever the position: for a pinned frog
that is MOVING or UNKNOWN two sentences of R136 overlap, and the first is followed, DESIGN CHOICE [log 18]. -/
def pinSwitch (p : List Byte) (s : State) : Answer :=
  naming 16 p (fun k s =>
    let w := s.sws[k]
    if w.lock = .pinned then acceptSwitch k s
    else if w.lock = .none ∧ (w.position = .straight ∨ w.position = .turnout) then
      acceptSwitch k (swEvent k true (fun s => s.modSw k fun w => { w with lock := .pinned }) s)
    else refuseSwitch k s) s

/-- UNPIN SWITCH (R136). -/
def unpinSwitch (p : List Byte) (s : State) : Answer :=
  naming 16 p (fun k s =>
    if s.sws[k].lock = .pinned then
      acceptSwitch k (swEvent k false (fun s => s.modSw k fun w => { w with lock := .none }) s)
    else refuseSwitch k s) s

/-- CLEAR SWITCH LOCK (R137). -/
def clearSwitchLock (p : List Byte) (s : State) : Answer :=
  naming 16 p (fun k s =>
    let w := s.sws[k]
    if w.lock = .dewired ∧ w.poles = 0 ∨ w.lock = .failed then
      acceptSwitch k (swEvent k false (fun s => setLock k .none (s.modSw k fun w => { w with failed := 0 })) s)
    else refuseSwitch k s) s

/-- GET SWITCH (R138). It sends the queue's entries and no length of their own, where chapter 6's opening of the host requests
has each reply carry the queue length: DESIGN CHOICE [log 46]. -/
def getSwitch (p : List Byte) (s : State) : Answer :=
  naming 16 p (fun k s =>
    let w := s.sws[k]
    accept s
      ([fieldNoOpt w.bound, fieldCode w.station.code, fieldNoOpt w.feeding, .power w.power, fieldCode w.default.code,
        .nat 2 w.tPole, fieldMs w.tPass, .nat 2 w.tDrive, fieldCode w.position.code, fieldCode w.target.code,
        fieldCode w.stage.code, fieldVal w.failed, fieldVal w.poles, fieldMark w.both, fieldOpt 2 w.occupant] ++
      w.queue.flatMap (fun e => [.nat 2 e.number, fieldCode e.dir.code]) ++
      [fieldCode w.lock.code, fieldTimer w.poleTimer.remaining, fieldTimer w.passTimer.remaining,
        fieldTimer w.driveTimer])) s

/-! ### The commands of this family -/

/-- POLE_TIMER_EXPIRY (R132). -/
def execPoleTimerExpiry (k : Sw) (s : State) : Host.Outcome State Fault Refusal := .next (poleExpired k s)

/-- PASSAGE_TIMER_EXPIRY (R133). -/
def execPassageTimerExpiry (k : Sw) (s : State) : Host.Outcome State Fault Refusal := .next (passageExpired k s)

/-- DRIVE_SUPERVISION_EXPIRY (R125). -/
def execDriveSupervisionExpiry (k : Sw) (s : State) : Host.Outcome State Fault Refusal := .next (driveExpired k s)

/-- The request CONFIGURE_SWITCH is taken (R117). -/
def reqConfigureSwitch (p : List Byte) (s : State) : State := takeFixed 0x30 11 false p (configureSwitch p) s

/-- CONFIGURE_SWITCH (R117). -/
def execConfigureSwitch (p : List Byte) (s : State) : Host.Outcome State Fault Refusal := .next (reqConfigureSwitch p s)

/-- The request SET_SWITCH is taken (R135). -/
def reqSetSwitch (p : List Byte) (s : State) : State := takeFixed 0x31 2 false p (setSwitch p) s

/-- SET_SWITCH (R135). -/
def execSetSwitch (p : List Byte) (s : State) : Host.Outcome State Fault Refusal := .next (reqSetSwitch p s)

/-- The request PIN_SWITCH is taken (R136). -/
def reqPinSwitch (p : List Byte) (s : State) : State := takeFixed 0x32 1 false p (pinSwitch p) s

/-- PIN_SWITCH (R136). -/
def execPinSwitch (p : List Byte) (s : State) : Host.Outcome State Fault Refusal := .next (reqPinSwitch p s)

/-- The request UNPIN_SWITCH is taken (R136). -/
def reqUnpinSwitch (p : List Byte) (s : State) : State := takeFixed 0x33 1 false p (unpinSwitch p) s

/-- UNPIN_SWITCH (R136). -/
def execUnpinSwitch (p : List Byte) (s : State) : Host.Outcome State Fault Refusal := .next (reqUnpinSwitch p s)

/-- The request CLEAR_SWITCH_LOCK is taken (R137). -/
def reqClearSwitchLock (p : List Byte) (s : State) : State := takeFixed 0x34 1 false p (clearSwitchLock p) s

/-- CLEAR_SWITCH_LOCK (R137). -/
def execClearSwitchLock (p : List Byte) (s : State) : Host.Outcome State Fault Refusal := .next (reqClearSwitchLock p s)

/-- The request GET_SWITCH is taken (R138). -/
def reqGetSwitch (p : List Byte) (s : State) : State := takeFixed 0x35 1 true p (getSwitch p) s

/-- GET_SWITCH (R138). -/
def execGetSwitch (p : List Byte) (s : State) : Host.Outcome State Fault Refusal := .next (reqGetSwitch p s)

end Sys2Proof.Machine
end

