-- ==== Sys2Proof/Machine/Vehicles.lean ====
section
/-!
DEFINITION. The Vehicle Table (chapter 5): telegrams, lost and forgotten vehicles, and the host vehicle requests.
-/

namespace Sys2Proof.Machine

/-! ### Telegrams (R95 to R109) -/

/-- The reason a telegram is bad (0 NUMBER, 1 ROUTE, 2 DIRECTION), none when it passes (R95) [log 27]. -/
def badTelegram (boundary : Bool) (t : Telegram) : Option Half :=
  if t.number = 0 ∨ 9999 < t.number then some 0
  else if 2 < t.route then some 1
  else if boundary = true ∧ (t.direction = 0 ∨ 2 < t.direction) then some 2
  else none

/-- The route request a good telegram carries. -/
def routeOf (code : Nat) : Route :=
  match code with
  | 1 => some .straight
  | 2 => some .turnout
  | _ => none

/-- The lowest free slot (R92). -/
def State.freeSlot (s : State) : Option Slot := (List.finRange 64).find? fun i => (s.vt.slots[i]).isNone

/-- The switch point that holds the number in its approach queue, the lowest-numbered if there were several. -/
def State.queueOf (s : State) (num : Nat) : Option Sw := (List.finRange 16).find? fun k => s.sws[k].holds num

/-- A new record for this number, its standing filled from the switch points (R96). -/
def newVehicle (num : Nat) (a : Sta) (s : State) : Vehicle :=
  let queue := s.queueOf num
  { number := num, active := true, sec := none, leak := false, dewired := false, lastStation := a, lastSeen := s.clock
    lostTimer := none, forgetTimer := none, overdue := false, queue := queue
    occupied := queue.filter fun k => s.sws[k].occupant = some num, deferred := none }

/-- A record is made in a free slot (R96). -/
def makeVehicle (i : Slot) (num : Nat) (a : Sta) (s : State) : State :=
  let v := newVehicle num a s
  queueNotice .vehicleNew 1 (.vehicle num) [word (number i), word (number a)]
    (s.modVt fun t => { t with slots := t.slots.set i (some v) })

/-- The record after a sighting at station `a` (R98). -/
def Vehicle.sighted (a : Sta) (now : ClockValue) (t : VehicleTable) (v : Vehicle) : Vehicle :=
  { v with active := true, lastSeen := now, lastStation := a, lostTimer := some t.lostTime
           forgetTimer := some t.forgetTime, overdue := false }

/-- The sighting step (R98): VEHICLE FOUND for a record that was LOST. -/
def sightVehicle (i : Slot) (a : Sta) (s : State) : State :=
  match s.vt.slots[i] with
  | none => s
  | some v =>
    let s := s.modSlot i (Vehicle.sighted a s.clock s.vt)
    if v.active then s
    else queueNotice .vehicleFound 2 (.vehicle v.number) [word (number a), word (numberOr0 v.sec)] s

/-- The section a sighting places the vehicle in, none to leave it where it is (R99, R100). -/
def placedIn (role : Role) (t : Telegram) (s : State) : Option Sec :=
  match role with
  | .unset => none
  | .switch none => none
  | .switch (some k) => s.sws[k].feeding
  | .boundary sideA sideB => if t.direction = 1 then sideB else sideA

/-- The section step (R99, R100, R101). -/
def placeVehicle (i : Slot) (role : Role) (t : Telegram) (s : State) : State :=
  match s.vt.slots[i], placedIn role t s with
  | some v, some n =>
    if v.sec = some n then s
    else reportFacts n (reportFactsOf v.sec (s.modSlot i fun v => { v with sec := some n }))
  | _, _ => s

/-- The LEAK step (R103). -/
def applyLeak (i : Slot) (flag : Bool) (s : State) : State :=
  match s.vt.slots[i] with
  | none => s
  | some v =>
    if flag = v.leak then s
    else
      let s := s.modSlot i fun v => { v with leak := flag }
      let s :=
        if flag then queueNotice .vehicleFault 5 (.vehicle v.number) [0, 0, word (numberOr0 v.sec)] s
        else queueNotice .vehicleFaultCleared 2 (.vehicle v.number) [0, 0, word (numberOr0 v.sec)] s
      reportFactsOf v.sec s

/-- The Vehicle Table's power copy of a section a record counts in; section 0 is as UNPOWERED (R94, R104). -/
def State.tablePower (s : State) (n : Option Sec) : Bool :=
  match n with
  | none => false
  | some n => s.vt.power[n]

/-- The POWER_LOST step (R104). -/
def applyPowerLost (i : Slot) (flag : Bool) (s : State) : State :=
  match s.vt.slots[i] with
  | none => s
  | some v =>
    if flag && s.tablePower v.sec && !v.dewired then
      let s := s.modSlot i fun v => { v with dewired := true }
      reportFactsOf v.sec (queueNotice .vehicleFault 5 (.vehicle v.number) [1, 0, word (numberOr0 v.sec)] s)
    else if !flag && v.dewired then
      let s := s.modSlot i fun v => { v with dewired := false }
      reportFactsOf v.sec (queueNotice .vehicleFaultCleared 2 (.vehicle v.number) [1, 0, word (numberOr0 v.sec)] s)
    else s

/-- The approach is held back as the record's deferred approach (R107). -/
def deferApproach (i : Slot) (b : Sw) (route : Route) (s : State) : State :=
  s.modSlot i fun v => { v with deferred := some (b, route) }

/-- The approach step at switch point `b` for a vehicle with a record (R107). -/
def settleApproach (i : Slot) (b : Sw) (route : Route) (s : State) : State :=
  match s.vt.slots[i] with
  | none => s
  | some v =>
    match v.queue with
    | none => swApproach b v.number route s
    | some q =>
      if q = b then swApproach b v.number route s
      else if v.occupied = some q then deferApproach i b route s
      else if s.sws[q].yields v.number then swApproach b v.number route (swWithdraw q v.number s)
      else deferApproach i b route s

/-- The approach at switch point `b` of a vehicle that has no record (R109). -/
def approachUnrecorded (b : Sw) (num : Nat) (route : Route) (s : State) : State :=
  let s := forEach ((List.finRange 16).filter (· ≠ b))
    (fun k s => if s.sws[k].yields num then swWithdraw k num s else s) s
  if (List.finRange 16).any fun k => decide (k ≠ b) && decide (s.sws[k].occupant = some num) then s
  else swApproach b num route s

/-- A telegram of a vehicle that has a record, or has just been given one (R98 to R107). -/
def takeSighting (i : Slot) (a : Sta) (role : Role) (t : Telegram) (s : State) : State :=
  let s := sightVehicle i a s
  let s := placeVehicle i role t s
  let s := applyLeak i t.leak s
  let s := applyPowerLost i t.powerLost s
  match role.switchPoint with
  | none => s
  | some b => settleApproach i b (routeOf t.route) s

/-- A telegram that finds no record and no free slot (R97, R109). -/
def takeUnrecorded (a : Sta) (role : Role) (t : Telegram) (s : State) : State :=
  let s :=
    if s.vt.fullArmed then
      queueNotice .tableFull 3 (.station (number a)) [word t.number, word (number a)]
        (s.modVt fun t => { t with fullArmed := false })
    else s
  match role.switchPoint with
  | none => s
  | some b => approachUnrecorded b t.number (routeOf t.route) s

/-- The station of this role is a boundary station. -/
def Role.isBoundary : Role → Bool
  | .boundary .. => true | .switch _ => false | .unset => false

/-- The Vehicle Table takes a telegram from station `a` (R95). -/
def takeTelegram (a : Sta) (role : Role) (t : Telegram) (s : State) : State :=
  match badTelegram role.isBoundary t with
  | some why => queueNotice .badTelegram 3 (.station (number a)) [word t.number, why] s
  | none =>
    match s.findVehicle t.number with
    | some i => takeSighting i a role t s
    | none =>
      match s.freeSlot with
      | some i => takeSighting i a role t (makeVehicle i t.number a s)
      | none => takeUnrecorded a role t s

/-! ### Lost and forgotten vehicles (R111, R112) -/

/-- The vehicle is withdrawn from the queue it stands in, if it is not its occupant there. -/
def withdrawVehicle (v : Vehicle) (s : State) : State :=
  match v.queue with
  | none => s
  | some k => if v.occupied = some k then s else swWithdraw k v.number s

/-- Low sixteen bits of a Clock value. -/
def lowHalf (c : ClockValue) : Half := c.setWidth 16

/-- The effects of the lost expiry on record `v` in slot `i` (R111). -/
def loseVehicle (i : Slot) (v : Vehicle) (s : State) : State :=
  let s := s.modSlot i fun v => { v with active := false, lostTimer := none }
  let s := withdrawVehicle v s
  queueNotice .vehicleLost 3 (.vehicle v.number)
    [word (numberOr0 v.sec), word (number v.lastStation), lowHalf v.lastSeen] s

/-- The lost timer of a slot's record expires (R111). -/
def lostExpired (i : Slot) (s : State) : State :=
  match s.vt.slots[i] with
  | none => s
  | some v => if v.active && v.lostTimer.isSome then loseVehicle i v s else s

/-- The record in slot `i` is freed (R92, R112, R114): no deferred approach, withdrawn from its queue, out of every
count, its section told if it carried a fault, the table-full notice armed. -/
def freeVehicle (i : Slot) (s : State) : State :=
  match s.vt.slots[i] with
  | none => s
  | some v =>
    let s := s.modSlot i fun v => { v with deferred := none }
    let s := withdrawVehicle v s
    let s := s.modVt fun t => { t with slots := t.slots.set i none, fullArmed := true }
    if v.leak || v.dewired then reportFactsOf v.sec s else s

/-- A record that is an occupant or DEWIRED is not freed (R112). -/
def Vehicle.kept (v : Vehicle) : Bool := v.occupied.isSome || v.dewired

/-- The forget timer of a slot's record expires (R112). -/
def forgetExpired (i : Slot) (s : State) : State :=
  match s.vt.slots[i] with
  | none => s
  | some v =>
    if v.forgetTimer.isNone then s
    else
      let s := s.modSlot i fun v => { v with forgetTimer := none }
      let s := if v.active then loseVehicle i v s else s
      if v.kept then
        queueNotice .vehicleOverdue 4 (.vehicle v.number)
          [word (numberOr0 v.sec), word (markCode v.occupied.isSome + 2 * markCode v.dewired)]
          (s.modSlot i fun v => { v with overdue := true })
      else
        queueNotice .vehicleForgotten 1 (.vehicle v.number) [word (numberOr0 v.sec), lowHalf v.lastSeen]
          (freeVehicle i s)

/-! ### Requests (R110, R113 to R115) -/

/-- The pair of timing settings. -/
def timingFields (t : VehicleTable) : List ReplyField := [fieldMs t.lostTime, fieldMs t.forgetTime]

/-- SET VEHICLE TIMING (R110). -/
def setVehicleTiming (p : List Byte) (s : State) : Answer :=
  let lost := clamp 1000 3600000 (wideAt p 0)
  let s := s.modVt fun t => { t with lostTime := lost, forgetTime := clamp lost 86400000 (wideAt p 4) }
  accept s (timingFields s.vt)

/-- GET VEHICLE TIMING (R110). -/
def getVehicleTiming (s : State) : Answer := accept s (timingFields s.vt)

/-- A request that names a vehicle number: outside 1 to 9999 it is a bad argument, and with no record it is refused, its
reply carrying the number and `missing`, the other fields at 0 (chapter 5, host vehicle requests). -/
def namingVehicle (p : List Byte) (missing : List ReplyField) (owner : Slot → Vehicle → State → Answer) (s : State) :
    Answer :=
  let num := halfAt p 0
  if num = 0 ∨ 9999 < num then badArgument s
  else
    match s.findVehicle num with
    | none => refuseState s missing
    | some i =>
      match s.vt.slots[i] with
      | none => refuseState s missing
      | some v => owner i v s

/-- A record's status as its code: 0 ACTIVE, 1 LOST. -/
def Vehicle.statusCode (v : Vehicle) : Nat := if v.active then 0 else 1

/-- A vehicle record as GET VEHICLE returns it (R113). -/
def Vehicle.fields (i : Slot) (v : Vehicle) : List ReplyField :=
  [fieldNo (Sys2Proof.number i), .nat 2 v.number, fieldCode v.statusCode, fieldNo (numberOr0 v.sec),
    fieldVal (faultWord v.leak v.dewired), fieldNo (Sys2Proof.number v.lastStation), fieldMs v.lastSeen.toNat,
    fieldTimer v.lostTimer, fieldTimer v.forgetTimer, fieldMark v.overdue, fieldNoOpt v.queue, fieldNoOpt v.occupied,
    fieldNoOpt (v.deferred.map (·.1)), fieldOpt 1 (v.deferred.map fun d => routeCode d.2)]

/-- GET VEHICLE's reply for a number that no record holds. -/
def noVehicleFields (num : Nat) : List ReplyField :=
  [fieldNo 0, .nat 2 num, fieldCode 0, fieldNo 0, fieldVal 0, fieldNo 0, fieldMs 0, fieldMs 0, fieldMs 0, .nat 1 0,
    fieldNo 0, fieldNo 0, fieldNo 0, fieldCode 0]

/-- GET VEHICLE (R113). -/
def getVehicle (p : List Byte) (s : State) : Answer :=
  namingVehicle p (noVehicleFields (halfAt p 0)) (fun i v s => accept s (v.fields i)) s

/-- What LIST VEHICLES selects: every record, or those of a section (none for section 0). -/
inductive Selector where
  | all
  | of (sec : Option Sec)
  deriving DecidableEq, Repr

/-- A selector from its octet. -/
def selectorOf (n : Nat) : Option Selector :=
  match n with
  | 0 => some (.of none)
  | 255 => some .all
  | n => (indexOf 8 n).map fun sec => .of (some sec)

/-- The selector matches a record. -/
def Selector.selects : Selector → Vehicle → Bool
  | .all, _ => true
  | .of sec, v => v.sec == sec

/-- The records a selector matches, with their slots, in slot order from slot `start`. -/
def State.listing (s : State) (sel : Selector) (start : Nat) : List (Slot × Vehicle) :=
  (List.finRange 64).filterMap fun i =>
    if number i < start then none else ((s.vt.slots[i]).filter sel.selects).map fun v => (i, v)

/-- The slot from which a further request continues: the one after the last returned, 0 when nothing is left
[log 34]. -/
def continuation (shown rest : List (Slot × Vehicle)) : Nat :=
  match shown.getLast?, rest with
  | some (i, _), _ :: _ => number i + 1
  | _, _ => 0

/-- LIST VEHICLES (R113). -/
def listVehicles (p : List Byte) (s : State) : Answer :=
  match selectorOf (octetAt p 0), indexOf 64 (octetAt p 1) with
  | some sel, some start =>
    let found := s.listing sel (number start)
    let shown := found.take 32
    let counts :=
      match sel with
      | .of (some n) => [fieldVal (s.present n), fieldVal (s.active n), fieldVal (s.leaking n), fieldVal (s.dewired n)]
      | .of none => []
      | .all => []
    accept s (shown.flatMap (fun (i, v) =>
        [.nat 2 v.number, fieldNo (number i), fieldCode v.statusCode, fieldNo (numberOr0 v.sec),
          fieldVal (faultWord v.leak v.dewired)]) ++
      [fieldNo (continuation shown (found.drop 32))] ++ counts)
  | _, _ => badArgument s

/-- REMOVE VEHICLE (R114): its reply carries the number and the slot freed, which a refusal shows as 0 (R179). -/
def removeVehicle (p : List Byte) (s : State) : Answer :=
  let refused : List ReplyField := [.nat 2 (halfAt p 0), fieldNo 0]
  namingVehicle p refused (fun i v s =>
    if v.occupied.isSome then refuseState s refused
    else accept (freeVehicle i s) [.nat 2 v.number, fieldNo (number i)]) s

/-- One fault of a record is cleared by the host (R115); `fault` is 0 LEAK, 1 DEWIRED. -/
def clearedByHost (v : Vehicle) (fault : Half) (s : State) : State :=
  reportFactsOf v.sec (queueNotice .vehicleFaultCleared 2 (.vehicle v.number) [fault, 2, word (numberOr0 v.sec)] s)

/-- CLEAR FAULT (R115) [log 20]; its reply carries the number and the faults after it [log 24]. Of both faults LEAK is
removed and reported first, DESIGN CHOICE [log 37]. -/
def clearFault (p : List Byte) (s : State) : Answer :=
  let sel := octetAt p 2
  if sel = 0 ∨ 3 < sel then badArgument s
  else
    namingVehicle p [.nat 2 (halfAt p 0), fieldVal 0] (fun i v s =>
      let clearLeak := v.leak && sel % 2 == 1
      let clearDewired := v.dewired && 2 ≤ sel
      let s :=
        if clearLeak then clearedByHost v 0 (s.modSlot i fun v => { v with leak := false }) else s
      let s :=
        if clearDewired then clearedByHost v 1 (s.modSlot i fun v => { v with dewired := false }) else s
      accept s [.nat 2 v.number, fieldVal (faultWord (v.leak && !clearLeak) (v.dewired && !clearDewired))]) s

/-! ### The commands of this family -/

/-- LOST_TIMER_EXPIRY (R111). -/
def execLostTimerExpiry (i : Slot) (s : State) : Host.Outcome State Fault Refusal := .next (lostExpired i s)

/-- FORGET_TIMER_EXPIRY (R112). -/
def execForgetTimerExpiry (i : Slot) (s : State) : Host.Outcome State Fault Refusal := .next (forgetExpired i s)

/-- The request SET_VEHICLE_TIMING is taken (R110). -/
def reqSetVehicleTiming (p : List Byte) (s : State) : State := takeFixed 0x28 8 false p (setVehicleTiming p) s

/-- SET_VEHICLE_TIMING (R110). -/
def execSetVehicleTiming (p : List Byte) (s : State) : Host.Outcome State Fault Refusal := .next (reqSetVehicleTiming p s)

/-- The request GET_VEHICLE_TIMING is taken (R110). -/
def reqGetVehicleTiming (p : List Byte) (s : State) : State := takeFixed 0x29 0 true p getVehicleTiming s

/-- GET_VEHICLE_TIMING (R110). -/
def execGetVehicleTiming (p : List Byte) (s : State) : Host.Outcome State Fault Refusal := .next (reqGetVehicleTiming p s)

/-- The request GET_VEHICLE is taken (R113). -/
def reqGetVehicle (p : List Byte) (s : State) : State := takeFixed 0x2A 2 true p (getVehicle p) s

/-- GET_VEHICLE (R113). -/
def execGetVehicle (p : List Byte) (s : State) : Host.Outcome State Fault Refusal := .next (reqGetVehicle p s)

/-- The request LIST_VEHICLES is taken (R113). -/
def reqListVehicles (p : List Byte) (s : State) : State := takeFixed 0x2B 2 true p (listVehicles p) s

/-- LIST_VEHICLES (R113). -/
def execListVehicles (p : List Byte) (s : State) : Host.Outcome State Fault Refusal := .next (reqListVehicles p s)

/-- The request REMOVE_VEHICLE is taken (R114). -/
def reqRemoveVehicle (p : List Byte) (s : State) : State := takeFixed 0x2C 2 false p (removeVehicle p) s

/-- REMOVE_VEHICLE (R114). -/
def execRemoveVehicle (p : List Byte) (s : State) : Host.Outcome State Fault Refusal := .next (reqRemoveVehicle p s)

/-- The request CLEAR_FAULT is taken (R115). -/
def reqClearFault (p : List Byte) (s : State) : State := takeFixed 0x2D 3 false p (clearFault p) s

/-- CLEAR_FAULT (R115). -/
def execClearFault (p : List Byte) (s : State) : Host.Outcome State Fault Refusal := .next (reqClearFault p s)

end Sys2Proof.Machine
end

