-- ==== Sys2Proof/Machine/FieldLoop.lean ====
section
/-!
DEFINITION. The Field Loop Controller (chapter 7): the end of an exchange by failure or success, octets and limits, the
cycle timer, and its requests.
-/

namespace Sys2Proof.Machine

/-! ### A failed exchange (R153, R156) -/

/-- The station's kind as a notice word. -/
def Station.kindWord (r : Station) : Half := word (r.role.kindCode.getD 0)

/-- The bound switch point of station `a`, if any, is told that the station's state is now `st` (R145). -/
def tellStation (a : Sta) (st : StationState) (s : State) : State :=
  match s.loop.stations[a].role.switchPoint with
  | none => s
  | some k => swStation k st s

/-- The station enters LOST (R145, R153). -/
def stationLost (a : Sta) (s : State) : State :=
  let s := s.modStation a fun r => { r with state := .lost }
  let s := tellStation a .lost s
  let r := s.loop.stations[a]
  queueNotice .stationLost 5 (.station (number a)) [r.kindWord, word r.rate.code, word r.lastFailure.code] s

/-- A poll has failed: a failure is counted, and the third loses the station (R153). -/
def pollFailed (a : Sta) (cause : LoopFailure) (s : State) : State :=
  let s := s.modStation a fun r => { r with failures := min 3 (r.failures + 1), lastFailure := cause }
  if s.loop.stations[a].failures = 3 then stationLost a s else s

/-- The rate of the next attempt (R156). -/
def Rate.next : Rate → Rate
  | .fast => .medium | .medium => .slow | .slow => .fast

/-- A census exchange has failed (R156). -/
def censusFailed (a : Sta) (cause : LoopFailure) (s : State) : State :=
  s.modStation a fun r => { r with lastFailure := cause, rate := r.rate.next }

/-- The exchange in flight fails, and the next one is chosen (R150, R153, R156). -/
def exchangeFailed (e : Exchange) (cause : LoopFailure) (s : State) : State :=
  let s := dropExchange s
  nextExchange
    (match e.command with
    | .census => censusFailed e.station cause s
    | .poll => pollFailed e.station cause s
    | .drive _ => pollFailed e.station cause s)

/-! ### A successful exchange (R154, R155, R157) -/

/-- The telegrams of a new reply are handed to the Vehicle Table one by one (R154). -/
def handTelegrams (a : Sta) (role : Role) (ts : List Telegram) (s : State) : State :=
  forEach ts (takeTelegram a role) s

/-- The position of a reply is handed to the bound switch point (R154). -/
def handPosition (k : Sw) (position : Nat) (s : State) : State :=
  match stationPositionOf position with
  | none => s
  | some p => swPosition k p s

/-- A poll's reply is handed on: acceptance, contact events, position (R154 steps 1 to 3). -/
def handToSwitch (k : Sw) (c : LoopCommand) (isNew : Bool) (r : LoopReply) (s : State) : State :=
  let s :=
    match c with
    | .drive _ => driveAccepted k s
    | .poll => s
    | .census => s
  let s := if isNew then forEach r.events (swContact k) s else s
  handPosition k r.position s

/-- A poll has succeeded (R153, R154, R155). -/
def pollSucceeded (e : Exchange) (r : LoopReply) (s : State) : State :=
  let old := s.loop.stations[e.station]
  let isNew := decide (old.mark ≠ some r.mark)
  let s := s.modStation e.station fun t => { t with failures := 0, mark := some r.mark }
  let s :=
    match old.role.switchPoint with
    | none => s
    | some k => handToSwitch k e.command isNew r s
  if isNew then handTelegrams e.station old.role r.telegrams s else s

/-- A census found a station of the wrong kind (R157). -/
def censusMismatch (a : Sta) (r : LoopReply) (s : State) : State :=
  let s := s.modStation a fun t => { t with state := .disabled }
  let s := tellStation a .disabled s
  let t := s.loop.stations[a]
  queueNotice .stationMismatch 5 (.station (number a)) [t.kindWord, word r.kind, word t.rate.code] s

/-- A census has found its station (R145, R157). -/
def censusFound (a : Sta) (r : LoopReply) (s : State) : State :=
  let old := s.loop.stations[a]
  let isNew := decide (old.mark ≠ some r.mark)
  let s := (s.modStation a fun t => { t with state := .online, failures := 0, mark := some r.mark }).modLoop
    fun l => { l with found := some a }
  let s :=
    match old.role.switchPoint, stationPositionOf r.position with
    | some k, some p => swOnline k r.poles p s
    | _, _ => s
  let s := if isNew then handTelegrams a old.role r.telegrams s else s
  queueNotice .stationOnline 2 (.station (number a)) [old.kindWord, word old.rate.code, word old.state.code] s

/-- A census exchange has succeeded: the kind in the reply judges it (R157). -/
def censusSucceeded (a : Sta) (r : LoopReply) (s : State) : State :=
  if s.loop.stations[a].role.kindCode = some r.kind then censusFound a r s else censusMismatch a r s

/-- The exchange in flight succeeds, its reply is handed on, and the next exchange is chosen (R150) [log 15]. -/
def exchangeSucceeded (e : Exchange) (r : LoopReply) (s : State) : State :=
  let s := dropExchange s
  nextExchange
    (match e.command with
    | .census => censusSucceeded e.station r s
    | .poll => pollSucceeded e r s
    | .drive _ => pollSucceeded e r s)

/-- A complete reply is checked and ends the exchange (R152). -/
def judgeReply (e : Exchange) (octets : List Byte) (s : State) : State :=
  let kind := (s.loop.stations[e.station].role.kindCode).getD 0
  match parseLoopReply e.station (decide (e.command = .census)) kind octets with
  | .error cause => exchangeFailed e cause s
  | .ok r => exchangeSucceeded e r s

/-! ### Events on the loop (R150, R151, R152) -/

/-- The last octet of the request has gone: LOOP DIRECTION turns to receive (R151). -/
def loopSent (s : State) : State :=
  match s.loop.exchange with
  | none => s
  | some e =>
    match e.phase with
    | .sending =>
      s.modLoop fun l =>
        { l with exchange := some { e with phase := .awaiting (startLimit e.rate l.stations[e.station].relax) } }
    | .awaiting _ => s
    | .receiving .. => s

/-- The start limit expires (R151). -/
def startLimitExpired (s : State) : State :=
  match s.loop.exchange with
  | none => s
  | some e =>
    match e.phase with
    | .awaiting _ => exchangeFailed e .timeout s
    | .sending => s
    | .receiving .. => s

/-- The gap limit expires (R151). -/
def gapLimitExpired (s : State) : State :=
  match s.loop.exchange with
  | none => s
  | some e =>
    match e.phase with
    | .receiving .. => exchangeFailed e .gap s
    | .sending => s
    | .awaiting _ => s

/-- A reply reaches its declared length; `octets` are all its octets (R152) [log 4]. -/
def loopCompleted (octets : List Byte) (s : State) : State :=
  match s.loop.exchange with
  | none => s
  | some e =>
    match e.phase with
    | .sending => s
    | .awaiting _ => judgeReply e octets s
    | .receiving .. => judgeReply e octets s

/-- The octets received so far, with a new one: a declared length above 64 fails the exchange at once, a complete reply
is judged, and otherwise the gap limit starts anew (R151, R152). -/
def loopReceived (e : Exchange) (octets : List Byte) (s : State) : State :=
  if 64 < octetAt octets 0 then exchangeFailed e .format s
  else if loopComplete octets then judgeReply e octets s
  else
    s.modLoop fun l =>
      { l with
        exchange := some { e with phase := .receiving (gapLimit l.stations[e.station].relax) octets } }

/-- An octet arrives on LOOP RX (R150, R151). -/
def loopOctet (b : Byte) (s : State) : State :=
  match s.loop.exchange with
  | none => s
  | some e =>
    match e.phase with
    | .sending => s
    | .awaiting _ => loopReceived e [b] s
    | .receiving _ octets => loopReceived e (octets ++ [b]) s

/-- The cycle timer expires (R147). In RUNNING it is then stopped, so GET LOOP STATUS gives it no time remaining, DESIGN
CHOICE [log 38]. -/
def cycleExpired (s : State) : State :=
  if s.loop.cycleTimer.isSome then
    if s.loop.running then s.modLoop fun l => { l with late := true, cycleTimer := none } else newCycle s
  else s

/-- The loop's step of a RESTART (R161, R162, R184 step 3): drives are no longer held, before the first exchange is chosen
[log 15]. -/
def loopRestart (s : State) : State := resetCycle (s.modLoop fun l => { l with holding := false })

/-! ### Requests (R143, R144, R148, R159, R160, R163) -/

/-- The binding as a reply carries it, in the request's layout; absent with no record. -/
def Role.fields : Role → List ReplyField
  | .unset => [.absent 1, .absent 1]
  | .switch k => [fieldNo (numberOr0 k), fieldNo 0]
  | .boundary sideA sideB => [fieldNo (numberOr0 sideA), fieldNo (numberOr0 sideB)]

/-- A station record as a reply carries it (R143, R163). -/
def Station.fields (r : Station) : List ReplyField :=
  [fieldOpt 1 r.role.kindCode] ++ r.role.fields ++
  [fieldCode r.rate.code, .nat 1 r.relax, fieldCode r.state.code, fieldVal r.failures,
    fieldOpt 1 (r.mark.map markCode), fieldCode r.lastFailure.code]

/-- A binding's number from 0 to `m`, 0 naming nothing; none outside. -/
def boundOf (m n : Nat) : Option (Option (Fin m)) :=
  if n = 0 then some none else (indexOf m n).map some

/-- The role a SET STATION payload gives (R143); a SWITCH record's second binding octet is not read [log 20]. -/
def parseRole (p : List Byte) : Option Role :=
  match octetAt p 1 with
  | 0 => (boundOf 16 (octetAt p 2)).map .switch
  | 1 =>
    match boundOf 8 (octetAt p 2), boundOf 8 (octetAt p 3) with
    | some sideA, some sideB => some (.boundary sideA sideB)
    | _, _ => none
  | _ => none

/-- A record at another address binds the switch point (R143). -/
def Loop.boundElsewhere (l : Loop) (a : Sta) (k : Option Sw) : Bool :=
  k.isSome && (List.finRange 32).any fun b => decide (b ≠ a) && decide (l.stations[b].role.switchPoint = k)

/-- The exchange in flight is addressed to station `a`. -/
def Loop.addresses (l : Loop) (a : Sta) : Bool :=
  match l.exchange with
  | none => false
  | some e => decide (e.station = a)

/-- Station `a`'s exchange, if in flight, is aborted around a rewrite of its record by `f`, and the next exchange is
chosen after it (R143, R144, R158) [log 15]. -/
def rewriting (a : Sta) (f : State → State) (s : State) : State :=
  if s.loop.addresses a then nextExchange (f (dropExchange s)) else f s

/-- A switch point bound before and not after is told that its binding has ended (R143, R144). -/
def endBinding (before after : Option Sw) (s : State) : State :=
  match before with
  | none => s
  | some k => if after = some k then s else swUnbind k s

/-- The new record of station `a` is stored and the switch points are told (R143 steps 2 and 3). -/
def storeStation (a : Sta) (role : Role) (relax : Nat) (s : State) : State :=
  let before := s.loop.stations[a].role.switchPoint
  let s := s.modStation a fun _ => { role := role, relax := relax, state := .census }
  let s := endBinding before role.switchPoint s
  match role.switchPoint with
  | none => s
  | some k => swBind k a s

/-- SET STATION (R143). -/
def setStation (p : List Byte) (s : State) : Answer :=
  naming 32 p (fun a s =>
    match parseRole p with
    | none => badArgument s
    | some role =>
      if s.loop.boundElsewhere a role.switchPoint then refuseState s s.loop.stations[a].fields
      else
        let s := rewriting a (storeStation a role (min 3 (octetAt p 4))) s
        accept s s.loop.stations[a].fields) s

/-- The record of station `a` is cleared (R144). -/
def clearStation (a : Sta) (s : State) : State :=
  let s := endBinding s.loop.stations[a].role.switchPoint none s
  s.modStation a fun _ => {}

/-- REMOVE STATION (R144). -/
def removeStation (p : List Byte) (s : State) : Answer :=
  naming 32 p (fun a s =>
    if s.loop.stations[a].state = .unconfigured then refuseState s []
    else accept (rewriting a (clearStation a) s) []) s

/-- SET CYCLE TIME (R148). -/
def setCycleTime (p : List Byte) (s : State) : Answer :=
  let s := s.modLoop fun l => { l with cycleTime := clamp 20 1000 (halfAt p 0) }
  accept s [.nat 2 s.loop.cycleTime]

/-- The exchange in flight as GET LOOP STATUS shows it. -/
def exchangeFields : Option Exchange → List ReplyField
  | none => [.absent 1, .absent 1, .absent 1]
  | some e => [fieldNo (number e.station), fieldCode e.command.code, .exchangePhase e.phase.index]

/-- GET LOOP STATUS (R148). -/
def getLoopStatus (s : State) : Answer :=
  let l := s.loop
  accept s ([.nat 2 l.cycleTime, .cyclePhase l.running, fieldTimer l.cycleTimer, fieldNo l.pollPos,
    fieldNo l.censusPos, fieldMark l.censusDone, fieldMark l.late, fieldMark l.overrun] ++ exchangeFields l.exchange ++
    [fieldMark l.holding])

/-- LOOP SKIP (R159). -/
def loopSkip (s : State) : Answer :=
  match s.loop.exchange with
  | none => refuseState s [fieldNo 0, fieldCode 0]
  | some e => accept (abortAndContinue s) [fieldNo (number e.station), fieldCode e.command.code]

/-- LOOP RESET (R160). -/
def loopReset (s : State) : Answer :=
  accept (resetCycle s) [fieldNo (numberOr0 (s.loop.exchange.map (·.station)))]

/-- Whether, and in which phase, the exchange in flight is with station `a` (R163). -/
def addressedFields (a : Sta) (l : Loop) : List ReplyField :=
  match l.exchange with
  | none => [fieldMark false, .absent 1]
  | some e =>
    if e.station = a then [fieldMark true, .exchangePhase e.phase.index] else [fieldMark false, .absent 1]

/-- GET STATION (R163). -/
def getStation (p : List Byte) (s : State) : Answer :=
  naming 32 p (fun a s => accept s (s.loop.stations[a].fields ++ addressedFields a s.loop)) s

/-! ### The commands of this family -/

/-- CYCLE_TIMER_EXPIRY (R147). -/
def execCycleTimerExpiry (s : State) : Host.Outcome State Fault Refusal := .next (cycleExpired s)

/-- LOOP_REQUEST_SENT (R151). -/
def execLoopRequestSent (s : State) : Host.Outcome State Fault Refusal := .next (loopSent s)

/-- START_LIMIT_EXPIRY (R151). -/
def execStartLimitExpiry (s : State) : Host.Outcome State Fault Refusal := .next (startLimitExpired s)

/-- GAP_LIMIT_EXPIRY (R151). -/
def execGapLimitExpiry (s : State) : Host.Outcome State Fault Refusal := .next (gapLimitExpired s)

/-- LOOP_REPLY_COMPLETE (R152). -/
def execLoopReplyComplete (octets : List Byte) (s : State) : Host.Outcome State Fault Refusal := .next (loopCompleted octets s)

/-- LOOP_OCTET_RECEIVED (R151). -/
def execLoopOctetReceived (octet : Byte) (s : State) : Host.Outcome State Fault Refusal := .next (loopOctet octet s)

/-- The request SET_STATION is taken (R143). -/
def reqSetStation (p : List Byte) (s : State) : State := takeFixed 0x38 5 false p (setStation p) s

/-- SET_STATION (R143). -/
def execSetStation (p : List Byte) (s : State) : Host.Outcome State Fault Refusal := .next (reqSetStation p s)

/-- The request REMOVE_STATION is taken (R144). -/
def reqRemoveStation (p : List Byte) (s : State) : State := takeFixed 0x39 1 false p (removeStation p) s

/-- REMOVE_STATION (R144). -/
def execRemoveStation (p : List Byte) (s : State) : Host.Outcome State Fault Refusal := .next (reqRemoveStation p s)

/-- The request GET_STATION is taken (R163). -/
def reqGetStation (p : List Byte) (s : State) : State := takeFixed 0x3A 1 true p (getStation p) s

/-- GET_STATION (R163). -/
def execGetStation (p : List Byte) (s : State) : Host.Outcome State Fault Refusal := .next (reqGetStation p s)

/-- The request SET_CYCLE_TIME is taken (R148). -/
def reqSetCycleTime (p : List Byte) (s : State) : State := takeFixed 0x3B 2 false p (setCycleTime p) s

/-- SET_CYCLE_TIME (R148). -/
def execSetCycleTime (p : List Byte) (s : State) : Host.Outcome State Fault Refusal := .next (reqSetCycleTime p s)

/-- The request GET_LOOP_STATUS is taken (R148). -/
def reqGetLoopStatus (p : List Byte) (s : State) : State := takeFixed 0x3C 0 true p getLoopStatus s

/-- GET_LOOP_STATUS (R148). -/
def execGetLoopStatus (p : List Byte) (s : State) : Host.Outcome State Fault Refusal := .next (reqGetLoopStatus p s)

/-- The request LOOP_SKIP is taken (R159). -/
def reqLoopSkip (p : List Byte) (s : State) : State := takeFixed 0x3D 0 false p loopSkip s

/-- LOOP_SKIP (R159). -/
def execLoopSkip (p : List Byte) (s : State) : Host.Outcome State Fault Refusal := .next (reqLoopSkip p s)

/-- The request LOOP_RESET is taken (R160). -/
def reqLoopReset (p : List Byte) (s : State) : State := takeFixed 0x3E 0 false p loopReset s

/-- LOOP_RESET (R160). -/
def execLoopReset (p : List Byte) (s : State) : Host.Outcome State Fault Refusal := .next (reqLoopReset p s)

end Sys2Proof.Machine
end

