-- ==== Sys2Proof/Machine/Notices.lean ====
section
/-!
DEFINITION. The host's requests to the Notice Queue (R168 to R172) and to the Clock (R183).
-/

namespace Sys2Proof.Machine

/-- The queue after a fetch of up to `count` records: a fetch that removes one clears the overflow mark, and ATTN follows
(R168, R169, R170). -/
def NoticeQueue.fetched (count : Nat) (q : NoticeQueue) : NoticeQueue :=
  NoticeQueue.withAttn
    { q with records := q.records.drop count, overflow := q.overflow && q.records.isEmpty }

/-- FETCH NOTICES (R169). The reply carries the records, oldest first, then the number returned, the number left, the
overflow mark as it stood before and ATTN after. -/
def fetchNotices (p : List Byte) (s : State) : Answer :=
  let count := clamp 1 8 (octetAt p 0)
  let out := s.notices.records.take count
  let overflow := s.notices.overflow
  let s := s.modNotices (NoticeQueue.fetched count)
  accept s (out.flatMap Notice.fields ++
    [fieldVal out.length, fieldVal s.notices.records.length, fieldMark overflow, fieldMark s.notices.attn])

/-- The highest priority stored, 0 for none (R171). -/
def NoticeQueue.highest (q : NoticeQueue) : Nat := q.records.foldl (fun m r => max m r.priority) 0

/-- SET ATTENTION (R171). -/
def setAttention (p : List Byte) (s : State) : Answer :=
  let s := s.modNotices fun q => NoticeQueue.withAttn { q with mask := clamp 0 7 (octetAt p 0) }
  accept s [.nat 1 s.notices.mask, fieldMark s.notices.attn, fieldVal s.notices.highest]

/-- The dropped count and the highest dropped priority while the overflow mark is set, from the newest record's words
(R172). -/
def NoticeQueue.droppedFields (q : NoticeQueue) : List ReplyField :=
  if q.overflow then
    match q.records.getLast? with
    | none => [.absent 2, .absent 2]
    | some r => [fieldVal (r.words.getD 2 0).toNat, fieldVal (r.words.getD 3 0).toNat]
  else [.absent 2, .absent 2]

/-- GET NOTICE STATUS (R172). -/
def getNoticeStatus (s : State) : Answer :=
  let q := s.notices
  accept s ([fieldVal q.records.length] ++
    ([1, 2, 3, 4, 5, 6, 7].map fun p => fieldVal (q.records.countP fun r => r.priority == p)) ++
    [fieldVal ((q.records.head?.map (·.entry)).getD q.counter).toNat, fieldVal q.counter.toNat, fieldMark q.overflow] ++
    q.droppedFields ++ [.nat 1 q.mask, fieldMark q.attn])

/-- SET TIME (R183). -/
def setTime (p : List Byte) (s : State) : Answer :=
  let now := BitVec.ofNat 32 (wideAt p 0)
  accept { s with clock := now } [fieldMs s.clock.toNat, fieldMs now.toNat]

/-- GET TIME (R183). -/
def getTime (s : State) : Answer := accept s [fieldMs s.clock.toNat]

/-! ### The commands of this family -/

/-- The request FETCH_NOTICES is taken (R169). -/
def reqFetchNotices (p : List Byte) (s : State) : State := takeFixed 0x40 1 true p (fetchNotices p) s

/-- FETCH_NOTICES (R169). -/
def execFetchNotices (p : List Byte) (s : State) : Host.Outcome State Fault Refusal := .next (reqFetchNotices p s)

/-- The request SET_ATTENTION is taken (R171). -/
def reqSetAttention (p : List Byte) (s : State) : State := takeFixed 0x41 1 true p (setAttention p) s

/-- SET_ATTENTION (R171). -/
def execSetAttention (p : List Byte) (s : State) : Host.Outcome State Fault Refusal := .next (reqSetAttention p s)

/-- The request GET_NOTICE_STATUS is taken (R172). -/
def reqGetNoticeStatus (p : List Byte) (s : State) : State := takeFixed 0x42 0 true p getNoticeStatus s

/-- GET_NOTICE_STATUS (R172). -/
def execGetNoticeStatus (p : List Byte) (s : State) : Host.Outcome State Fault Refusal := .next (reqGetNoticeStatus p s)

/-- The request SET_TIME is taken (R183). -/
def reqSetTime (p : List Byte) (s : State) : State := takeFixed 0x48 4 true p (setTime p) s

/-- SET_TIME (R183). -/
def execSetTime (p : List Byte) (s : State) : Host.Outcome State Fault Refusal := .next (reqSetTime p s)

/-- The request GET_TIME is taken (R183). -/
def reqGetTime (p : List Byte) (s : State) : State := takeFixed 0x49 0 true p getTime s

/-- GET_TIME (R183). -/
def execGetTime (p : List Byte) (s : State) : Host.Outcome State Fault Refusal := .next (reqGetTime p s)

end Sys2Proof.Machine
end

