-- ==== Sys2Proof/Machine/Conditions.lean ====
section
/-!
DEFINITION. The Condition Generators (R27 to R35). The comparator values an FPU hands over are those of the arrival's
capture entry (R23, R24).
-/

namespace Sys2Proof.Machine

/-! ### Evaluation -/

/-- A comparator's result (R28). -/
def Comparator.result (e : CaptureEntry) (present : Nat) (f : Feedback) : Comparator → Bool
  | .iAbove level => decide (level < e.current.natAbs)
  | .iBelow level => decide (e.current.natAbs < level)
  | .uAbove level => decide (level < e.voltage)
  | .uBelow level => decide (e.voltage < level)
  | .fAbove level => decide (level < e.filtered)
  | .rising => e.rising
  | .presentAbove count => decide (count < present)
  | .breakerClosed => decide (f = .closed)

/-- The combined value (R29). -/
def Condition.combine (c : Condition) (results : List Bool) : Bool :=
  if c.all then results.all id else results.any id

/-- Where the output state moves, and whether it reaches ON from OFF or ONSET (R30, R31, R32). -/
def GenState.next (c : Condition) (combined : Bool) : GenState → GenState × Bool
  | .off => if combined then if c.onset = 0 then (.on, true) else (.onset 0, false) else (.off, false)
  | .onset n =>
    if combined then if c.onset ≤ n + 1 then (.on, true) else (.onset (n + 1), false) else (.off, false)
  | .on => if combined then (.on, false) else if c.release = 0 then (.off, false) else (.release 0, false)
  | .release n =>
    if combined then (.on, false) else if c.release ≤ n + 1 then (.off, false) else (.release (n + 1), false)
  | .latched => (.latched, false)

/-- The generator after an evaluation, and whether it takes its actions (R29 to R32). -/
def Generator.evaluated (e : CaptureEntry) (present : Nat) (f : Feedback) (g : Generator) : Generator × Bool :=
  let results := g.setting.inputs.map (Comparator.result e present f)
  let combined := g.setting.combine results
  let (out, reached) := g.out.next g.setting combined
  ({ g with out := if reached && g.setting.latch then .latched else out, results, combined }, reached)

/-- The results of the inputs, one bit per input from bit 0 (R33). -/
def resultWord (results : List Bool) : Nat := results.foldr (fun b n => markCode b + 2 * n) 0

/-- The values of a COND request (R33). -/
def condValues (n : Sec) (e : CaptureEntry) (s : State) : TripValues :=
  { current := e.current, rise := e.rise, delta := 0, filtered := e.filtered, nActive := s.active n, seq := e.seq
    time := s.clock }

/-- A change of generator `g`'s gate is told to the buffers (R33, R41). -/
def tellChange (g : Gen) (before : Bool) (s : State) : State :=
  let now := s.gens[g].gateOpen
  if before = now then s else tellGate g now s

/-- Generator `g` is evaluated at an arrival of section `n`, its section (R27 to R33): notice, gate, trip request
[log 30]. -/
def evaluateGenerator (n : Sec) (e : CaptureEntry) (g : Gen) (s : State) : State :=
  let old := s.gens[g]
  let (new, acts) := old.evaluated e (s.present n) s.secs[n].feedback
  let s := s.modGen g fun _ => new
  let s :=
    if acts && new.setting.notice then
      queueNotice .condition 4 (.generator g)
        [word (number n), e.seq, word (markCode new.setting.all), word (resultWord new.results)] s
    else s
  let s := tellChange g old.gateOpen s
  if acts && new.setting.trip then tripRequest n .cond (condValues n e s) s else s

/-- The generators bound to section `n` are evaluated, in the order given; one without inputs is not (R27). -/
def evaluateGenerators (order : List Gen) (n : Sec) (e : CaptureEntry) (s : State) : State :=
  forEach order (fun g s =>
    if s.gens[g].setting.sec = n ∧ s.gens[g].setting.inputs ≠ [] then evaluateGenerator n e g s else s) s

/-- A generator returns to OFF, with no count; its gate closes (R32, R34, R35). -/
def generatorOff (g : Gen) (s : State) : State :=
  let before := s.gens[g].gateOpen
  tellChange g before (s.modGen g fun g => { g with out := .off })

/-- The generators' step of a RESTART (R35, R184 step 4). -/
def generatorsRestart (s : State) : State :=
  forEach (List.finRange 8)
    (fun g s => (generatorOff g s).modGen g fun g => { g with results := [], combined := false }) s

/-! ### Requests -/

/-- A comparator from its code and parameter, the parameter clamped (R28, R34). -/
def comparatorOf (code param : Nat) (signed : Int) : Option Comparator :=
  match code with
  | 0 => some (.iAbove (clamp 0 16384 param))
  | 1 => some (.iBelow (clamp 0 16384 param))
  | 2 => some (.uAbove (clamp 0 4095 param))
  | 3 => some (.uBelow (clamp 0 4095 param))
  | 4 => some (.fAbove (clampInt (-16384) 16383 signed))
  | 5 => some .rising
  | 6 => some (.presentAbove (clamp 0 64 param))
  | 7 => some .breakerClosed
  | _ => none

/-- `count` inputs whose first octet stands at place `k`; none if one names no comparator. -/
def inputsAt (p : List Byte) (k : Nat) : Nat → Option (List Comparator)
  | 0 => some []
  | count + 1 =>
    match comparatorOf (octetAt p k) (halfAt p (k + 1)) (signedAt p (k + 1)), inputsAt p (k + 3) count with
    | some c, some cs => some (c :: cs)
    | _, _ => none

/-- The size check of SET CONDITION (R34, chapter 10). -/
def conditionSize (p : List Byte) : Bool :=
  decide (10 ≤ p.length) && decide (octetAt p 9 ≤ 4) && p.length == 10 + 3 * octetAt p 9

/-- The setting record a SET CONDITION payload carries, none for a code that names nothing (R34) [log 20]. -/
def parseCondition (p : List Byte) : Option Condition :=
  let actions := octetAt p 8
  match indexOf 8 (octetAt p 1), switchCode (octetAt p 2), switchCode (octetAt p 7), inputsAt p 10 (octetAt p 9) with
  | some sec, some all, some latch, some inputs =>
    if 7 < actions then none
    else some
      { sec, inputs, all, latch, onset := halfAt p 3, release := halfAt p 5
        notice := actions.testBit 0, trip := actions.testBit 1, capture := actions.testBit 2 }
  | _, _, _, _ => none

/-- A comparator's parameter as a reply carries it, 0 for a kind that takes none. -/
def Comparator.param : Comparator → ReplyField
  | .iAbove l => .nat 2 l | .iBelow l => .nat 2 l | .uAbove l => .nat 2 l | .uBelow l => .nat 2 l
  | .fAbove l => .int 2 l | .rising => .nat 2 0 | .presentAbove c => .nat 2 c | .breakerClosed => .nat 2 0

/-- The setting record as a reply carries it, in the request's layout. -/
def Condition.fields (c : Condition) : List ReplyField :=
  [fieldNo (number c.sec), fieldMark c.all, .nat 2 c.onset, .nat 2 c.release, fieldMark c.latch,
    .nat 1 (markCode c.notice + 2 * markCode c.trip + 4 * markCode c.capture), .nat 1 c.inputs.length] ++
  c.inputs.flatMap fun i => [fieldCode i.code, i.param]

/-- SET CONDITION (R34). -/
def setCondition (p : List Byte) (s : State) : Answer :=
  naming 8 p (fun g s =>
    match parseCondition p with
    | none => badArgument s
    | some c =>
      let s := (generatorOff g s).modGen g fun g => { g with setting := c }
      accept s (c.fields ++ [fieldCode s.gens[g].out.code])) s

/-- GET CONDITION (R34): the results of four inputs, an input that is not set reading false [log 24], and a count only in
the states that use one [log 41]. -/
def getCondition (p : List Byte) (s : State) : Answer :=
  naming 8 p (fun g s =>
    let g := s.gens[g]
    accept s (g.setting.fields ++ [fieldCode g.out.code, fieldOpt 2 g.out.count] ++
      (List.range 4).map (fun i => fieldMark (g.results.getD i false)) ++ [fieldMark g.combined])) s

/-- ACK CONDITION (R32). -/
def ackCondition (p : List Byte) (s : State) : Answer :=
  naming 8 p (fun g s =>
    if s.gens[g].out = .latched then
      let s := generatorOff g s
      accept s [fieldCode s.gens[g].out.code]
    else refuseState s [fieldCode s.gens[g].out.code]) s

/-! ### The commands of this family -/

/-- The request SET_CONDITION is taken (R34). -/
def reqSetCondition (p : List Byte) (s : State) : State := takeRequest 0x08 (conditionSize p) false (setCondition p) s

/-- SET_CONDITION (R34). -/
def execSetCondition (p : List Byte) (s : State) : Host.Outcome State Fault Refusal := .next (reqSetCondition p s)

/-- The request GET_CONDITION is taken (R34). -/
def reqGetCondition (p : List Byte) (s : State) : State := takeFixed 0x09 1 true p (getCondition p) s

/-- GET_CONDITION (R34). -/
def execGetCondition (p : List Byte) (s : State) : Host.Outcome State Fault Refusal := .next (reqGetCondition p s)

/-- The request ACK_CONDITION is taken (R32). -/
def reqAckCondition (p : List Byte) (s : State) : State := takeFixed 0x0A 1 false p (ackCondition p) s

/-- ACK_CONDITION (R32). -/
def execAckCondition (p : List Byte) (s : State) : Host.Outcome State Fault Refusal := .next (reqAckCondition p s)

end Sys2Proof.Machine
end

