-- ==== Sys2Proof/Machine/LineTest.lean ====
section
/-!
DEFINITION. Line testing (chapter 4): pairs, the decision at the settle timer's expiry, the result at the section, and
the requests of the Test Arbiter and the Line Test Unit.
-/

namespace Sys2Proof.Machine

/-! ### Pairs (R82) -/

/-- Place a pair at the head of the window and keep the eight newest. -/
def TestContext.addPair (u ubus : Nat) (t : TestContext) : TestContext :=
  { t with pairs := ((u, ubus) :: t.pairs).take 8 }

/-- The frame's delivery to the Line Test Unit: an open context whose section has a sample set in a frame with a bus
voltage takes the pair (R3, R82). -/
def TestContext.deliver (f : SampleFrame) (t : TestContext) : TestContext :=
  if f.valid[t.sec] && f.ubusValid then t.addPair f.voltage[t.sec] f.ubus else t

/-- The frame is delivered to both contexts (R82). -/
def deliverToLineTest (f : SampleFrame) (s : State) : State :=
  s.modArb fun a => { a with contexts := a.contexts.map (Option.map (TestContext.deliver f)) }

/-! ### The decision (R83 to R86) -/

/-- The least bus voltage a test needs, 400 V (R83). -/
def busLowLimit : Nat := 1600

/-- Mean of a list, rounded down, 0 for none. -/
def mean (l : List Nat) : Nat := l.sum / l.length

/-- Load resistance in tenths of an ohm (R84). -/
def loadResistance (rt us ub : Nat) : Nat :=
  if ub ≤ us then 65535 else min 65535 (10 * rt * us / (ub - us))

/-- Expected resistance of `nPresent` vehicles (R85). -/
def expectedResistance (rveh nPresent : Nat) : Nat := if nPresent = 0 then 65535 else rveh / nPresent

/-- Clearance level (R85). -/
def clearanceLevel (rclear rexp : Nat) : Nat := min rclear (rexp * 3 / 4)

/-- Classification by the first line of R86's table that applies. -/
def classify (rload rc rfault : Nat) : TestResult :=
  if rc ≤ rfault then .inconclusive
  else if rc ≤ rload then .clear
  else if rload < rfault then .fault
  else .inconclusive

/-- The test is decided from its context (R83 to R87). -/
def decideTest (c : Circuit) (t : TestContext) (s : State) : TestRecord :=
  let k := s.secs[t.sec].settings
  let us := mean (t.pairs.map (·.1))
  let ub := mean (t.pairs.map (·.2))
  let nPresent := s.present t.sec
  let base : TestRecord :=
    { result := .noSupply, reason := .none, us, ub, rload := 65535, nPresent, rexp := 0, rc := 0, circuit := c
      pairs := t.pairs.length, time := s.clock }
  if t.pairs.length < 8 then { base with reason := .measurement }
  else if ub < busLowLimit then { base with reason := .busLow }
  else
    let rload := loadResistance k.resistor us ub
    let rexp := expectedResistance k.vehicle nPresent
    let rc := clearanceLevel k.clearLevel rexp
    { base with result := classify rload rc k.faultLevel, rload, rexp, rc }

/-- A result reaches the section: taken in LINE_TEST, else discarded (R58, R88). -/
def takeResult (n : Sec) (result : TestResult) (s : State) : State :=
  if s.secs[n].state = .lineTest then
    let s := releaseCircuit n s
    let r := s.secs[n]
    match result with
    | .clear => enterClosing n s
    | .fault =>
      match r.nextDead with
      | some k => enterDead n k s
      | none => enterLockout n .testFault s
    | .inconclusive => enterHeld n s
    | .noSupply =>
      let s := s.modSec n fun r =>
        { r with holds := { r.holds with noSupply := true }, attempt := if r.manual then r.attempt else r.attempt - 1 }
      enterDead n (if r.manual then 1 else r.attempt - 1 + 1) s
  else s

/-- The settle timer of circuit `c` expires (R83, R87): context closed, record written, TEST RESULT queued, result handed
over. -/
def settleExpired (c : Circuit) (s : State) : State :=
  match s.arb.contexts[c] with
  | none => s
  | some t =>
    let d := decideTest c t s
    let s := s.modArb fun a => { a with contexts := a.contexts.set c none }
    let s := s.modSec t.sec fun r => { r with lastTest := some d }
    let s := queueNotice .testResult (if d.result = .clear then 1 else 5) (.sec t.sec)
      [word d.us, word d.ub, word d.rload, word (testWord d.result d.reason d.nPresent)] s
    takeResult t.sec d.result s

/-! ### Requests -/

/-- Circuit count, holders and waiting list (R76). -/
def arbiterFields (a : Arbiter) : List ReplyField :=
  [.nat 1 a.count, fieldNoOpt a.holders[0], fieldNoOpt a.holders[1]] ++ a.waiting.map fun n => fieldNo (number n)

/-- SET TEST CIRCUITS (R76). -/
def setTestCircuits (p : List Byte) (s : State) : Answer :=
  let s := applyGrants (s.modArb fun a => { a with count := clamp 1 2 (octetAt p 0) })
  accept s (arbiterFields s.arb)

/-- A circuit's running test: time remaining and pair count, absent where no test runs (R89). -/
def contextFields : Option TestContext → List ReplyField
  | none => [.absent 4, .absent 2]
  | some t => [fieldMs t.settle, fieldVal t.pairs.length]

/-- GET TEST STATUS (R76, R89). -/
def getTestStatus (s : State) : Answer :=
  accept s (arbiterFields s.arb ++ contextFields s.arb.contexts[0] ++ contextFields s.arb.contexts[1])

/-- A last test record in its reply, every field absent when there is none (R87, R90). -/
def testFields : Option TestRecord → List ReplyField
  | none =>
    [.absent 1, .absent 1, .absent 2, .absent 2, .absent 2, .absent 2, .absent 2, .absent 2, .absent 1, .absent 2,
      .absent 4]
  | some t =>
    [fieldCode t.result.code, fieldCode t.reason.code, fieldVal t.us, fieldVal t.ub, fieldVal t.rload,
      fieldVal t.nPresent, fieldVal t.rexp, fieldVal t.rc, fieldNo (number t.circuit), fieldVal t.pairs,
      fieldMs t.time.toNat]

/-- GET TEST RESULT (R90). -/
def getTestResult (p : List Byte) (s : State) : Answer :=
  naming 8 p (fun n s => accept s (testFields s.secs[n].lastTest)) s

/-! ### The commands of this family -/

/-- SETTLE_TIMER_EXPIRY (R83). -/
def execSettleTimerExpiry (c : Circuit) (s : State) : Host.Outcome State Fault Refusal := .next (settleExpired c s)

/-- The request SET_TEST_CIRCUITS is taken (R76). -/
def reqSetTestCircuits (p : List Byte) (s : State) : State := takeFixed 0x20 1 false p (setTestCircuits p) s

/-- SET_TEST_CIRCUITS (R76). -/
def execSetTestCircuits (p : List Byte) (s : State) : Host.Outcome State Fault Refusal := .next (reqSetTestCircuits p s)

/-- The request GET_TEST_STATUS is taken (R89). -/
def reqGetTestStatus (p : List Byte) (s : State) : State := takeFixed 0x21 0 true p getTestStatus s

/-- GET_TEST_STATUS (R89). -/
def execGetTestStatus (p : List Byte) (s : State) : Host.Outcome State Fault Refusal := .next (reqGetTestStatus p s)

/-- The request GET_TEST_RESULT is taken (R90). -/
def reqGetTestResult (p : List Byte) (s : State) : State := takeFixed 0x22 1 true p (getTestResult p) s

/-- GET_TEST_RESULT (R90). -/
def execGetTestResult (p : List Byte) (s : State) : Host.Outcome State Fault Refusal := .next (reqGetTestResult p s)

end Sys2Proof.Machine
end

