-- ==== Sys2Proof/Machine/Protection.lean ====
section
/-!
DEFINITION. The Sample Port and the Feeder Protection Units (chapter 1).
-/

namespace Sys2Proof.Machine

/-! ### The computation of an arrival (R12 to R20) -/

/-- A saturated code (R12). -/
def saturated (i : Int) : Bool := decide (i = -16384) || decide (i = 16383)

/-- The instant check (R12). -/
def instantRaised (c : Protection) (i : Int) : Bool := saturated i || decide (c.instant ≤ i.natAbs)

/-- An arrival's current is put at the head of the history, which holds 17 (R13). -/
def pushHistory (i : Int) (h : List Int) : List Int := (i :: h).take 17

/-- The rise difference over window `k`; the history includes this arrival (R14). -/
def riseDifference (k : Nat) (h : List Int) : Int := if h.length ≤ k then 0 else h.getD 0 0 - h.getD k 0

/-- The held threshold (R15). -/
def heldThreshold (c : Protection) (nActive : Nat) : Nat := min c.stepCeil (c.stepBase + c.allowance * nActive)

/-- A rise event starts in QUIET when D reaches Drise; I0 is the current at the start of the window (R15). -/
def Tracker.begun (c : Protection) (h : List Int) (d : Int) (nActive : Nat) : Tracker → Tracker
  | .rising i0 thr na count => .rising i0 thr na count
  | .quiet =>
    if (c.riseStart : Int) ≤ d then .rising (h.getD c.window 0) (heldThreshold c nActive) nActive 1 else .quiet

/-- The step checks: the tracker after them, and whether STEP is raised (R16). -/
def Tracker.checked (c : Protection) (i d : Int) : Tracker → Tracker × Bool
  | .quiet => (.quiet, false)
  | .rising i0 thr na count =>
    if (thr : Int) ≤ i - i0 then (.quiet, true)
    else if d < (c.riseHold : Int) then (.quiet, false)
    else if c.stepDuration ≤ count then (.quiet, false)
    else (.rising i0 thr na (count + 1), false)

/-- The rise from the event's start, 0 in QUIET (R16, R22). -/
def Tracker.delta (i : Int) : Tracker → Int
  | .quiet => 0
  | .rising i0 _ _ _ => i - i0

/-- The active count kept with the event, or the one read at this arrival (R22). -/
def Tracker.nActive (now : Nat) : Tracker → Nat
  | .quiet => now
  | .rising _ _ na _ => na

/-- A filter step (R18). -/
def filterStep (shift : Nat) (i acc : Int) : Int := acc + ((i * 256 - acc) >>> shift)

/-- The sustained counter after an arrival (R20). -/
def sustainedStep (c : Protection) (f : Int) (count : Nat) : Nat :=
  if (c.level : Int) ≤ f then min (count + 1) c.duration else 0

/-- What an arrival computes. -/
structure Judged where
  fpu : Fpu
  entry : CaptureEntry
  delta : Int
  nActive : Nat
  instant : Bool
  step : Bool
  sustained : Bool
  deriving DecidableEq, Repr

/-- The computation of an arrival in MEASURING (R12 to R20, R3's number). Only an arrival takes a number, by R3, so a
measurement loss leaves no gap in them, where R36 speaks of one: DESIGN CHOICE [log 43]. -/
def Fpu.judge (i : Int) (u nActive : Nat) (f : Fpu) : Judged :=
  let c := f.protection
  let history := pushHistory i f.history
  let d := riseDifference c.window history
  let begun := f.tracker.begun c history d nActive
  let (tracker, step) := begun.checked c i d
  let acc := filterStep c.shift i f.acc
  let filtered := acc >>> (8 : Nat)
  let sustained := sustainedStep c filtered f.sustained
  { fpu := { f with history, tracker, acc, sustained, seq := f.seq + 1, lastI := i, lastU := u, lastD := d
                    lastSeq := f.seq }
    entry := { seq := f.seq, current := i, voltage := u, rise := d, filtered, rising := tracker.isRising
               saturated := saturated i }
    delta := begun.delta i
    nActive := begun.nActive nActive
    instant := instantRaised c i
    step := step
    sustained := sustained == c.duration }

/-! ### The measurement state (R4, R5, R8) -/

/-- The rise history is restarted (R13). -/
def Fpu.restartHistory (f : Fpu) : Fpu := { f with history := [], tracker := .quiet }

/-- The FPU as an arrival with current `i` finds it: the first one in STARTING or LOST enters MEASURING (R4, R8), and
the loss timer restarts (R5). -/
def Fpu.prepared (i : Int) (f : Fpu) : Fpu :=
  match f.state with
  | .measuring => { f with lossTimer := some 2 }
  | .starting =>
    { f.restartHistory with state := .measuring, lossTimer := some 2, acc := i * 256, sustained := 0, loss := none }
  | .lost =>
    { f.restartHistory with state := .measuring, lossTimer := some 2, acc := i * 256, sustained := 0, loss := none }

/-- MEAS RESTORED is queued at the first arrival in LOST (R8). -/
def reportRestored (n : Sec) (s : State) : State :=
  match s.fpus[n].state, s.fpus[n].loss with
  | .lost, some (cause, at_) =>
    queueNotice .measRestored 2 (.sec n) [word cause.code, word (s.clock - at_).toNat] s
  | _, _ => s

/-! ### An arrival (R3, R21 to R24) -/

/-- The values of the FPU's own trip requests (R22). -/
def Judged.values (now : ClockValue) (j : Judged) : TripValues :=
  { current := j.entry.current, rise := j.entry.rise, delta := j.delta, filtered := j.entry.filtered
    nActive := j.nActive, seq := j.entry.seq, time := now }

/-- The trip requests raised are handed over (R21). -/
def handTrips (n : Sec) (j : Judged) (s : State) : State :=
  let v := j.values s.clock
  let s := if j.instant then tripRequest n .instant v s else s
  let s := if j.step then tripRequest n .step v s else s
  if j.sustained then tripRequest n .sustained v s else s

/-- The three hand-overs of an arrival. -/
inductive HandOver where
  | trips | values | entry
  deriving DecidableEq, Repr

/-- The six orders in which they may come (R33, R40, R41) [log 6]. -/
def handOverOrder (choice : Nat) : List HandOver :=
  match choice % 6 with
  | 0 => [.trips, .values, .entry]
  | 1 => [.trips, .entry, .values]
  | 2 => [.values, .trips, .entry]
  | 3 => [.values, .entry, .trips]
  | 4 => [.entry, .trips, .values]
  | _ => [.entry, .values, .trips]

/-- One hand-over of an arrival's results. -/
def handOver (gens : List Gen) (n : Sec) (j : Judged) (h : HandOver) (s : State) : State :=
  match h with
  | .trips => handTrips n j s
  | .values => evaluateGenerators gens n j.entry s
  | .entry => captureEntry n j.entry s

/-- A sample arrival of section `n` (R3), its results handed over in the order given. -/
def arrivalIn (gens : List Gen) (order : List HandOver) (n : Sec) (i : Int) (u : Nat) (s : State) : State :=
  let s := reportRestored n s
  let j := (s.fpus[n].prepared i).judge i u (s.active n)
  let s := s.modFpu n fun _ => j.fpu
  forEach order (handOver gens n j) s

/-- A sample arrival of section `n` (R3): the orders of its generators [log 40] and of its hand-over [log 6] are free. -/
def arrival (n : Sec) (i : Int) (u : Nat) (s : State) : State :=
  arrivalIn (s.generatorOrder n) (handOverOrder (Config.handOut s.draws n.val)) n i u s

/-! ### The Sample Port (R1, R2, R3, R6) -/

/-- A count jump restarts every history and queues SAMPLE GAP (R2). -/
def countJump (expected got : Byte) (s : State) : State :=
  queueNotice .sampleGap 3 .port [word expected.toNat, word got.toNat]
    { s with fpus := s.fpus.map Fpu.restartHistory }

/-- The frame's count is compared and kept, and the frame timer restarts (R2, R6). -/
def takeCount (got : Byte) (s : State) : State :=
  let s :=
    match s.port.prevCount with
    | none => s
    | some c => if c + 1 = got then s else countJump (c + 1) got s
  { s with port := { prevCount := some got, frameTimer := some 2 } }

/-- The frame's sample sets are delivered to the sections that have one (R3). -/
def deliverSets (f : SampleFrame) (order : List Sec) (s : State) : State :=
  forEach order (fun n s => if f.valid[n] then arrival n f.current[n] f.voltage[n] s else s) s

/-- A complete frame is taken (R1, R2, R3). -/
def takeFrame (f : SampleFrame) (s : State) : State :=
  (deliverToLineTest f (deliverSets f s.order (takeCount f.count s))).drawn

/-- A sample frame whose transfer has ended: taken when every field was received, else discarded (R1). -/
def sampleFrameEnded (octets : List Byte) (s : State) : State :=
  match parseSampleFrame octets with
  | none => s
  | some f => takeFrame f s

/-! ### Measurement loss (R5, R6, R7) -/

/-- The FPU as it enters LOST (R7 steps 1 to 3). -/
def Fpu.enterLost (cause : LossCause) (now : ClockValue) (f : Fpu) : Fpu :=
  { f with state := .lost, lossTimer := none, loss := some (cause, now), tracker := .quiet }

/-- Section `n` enters LOST (R7). -/
def enterLost (n : Sec) (cause : LossCause) (s : State) : State :=
  let s := s.modFpu n (Fpu.enterLost cause s.clock)
  let f := s.fpus[n]
  let s := queueNotice .measLost 5 (.sec n) [word cause.code, word f.protection.lossAction.code, f.lastSeq] s
  match f.protection.lossAction with
  | .trip => tripRequest n .measLoss (ownValues n s) s
  | .block => s

/-- The loss timer of section `n` expires (R5). -/
def lossExpired (n : Sec) (s : State) : State :=
  if decide (s.fpus[n].state ≠ .lost) && s.fpus[n].lossTimer.isSome then enterLost n .channels s else s

/-- The frame timer expires (R6). -/
def frameSilence (s : State) : State :=
  if s.port.frameTimer.isSome then
    let order := s.order
    let s := { s with port := { prevCount := none, frameTimer := none } }
    (forEach order (fun n s => if s.fpus[n].state = .lost then s else enterLost n .frames s) s).drawn
  else s

/-! ### Requests (R10, R19, R25) -/

/-- The loss action from its code. -/
def lossActionOf (n : Nat) : Option LossAction :=
  match n with
  | 0 => some .trip
  | 1 => some .block
  | _ => none

/-- The protection record a payload carries, clamped (R10). -/
def parseProtection (p : List Byte) : Option Protection :=
  match lossActionOf (octetAt p 21) with
  | none => none
  | some lossAction =>
    let riseStart := clamp 1 32767 (halfAt p 4)
    let stepBase := clamp 1 16383 (halfAt p 8)
    some
      { instant := clamp 1 16383 (halfAt p 1)
        window := clamp 1 16 (octetAt p 3)
        riseStart := riseStart
        riseHold := min riseStart (halfAt p 6)
        stepBase := stepBase
        allowance := clamp 0 2000 (halfAt p 10)
        stepCeil := clamp stepBase 16383 (halfAt p 12)
        stepDuration := clamp 4 400 (halfAt p 14)
        shift := clamp 4 14 (octetAt p 16)
        level := clamp 0 16383 (halfAt p 17)
        duration := clamp 1 65535 (halfAt p 19)
        lossAction := lossAction }

/-- The protection record as a reply carries it. -/
def Protection.fields (c : Protection) : List ReplyField :=
  [.nat 2 c.instant, .nat 1 c.window, .nat 2 c.riseStart, .nat 2 c.riseHold, .nat 2 c.stepBase, .nat 2 c.allowance,
    .nat 2 c.stepCeil, .nat 2 c.stepDuration, .nat 1 c.shift, .nat 2 c.level, .nat 2 c.duration,
    fieldCode c.lossAction.code]

/-- SET PROTECTION (R10). -/
def setProtection (p : List Byte) (s : State) : Answer :=
  naming 8 p (fun n s =>
    match parseProtection p with
    | none => badArgument s
    | some c => accept (s.modFpu n fun f => { f with protection := c }) c.fields) s

/-- GET PROTECTION (R10). -/
def getProtection (p : List Byte) (s : State) : Answer :=
  naming 8 p (fun n s => accept s s.fpus[n].protection.fields) s

/-- REBASE FILTER (R19). -/
def rebaseFilter (p : List Byte) (s : State) : Answer :=
  naming 8 p (fun n s =>
    if s.fpus[n].state = .measuring then
      let s := s.modFpu n fun f => { f with acc := f.lastI * 256 }
      accept s [fieldInt s.fpus[n].filtered]
    else refuseState s [fieldInt s.fpus[n].filtered]) s

/-- The rise event's fields in GET MEASUREMENT, absent in QUIET. -/
def Tracker.fields : Tracker → List ReplyField
  | .quiet => [.absent 2, .absent 2, .absent 2, .absent 2]
  | .rising i0 thr na count => [fieldInt i0, fieldVal thr, fieldVal na, fieldVal count]

/-- The loss's fields in GET MEASUREMENT, absent unless the section is LOST. -/
def Fpu.lossFields (f : Fpu) : List ReplyField :=
  match f.state, f.loss with
  | .lost, some (cause, at_) => [fieldCode cause.code, fieldMs at_.toNat]
  | _, _ => [.absent 1, .absent 4]

/-- GET MEASUREMENT (R25). Its F is the accumulator's as it stands, so a rebase since the latest arrival shows: DESIGN
CHOICE [log 35]. -/
def getMeasurement (p : List Byte) (s : State) : Answer :=
  naming 8 p (fun n s =>
    let f := s.fpus[n]
    accept s ([fieldCode f.state.code] ++ f.lossFields ++
      [fieldInt f.lastI, fieldVal f.lastU, fieldInt f.lastD, fieldInt f.filtered, fieldVal f.history.length,
        fieldCode f.tracker.code] ++ f.tracker.fields ++ [fieldVal f.sustained, fieldVal f.seq.toNat])) s

/-! ### The commands of this family -/

/-- SAMPLE_FRAME (R1). -/
def execSampleFrame (octets : List Byte) (s : State) : Host.Outcome State Fault Refusal := .next (sampleFrameEnded octets s)

/-- SAMPLE_FRAME_INCOMPLETE (R1). -/
def execSampleFrameIncomplete (octets : List Byte) (s : State) : Host.Outcome State Fault Refusal := .next (sampleFrameEnded octets s)

/-- LOSS_TIMER_EXPIRY (R5). -/
def execLossTimerExpiry (n : Sec) (s : State) : Host.Outcome State Fault Refusal := .next (lossExpired n s)

/-- FRAME_SILENCE (R6). -/
def execFrameSilence (s : State) : Host.Outcome State Fault Refusal := .next (frameSilence s)

/-- The request SET_PROTECTION is taken (R10). -/
def reqSetProtection (p : List Byte) (s : State) : State := takeFixed 0x01 22 false p (setProtection p) s

/-- SET_PROTECTION (R10). -/
def execSetProtection (p : List Byte) (s : State) : Host.Outcome State Fault Refusal := .next (reqSetProtection p s)

/-- The request GET_PROTECTION is taken (R10). -/
def reqGetProtection (p : List Byte) (s : State) : State := takeFixed 0x02 1 true p (getProtection p) s

/-- GET_PROTECTION (R10). -/
def execGetProtection (p : List Byte) (s : State) : Host.Outcome State Fault Refusal := .next (reqGetProtection p s)

/-- The request REBASE_FILTER is taken (R19). -/
def reqRebaseFilter (p : List Byte) (s : State) : State := takeFixed 0x03 1 false p (rebaseFilter p) s

/-- REBASE_FILTER (R19). -/
def execRebaseFilter (p : List Byte) (s : State) : Host.Outcome State Fault Refusal := .next (reqRebaseFilter p s)

/-- The request GET_MEASUREMENT is taken (R25). -/
def reqGetMeasurement (p : List Byte) (s : State) : State := takeFixed 0x04 1 true p (getMeasurement p) s

/-- GET_MEASUREMENT (R25). -/
def execGetMeasurement (p : List Byte) (s : State) : Host.Outcome State Fault Refusal := .next (reqGetMeasurement p s)

end Sys2Proof.Machine
end

