-- ==== Sys2Proof/Machine/Sections.lean ====
section
/-!
DEFINITION. The Section Controller's events and requests (chapter 3).
-/

namespace Sys2Proof.Machine

/-! ### Events -/

/-- A change of either contact of breaker `n` (R47); contacts that stand as they stood are no change [log 11]. -/
def feedbackChanged (n : Sec) (c : Contacts) (s : State) : State :=
  if s.secs[n].feedback = Feedback.ofContacts c then s else takeReading n (Feedback.ofContacts c) s

/-- A section timer runs: it was started and the part is not halted (R72 step 5). -/
def timerRuns (s : State) (t : Timer) : Bool := !s.halted && t.isSome

/-- The discrepancy timer expires (R47). -/
def discrepancyExpired (n : Sec) (s : State) : State :=
  if timerRuns s s.secs[n].discrepancy then
    let s := s.modSec n fun r => { r with discrepancy := none, asClosed := true }
    onClosed n (queueNotice .breakerDiscrepancy 5 (.sec n) [word s.secs[n].state.code] s)
  else s

/-- Opening supervision expires (R46, R70). -/
def openingExpired (n : Sec) (s : State) : State :=
  let r := s.secs[n]
  if timerRuns s r.opening && (decide (r.state = .tripping) || r.state.openLike) then (breakerFails n s).drawn else s

/-- The dead timer expires (R53). -/
def deadExpired (n : Sec) (s : State) : State :=
  let r := s.secs[n]
  if timerRuns s r.deadTimer && decide (r.state = .deadTime) then
    let s := s.modSec n fun r => { r with deadTimer := none, holds := { r.holds with noSupply := false } }
    if s.secs[n].holds.isEmpty then enterTestWait n s
    else
      let s := s.modSec n fun r =>
        { r with held := true, heldSince := some s.clock, holdLimit := some r.settings.holdLimit }
      queueNotice .recloseHeld 3 (.sec n) [word s.secs[n].holds.word] s
  else s

/-- The hold limit timer expires (R56). -/
def holdLimitExpired (n : Sec) (s : State) : State :=
  let r := s.secs[n]
  if timerRuns s r.holdLimit && (decide (r.state = .deadTime) && r.held || decide (r.state = .held)) then
    enterLockout n .holdLimit (queueNotice .holdExpired 5 (.sec n) [word r.holds.word] s)
  else s

/-- The hold timer reaches 0 (R55). -/
def holdTimerExpired (n : Sec) (s : State) : State :=
  if timerRuns s s.secs[n].holdTimer then
    setHolds n (fun h => { h with timer := false }) (s.modSec n fun r => { r with holdTimer := none })
  else s

/-- Close supervision expires (R59). -/
def closeExpired (n : Sec) (s : State) : State :=
  let r := s.secs[n]
  if timerRuns s r.closing && decide (r.state = .closing) then
    enterLockout n .closeFail (queueNotice .closeFail 6 (.sec n) [word r.feedback.code] s)
  else s

/-- The reclaim timer expires (R60). -/
def reclaimExpired (n : Sec) (s : State) : State :=
  let r := s.secs[n]
  if timerRuns s r.reclaim && decide (r.state = .reclaim) then
    (enter n .closed s).modSec n fun r => { r with attempt := 0, manual := false }
  else s

/-! ### Leaving a halt (R74) -/

/-- A section's part in the RESTART that leaves a halt (R74). Its power report is taken at once, before step 2 of R184
and before the new cycle's first exchange, DESIGN CHOICE [log 39]. Its entry removes NO_SUPPLY by R54, where R74 keeps the
hold sets, DESIGN CHOICE [log 44]. -/
def restartSection (n : Sec) (s : State) : State :=
  let r := s.secs[n]
  if r.state = .breakerFail then s
  else if r.feedback = .closed ∨ r.feedback = .discrepant then
    reportChange n r.state ((enter n .closed s).modSec n fun r => { r with attempt := 0, manual := false })
  else reportChange n r.state (enterLockout n .restart s)

/-- The Section Controllers' step of a RESTART (R74, R184 step 1). -/
def sectionsRestart (s : State) : State :=
  if s.halted then (forEach s.order restartSection { s with halted := false }).drawn else s

/-! ### Settings (R48) -/

/-- The section settings record a payload carries, clamped; none for an unknown leak hold code (R48). -/
def parseSettings (p : List Byte) : Option SectionSettings :=
  match switchCode (octetAt p 24) with
  | none => none
  | some leakHold =>
    let faultLevel := clamp 10 5000 (halfAt p 26)
    some
      { tests := clamp 0 3 (octetAt p 1)
        dead := ⟨clamp 500 120000 (wideAt p 2), clamp 500 120000 (wideAt p 6), clamp 500 120000 (wideAt p 10)⟩
        openLimit := clamp 20 500 (halfAt p 14)
        closeLimit := clamp 50 1000 (halfAt p 16)
        reclaim := clamp 1000 60000 (halfAt p 18)
        holdLimit := clamp 10000 3600000 (wideAt p 20)
        leakHold := leakHold
        resistor := clamp 1 255 (octetAt p 25)
        faultLevel := faultLevel
        clearLevel := clamp faultLevel 20000 (halfAt p 28)
        vehicle := clamp 100 60000 (halfAt p 30)
        settle := clamp 50 2000 (halfAt p 32) }

/-- The settings record as a reply carries it. -/
def SectionSettings.fields (c : SectionSettings) : List ReplyField :=
  [.nat 1 c.tests, fieldMs c.dead.first, fieldMs c.dead.second, fieldMs c.dead.third, fieldVal c.openLimit,
    fieldVal c.closeLimit, fieldVal c.reclaim, fieldMs c.holdLimit, fieldMark c.leakHold, .nat 1 c.resistor,
    fieldVal c.faultLevel, fieldVal c.clearLevel, fieldVal c.vehicle, fieldVal c.settle]

/-- SET SECTION (R48); leak hold applies at once. -/
def setSection (p : List Byte) (s : State) : Answer :=
  naming 8 p (fun n s =>
    match parseSettings p with
    | none => badArgument s
    | some c =>
      let s := s.modSec n fun r => { r with settings := c }
      accept (reportFacts n s) c.fields) s

/-- GET SECTION SETTINGS (R48). -/
def getSectionSettings (p : List Byte) (s : State) : Answer :=
  naming 8 p (fun n s => accept s s.secs[n].settings.fields) s

/-- SET BACKUP TRIP (R48). -/
def setBackupTrip (p : List Byte) (s : State) : Answer :=
  match switchCode (octetAt p 0) with
  | none => badArgument s
  | some b => accept { s with backup := b } [fieldMark b]

/-- GET BACKUP TRIP (R48). -/
def getBackupTrip (s : State) : Answer := accept s [fieldMark s.backup]

/-! ### Section requests (R63 to R68) -/

/-- What each section request's reply carries: state, attempt count, hold set, the last in 2 octets, DESIGN CHOICE [log 47]. -/
def sectionReply (n : Sec) (s : State) : List ReplyField :=
  let r := s.secs[n]
  [fieldCode r.state.code, fieldVal r.attempt, fieldVal r.holds.word]

/-- The request was taken; the reply shows the section after it. -/
def acceptSection (n : Sec) (s : State) : Answer := accept s (sectionReply n s)

/-- The request is refused by the section's state. -/
def refuseSection (n : Sec) (s : State) : Answer := refuseState s (sectionReply n s)

/-- A manual sequence begins: dead times and a test limit of at least 1 are latched, the attempt count equals the limit
and the manual flag is set (R63). -/
def Section.manualSequence (r : Section) : Section :=
  { r with dead := r.settings.dead, limit := max r.settings.tests 1, attempt := max r.settings.tests 1, manual := true }

/-- CLOSE SECTION (R63). -/
def closeSection (p : List Byte) (s : State) : Answer :=
  naming 8 p (fun n s =>
    let r := s.secs[n]
    if r.state = .opened ∧ r.feedback = .opened then
      if r.holds.isEmpty then acceptSection n (enterTestWait n (s.modSec n Section.manualSequence))
      else refuseHold s (sectionReply n s)
    else refuseSection n s) s

/-- OPEN SECTION (R64). -/
def openSection (p : List Byte) (s : State) : Answer :=
  naming 8 p (fun n s =>
    match s.secs[n].state with
    | .closed => acceptSection n (tripRequest n .manual (ownValues n s) s)
    | .reclaim => acceptSection n (tripRequest n .manual (ownValues n s) s)
    | .closing => acceptSection n (tripRequest n .manual (ownValues n s) s)
    | .tripping => acceptSection n (tripRequest n .manual (ownValues n s) s)
    | .deadTime => acceptSection n (enter n .opened (abandonTest n s))
    | .testWait => acceptSection n (enter n .opened (abandonTest n s))
    | .lineTest => acceptSection n (enter n .opened (abandonTest n s))
    | .held => acceptSection n (enter n .opened (abandonTest n s))
    | .opened => refuseSection n s
    | .lockout => refuseSection n s
    | .isolated => refuseSection n s
    | .breakerFail => refuseSection n s) s

/-- FORCE CLOSE (R65). -/
def forceClose (p : List Byte) (s : State) : Answer :=
  naming 8 p (fun n s =>
    let r := s.secs[n]
    if r.state = .held then
      if r.holds.dewired || r.holds.switchLock then refuseHold s (sectionReply n s)
      else acceptSection n (enterClosing n s)
    else refuseSection n s) s

/-- A move between states with the breaker open (R66). -/
def moveOpen (n : Sec) (st : SecState) (s : State) : State :=
  (enter n st s).modSec n fun r => { r with manual := false }

/-- CLEAR LOCKOUT (R66). -/
def clearLockout (p : List Byte) (s : State) : Answer :=
  naming 8 p (fun n s =>
    if s.secs[n].state = .lockout then acceptSection n (moveOpen n .opened s) else refuseSection n s) s

/-- ISOLATE (R66). -/
def isolate (p : List Byte) (s : State) : Answer :=
  naming 8 p (fun n s =>
    if s.secs[n].state = .opened ∨ s.secs[n].state = .lockout then acceptSection n (moveOpen n .isolated s)
    else refuseSection n s) s

/-- DEISOLATE (R66). -/
def deisolate (p : List Byte) (s : State) : Answer :=
  naming 8 p (fun n s =>
    if s.secs[n].state = .isolated then acceptSection n (moveOpen n .opened s) else refuseSection n s) s

/-- INTERTRIP (R67). -/
def intertrip (p : List Byte) (s : State) : Answer :=
  naming 8 p (fun n s => acceptSection n (tripRequest n .intertrip (ownValues n s) s)) s

/-- What the hold requests' replies carry: time remaining and hold set (R55), the latter in 2 octets [log 47]. -/
def holdReply (n : Sec) (s : State) : List ReplyField :=
  [fieldMs (s.secs[n].holdTimer.getD 0), fieldVal s.secs[n].holds.word]

/-- The longest hold, in ms (R55). -/
def maxHold : Nat := 3600000

/-- HOLD RECLOSE (R55). -/
def holdReclose (p : List Byte) (s : State) : Answer :=
  naming 8 p (fun n s =>
    let s := s.modSec n fun r => { r with holdTimer := some (clamp 1 maxHold (wideAt p 1)) }
    let s := setHolds n (fun h => { h with timer := true }) s
    accept s (holdReply n s)) s

/-- EXTEND HOLD (R55). -/
def extendHold (p : List Byte) (s : State) : Answer :=
  naming 8 p (fun n s =>
    match s.secs[n].holdTimer with
    | none => refuseState s (holdReply n s)
    | some t =>
      let s := s.modSec n fun r => { r with holdTimer := some (min maxHold (t + clamp 1 maxHold (wideAt p 1))) }
      accept s (holdReply n s)) s

/-- RELEASE HOLD (R55). -/
def releaseHold (p : List Byte) (s : State) : Answer :=
  naming 8 p (fun n s =>
    let s := s.modSec n fun r => { r with holdTimer := none }
    let s := setHolds n (fun h => { h with timer := false }) s
    accept s (holdReply n s)) s

/-- The sections in BREAKER_FAIL, in order of number. -/
def State.failed (s : State) : List Sec := (List.finRange 8).filter fun n => decide (s.secs[n].state = .breakerFail)

/-- RELEASE BUS TRIP (R71); LOCKOUT follows the event's other notice (R62). -/
def releaseBusTrip (s : State) : Answer :=
  match s.failed with
  | [] => refuseState s []
  | n :: ns =>
    if (n :: ns).all fun m => decide (s.secs[m].feedback = .opened) then
      let s' := queueNotice .busTripReleased 3 (.sec n) [word (ns.length + 1)] { s with busTrip := false }
      accept (forEach (s.order.filter (· ∈ n :: ns)) (fun m s => enterLockout m .busRelease s) s').drawn []
    else refuseState s []

/-- The trip record as GET SECTION shows it (R50, R68); every field absent when there is none. -/
def recordFields : Option TripRecord → List ReplyField
  | none =>
    [.absent 1, .absent 2, .absent 1, .absent 2, .absent 2, .absent 2, .absent 2, .absent 2, .absent 2, .absent 4,
      .absent 1, .absent 1, .absent 4]
  | some t =>
    [fieldCode t.first.code, fieldVal (causeWord t.causes), fieldCode t.principal.code, fieldInt t.values.current,
      fieldInt t.values.rise, fieldInt t.values.delta, fieldInt t.values.filtered, fieldVal t.values.nActive,
      fieldVal t.values.seq.toNat, fieldMs t.values.time.toNat, fieldMark t.complete, fieldCode t.origin.code,
      fieldOpt 4 t.openingTime]

/-- A section timer in GET SECTION: absent unless it runs [log 23]. -/
def runningField (s : State) (t : Timer) : ReplyField := if s.halted then .absent 4 else fieldTimer t

/-- GET SECTION (R68), its hold set in 2 octets [log 47]. -/
def getSection (p : List Byte) (s : State) : Answer :=
  naming 8 p (fun n s =>
    let r := s.secs[n]
    accept s
      ([fieldCode r.state.code, fieldMark r.held, fieldVal r.attempt, fieldVal r.limit, fieldMs r.dead.first,
        fieldMs r.dead.second, fieldMs r.dead.third, fieldMark r.manual] ++ recordFields r.record ++
      [fieldVal r.holds.word, fieldMs (r.holdTimer.getD 0), fieldOpt 4 (r.heldSince.map (·.toNat)),
        fieldCode r.feedback.code, fieldMark r.asClosed, fieldMark r.tripLine, fieldMark r.closeLine,
        fieldMark r.testLine, fieldMark s.busTrip, runningField s r.opening, runningField s r.deadTimer,
        runningField s r.closing, runningField s r.reclaim, runningField s r.holdLimit,
        runningField s r.discrepancy, fieldMark s.halted])) s

/-! ### The commands of this family -/

/-- BREAKER_FEEDBACK_CHANGE (R47). -/
def execBreakerFeedbackChange (n : Sec) (c : Contacts) (s : State) : Host.Outcome State Fault Refusal := .next (feedbackChanged n c s)

/-- DISCREPANCY_TIMER_EXPIRY (R47). -/
def execDiscrepancyTimerExpiry (n : Sec) (s : State) : Host.Outcome State Fault Refusal := .next (discrepancyExpired n s)

/-- OPENING_SUPERVISION_EXPIRY (R70). -/
def execOpeningSupervisionExpiry (n : Sec) (s : State) : Host.Outcome State Fault Refusal := .next (openingExpired n s)

/-- DEAD_TIMER_EXPIRY (R53). -/
def execDeadTimerExpiry (n : Sec) (s : State) : Host.Outcome State Fault Refusal := .next (deadExpired n s)

/-- HOLD_LIMIT_EXPIRY (R56). -/
def execHoldLimitExpiry (n : Sec) (s : State) : Host.Outcome State Fault Refusal := .next (holdLimitExpired n s)

/-- HOLD_TIMER_EXPIRY (R55). -/
def execHoldTimerExpiry (n : Sec) (s : State) : Host.Outcome State Fault Refusal := .next (holdTimerExpired n s)

/-- CLOSE_SUPERVISION_EXPIRY (R59). -/
def execCloseSupervisionExpiry (n : Sec) (s : State) : Host.Outcome State Fault Refusal := .next (closeExpired n s)

/-- RECLAIM_EXPIRY (R60). -/
def execReclaimExpiry (n : Sec) (s : State) : Host.Outcome State Fault Refusal := .next (reclaimExpired n s)

/-- The request SET_SECTION is taken (R48). -/
def reqSetSection (p : List Byte) (s : State) : State := takeFixed 0x10 34 false p (setSection p) s

/-- SET_SECTION (R48). -/
def execSetSection (p : List Byte) (s : State) : Host.Outcome State Fault Refusal := .next (reqSetSection p s)

/-- The request GET_SECTION_SETTINGS is taken (R48). -/
def reqGetSectionSettings (p : List Byte) (s : State) : State := takeFixed 0x11 1 true p (getSectionSettings p) s

/-- GET_SECTION_SETTINGS (R48). -/
def execGetSectionSettings (p : List Byte) (s : State) : Host.Outcome State Fault Refusal := .next (reqGetSectionSettings p s)

/-- The request SET_BACKUP_TRIP is taken (R48). -/
def reqSetBackupTrip (p : List Byte) (s : State) : State := takeFixed 0x12 1 false p (setBackupTrip p) s

/-- SET_BACKUP_TRIP (R48). -/
def execSetBackupTrip (p : List Byte) (s : State) : Host.Outcome State Fault Refusal := .next (reqSetBackupTrip p s)

/-- The request GET_BACKUP_TRIP is taken (R48). -/
def reqGetBackupTrip (p : List Byte) (s : State) : State := takeFixed 0x13 0 true p getBackupTrip s

/-- GET_BACKUP_TRIP (R48). -/
def execGetBackupTrip (p : List Byte) (s : State) : Host.Outcome State Fault Refusal := .next (reqGetBackupTrip p s)

/-- The request GET_SECTION is taken (R68). -/
def reqGetSection (p : List Byte) (s : State) : State := takeFixed 0x14 1 true p (getSection p) s

/-- GET_SECTION (R68). -/
def execGetSection (p : List Byte) (s : State) : Host.Outcome State Fault Refusal := .next (reqGetSection p s)

/-- The request CLOSE_SECTION is taken (R63). -/
def reqCloseSection (p : List Byte) (s : State) : State := takeFixed 0x15 1 false p (closeSection p) s

/-- CLOSE_SECTION (R63). -/
def execCloseSection (p : List Byte) (s : State) : Host.Outcome State Fault Refusal := .next (reqCloseSection p s)

/-- The request OPEN_SECTION is taken (R64). -/
def reqOpenSection (p : List Byte) (s : State) : State := takeFixed 0x16 1 false p (openSection p) s

/-- OPEN_SECTION (R64). -/
def execOpenSection (p : List Byte) (s : State) : Host.Outcome State Fault Refusal := .next (reqOpenSection p s)

/-- The request FORCE_CLOSE is taken (R65). -/
def reqForceClose (p : List Byte) (s : State) : State := takeFixed 0x17 1 false p (forceClose p) s

/-- FORCE_CLOSE (R65). -/
def execForceClose (p : List Byte) (s : State) : Host.Outcome State Fault Refusal := .next (reqForceClose p s)

/-- The request CLEAR_LOCKOUT is taken (R66). -/
def reqClearLockout (p : List Byte) (s : State) : State := takeFixed 0x18 1 false p (clearLockout p) s

/-- CLEAR_LOCKOUT (R66). -/
def execClearLockout (p : List Byte) (s : State) : Host.Outcome State Fault Refusal := .next (reqClearLockout p s)

/-- The request ISOLATE is taken (R66). -/
def reqIsolate (p : List Byte) (s : State) : State := takeFixed 0x19 1 false p (isolate p) s

/-- ISOLATE (R66). -/
def execIsolate (p : List Byte) (s : State) : Host.Outcome State Fault Refusal := .next (reqIsolate p s)

/-- The request DEISOLATE is taken (R66). -/
def reqDeisolate (p : List Byte) (s : State) : State := takeFixed 0x1A 1 false p (deisolate p) s

/-- DEISOLATE (R66). -/
def execDeisolate (p : List Byte) (s : State) : Host.Outcome State Fault Refusal := .next (reqDeisolate p s)

/-- The request INTERTRIP is taken (R67). -/
def reqIntertrip (p : List Byte) (s : State) : State := takeFixed 0x1B 1 false p (intertrip p) s

/-- INTERTRIP (R67). -/
def execIntertrip (p : List Byte) (s : State) : Host.Outcome State Fault Refusal := .next (reqIntertrip p s)

/-- The request HOLD_RECLOSE is taken (R55). -/
def reqHoldReclose (p : List Byte) (s : State) : State := takeFixed 0x1C 5 false p (holdReclose p) s

/-- HOLD_RECLOSE (R55). -/
def execHoldReclose (p : List Byte) (s : State) : Host.Outcome State Fault Refusal := .next (reqHoldReclose p s)

/-- The request EXTEND_HOLD is taken (R55). -/
def reqExtendHold (p : List Byte) (s : State) : State := takeFixed 0x1D 5 false p (extendHold p) s

/-- EXTEND_HOLD (R55). -/
def execExtendHold (p : List Byte) (s : State) : Host.Outcome State Fault Refusal := .next (reqExtendHold p s)

/-- The request RELEASE_HOLD is taken (R55). -/
def reqReleaseHold (p : List Byte) (s : State) : State := takeFixed 0x1E 1 false p (releaseHold p) s

/-- RELEASE_HOLD (R55). -/
def execReleaseHold (p : List Byte) (s : State) : Host.Outcome State Fault Refusal := .next (reqReleaseHold p s)

/-- The request RELEASE_BUS_TRIP is taken (R71). -/
def reqReleaseBusTrip (p : List Byte) (s : State) : State := takeFixed 0x1F 0 false p releaseBusTrip s

/-- RELEASE_BUS_TRIP (R71). -/
def execReleaseBusTrip (p : List Byte) (s : State) : Host.Outcome State Fault Refusal := .next (reqReleaseBusTrip p s)

end Sys2Proof.Machine
end

