-- ==== Sys2Proof/Machine/Link.lean ====
section
/-!
DEFINITION. The Link Controller (chapter 9): RESTART, the receiver, the kinds of request, the end of a reply; and what
one elapsed millisecond does (R183), and cold reset.
-/

namespace Sys2Proof.Machine

/-! ### RESTART (R184) -/

/-- RESTART at its blocks, in the order of R184's table, and its reply. -/
def restartPart (s : State) : Answer :=
  let wasHalted := s.halted
  let s := sectionsRestart s
  let s := switchesRestart wasHalted s
  let s := loopRestart s
  let s := generatorsRestart s
  let s := captureRestart s
  accept s [fieldMark wasHalted, fieldVal s.failed.length, fieldMark s.busTrip]

/-- The request RESTART is taken (R184). -/
def reqRestart (p : List Byte) (s : State) : State := takeFixed 0x4F 0 true p restartPart s

/-! ### The receiver (R176, R177) -/

/-- What a request of this kind does with its payload; none for a code that is no request kind (chapter 10). -/
def requestOf (kind : Byte) : Option (List Byte → State → State) :=
  match kind.toNat with
  | 0x01 => some reqSetProtection
  | 0x02 => some reqGetProtection
  | 0x03 => some reqRebaseFilter
  | 0x04 => some reqGetMeasurement
  | 0x08 => some reqSetCondition
  | 0x09 => some reqGetCondition
  | 0x0A => some reqAckCondition
  | 0x0C => some reqSetCapture
  | 0x0D => some reqGetCapture
  | 0x0E => some reqFetchCapture
  | 0x10 => some reqSetSection
  | 0x11 => some reqGetSectionSettings
  | 0x12 => some reqSetBackupTrip
  | 0x13 => some reqGetBackupTrip
  | 0x14 => some reqGetSection
  | 0x15 => some reqCloseSection
  | 0x16 => some reqOpenSection
  | 0x17 => some reqForceClose
  | 0x18 => some reqClearLockout
  | 0x19 => some reqIsolate
  | 0x1A => some reqDeisolate
  | 0x1B => some reqIntertrip
  | 0x1C => some reqHoldReclose
  | 0x1D => some reqExtendHold
  | 0x1E => some reqReleaseHold
  | 0x1F => some reqReleaseBusTrip
  | 0x20 => some reqSetTestCircuits
  | 0x21 => some reqGetTestStatus
  | 0x22 => some reqGetTestResult
  | 0x28 => some reqSetVehicleTiming
  | 0x29 => some reqGetVehicleTiming
  | 0x2A => some reqGetVehicle
  | 0x2B => some reqListVehicles
  | 0x2C => some reqRemoveVehicle
  | 0x2D => some reqClearFault
  | 0x30 => some reqConfigureSwitch
  | 0x31 => some reqSetSwitch
  | 0x32 => some reqPinSwitch
  | 0x33 => some reqUnpinSwitch
  | 0x34 => some reqClearSwitchLock
  | 0x35 => some reqGetSwitch
  | 0x38 => some reqSetStation
  | 0x39 => some reqRemoveStation
  | 0x3A => some reqGetStation
  | 0x3B => some reqSetCycleTime
  | 0x3C => some reqGetLoopStatus
  | 0x3D => some reqLoopSkip
  | 0x3E => some reqLoopReset
  | 0x40 => some reqFetchNotices
  | 0x41 => some reqSetAttention
  | 0x42 => some reqGetNoticeStatus
  | 0x48 => some reqSetTime
  | 0x49 => some reqGetTime
  | 0x4F => some reqRestart
  | _ => none

/-- A request of no kind of the part is taken (R178). -/
def takeUnknown (kind : Byte) (s : State) : State :=
  let s := s.modLink Link.toHunting
  if s.link.reply.isSome then s
  else if s.link.startPeriod.isSome then reply kind .busy [] s
  else reply kind .unknownKind [] s

/-- A frame is complete; `octets` are its octets from the length octet on (R177). -/
def frameCompleted (octets : List Byte) (s : State) : State :=
  if hostFrameBad octets || s.link.reply.isSome then s.modLink Link.toHunting
  else
    let kind := octets.getD 1 0
    let payload := (octets.drop 2).take (octetAt octets 0 - 1)
    match requestOf kind with
    | some request => request payload s
    | none => takeUnknown kind s

/-- The receiver goes on with a frame, and the gap timer starts anew (R176). -/
def Link.receiving (r : Receiver) (l : Link) : Link := { l with receiver := r, gapTimer := some 5 }

/-- A length octet that abandons its frame (R176). -/
def badLengthOctet (b : Byte) : Bool := decide (b = 0) || decide (250 < b.toNat)

/-- An octet arrives on HOST RX (R176). -/
def hostOctet (b : Byte) (s : State) : State :=
  match s.link.receiver with
  | .hunting => if b = 0xC5 then s.modLink (Link.receiving .length) else s
  | .length =>
    if badLengthOctet b then s.modLink Link.toHunting else s.modLink (Link.receiving (.body b.toNat []))
  | .body len got =>
    let got := got ++ [b]
    if len + 2 ≤ got.length then frameCompleted (BitVec.ofNat 8 len :: got) s
    else s.modLink (Link.receiving (.body len got))

/-- The gap timer expires (R176). -/
def gapTimedOut (s : State) : State :=
  if s.link.gapTimer.isSome then s.modLink Link.toHunting else s

/-- A length octet of 0 or above 250 arrives in LENGTH (R176) [log 11]. -/
def frameAbandoned (octet : Byte) (s : State) : State :=
  match s.link.receiver with
  | .length => if badLengthOctet octet then s.modLink Link.toHunting else s
  | .hunting => s
  | .body .. => s

/-- A complete frame that R177 discards [log 11]. -/
def frameDiscarded (octets : List Byte) (s : State) : State :=
  if hostFrameBad octets || s.link.reply.isSome then s.modLink Link.toHunting else s

/-- A complete frame with a good CRC whose kind is no request kind (R178) [log 11]. -/
def unknownTaken (kind : Byte) (s : State) : State :=
  match requestOf kind with
  | none => takeUnknown kind s
  | some _ => s

/-! ### The reply and the start period (R175, R177, R185) -/

/-- A RESTART that was carried out is being answered (R185). -/
def Link.answersRestart (l : Link) : Bool :=
  match l.reply with
  | none => false
  | some r => decide (r.kind = 0x4F) && decide (r.status = .ok)

/-- The last octet of the reply has gone; after RESTART's the receiver returns to HUNTING (R177, R185). -/
def Link.replyEnded (l : Link) : Link :=
  { (if l.answersRestart then l.toHunting else l) with reply := none }

/-- The start period ends (R175). -/
def Link.started (l : Link) : Link := { l with startPeriod := none }

/-! ### One millisecond (R183) -/

/-- A section's timers; in a halt they stand still, and only the time of a trip runs on (R72, R50) [log 12]. -/
def Section.tick (halted : Bool) (r : Section) : Section :=
  let r := { r with trippingMs := if r.state = .tripping then r.trippingMs + 1 else r.trippingMs }
  if halted then r
  else
    { r with
      holdTimer := tickTimer r.holdTimer
      opening := tickTimer r.opening
      deadTimer := tickTimer r.deadTimer
      closing := tickTimer r.closing
      reclaim := tickTimer r.reclaim
      holdLimit := tickTimer r.holdLimit
      discrepancy := tickTimer r.discrepancy }

/-- A test context's settle timer (R81). -/
def TestContext.tick (t : TestContext) : TestContext := { t with settle := t.settle - 1 }

/-- A vehicle record's timers (R98). -/
def Vehicle.tick (v : Vehicle) : Vehicle :=
  { v with lostTimer := tickTimer v.lostTimer, forgetTimer := tickTimer v.forgetTimer }

/-- A switch point's timers (R123, R129). -/
def SwitchPoint.tick (w : SwitchPoint) : SwitchPoint :=
  { w with
    poleTimer := w.poleTimer.tick
    passTimer := w.passTimer.tick
    driveTimer := tickTimer w.driveTimer
    driveMs := if w.stage = .sent then w.driveMs + 1 else w.driveMs }

/-- An exchange's start limit (R151). -/
def Exchange.tick (e : Exchange) : Exchange :=
  match e.phase with
  | .awaiting limit => { e with phase := .awaiting (limit - 1) }
  | .sending => e
  | .receiving .. => e

/-- The loop's timers (R146, R147). -/
def Loop.tick (l : Loop) : Loop :=
  { l with
    cycleTimer := tickTimer l.cycleTimer
    cycleMs := if l.running then l.cycleMs + 1 else l.cycleMs
    exchange := l.exchange.map Exchange.tick }

/-- The link's timers (R175, R176). -/
def Link.tick (l : Link) : Link :=
  { l with gapTimer := tickTimer l.gapTimer, startPeriod := tickTimer l.startPeriod }

/-- One millisecond passes: the Clock and every running millisecond timer (R183) [log 1]. -/
def millisecond (s : State) : State :=
  { s with
    clock := s.clock + 1
    port := { s.port with frameTimer := tickTimer s.port.frameTimer }
    fpus := s.fpus.map fun f => { f with lossTimer := tickTimer f.lossTimer }
    secs := s.secs.map (Section.tick s.halted)
    arb := { s.arb with contexts := s.arb.contexts.map (Option.map TestContext.tick) }
    vt := { s.vt with slots := s.vt.slots.map (Option.map Vehicle.tick) }
    sws := s.sws.map SwitchPoint.tick
    loop := s.loop.tick
    link := s.link.tick }

/-- Cold reset; the model's own queue and count of draws go on (R75, R185). -/
def coldReset (highRate : Bool) (contacts : Vector Contacts 8) (s : State) : State :=
  { State.cold highRate contacts with draws := s.draws, pending := s.pending }

/-! ### The commands of this family -/

/-- COLD_RESET (R75). -/
def execColdReset (highRate : Bool) (contacts : Vector Contacts 8) (s : State) : Host.Outcome State Fault Refusal :=
  .next (coldReset highRate contacts s)

/-- HOST_GAP_TIMEOUT (R176). -/
def execHostGapTimeout (s : State) : Host.Outcome State Fault Refusal := .next (gapTimedOut s)

/-- FRAME_ABANDON (R176). -/
def execFrameAbandon (octet : Byte) (s : State) : Host.Outcome State Fault Refusal := .next (frameAbandoned octet s)

/-- FRAME_DISCARD (R177). -/
def execFrameDiscard (octets : List Byte) (s : State) : Host.Outcome State Fault Refusal :=
  .next (frameDiscarded octets s)

/-- UNKNOWN_KIND (R178); the payload has no bearing. -/
def execUnknownKind (kind : Byte) (_payload : List Byte) (s : State) : Host.Outcome State Fault Refusal :=
  .next (unknownTaken kind s)

/-- REPLY_SENT (R177). -/
def execReplySent (s : State) : Host.Outcome State Fault Refusal := .next (s.modLink Link.replyEnded)

/-- START_PERIOD_END (R175). -/
def execStartPeriodEnd (s : State) : Host.Outcome State Fault Refusal := .next (s.modLink Link.started)

/-- RESTART (R184). -/
def execRestart (p : List Byte) (s : State) : Host.Outcome State Fault Refusal := .next (reqRestart p s)

/-- HOST_OCTET_RECEIVED (R176). -/
def execHostOctetReceived (octet : Byte) (s : State) : Host.Outcome State Fault Refusal := .next (hostOctet octet s)

/-- CLOCK_TICK (R183). -/
def execClockTick (s : State) : Host.Outcome State Fault Refusal := .next (millisecond s)

end Sys2Proof.Machine
end

