-- ==== Sys2Proof/Machine/Dispatch.lean ====
section
/-!
DEFINITION. The meaning of each command.
-/

namespace Sys2Proof.Machine

/-- A command's effect on everything but the queue of commands. -/
def exec (i : Instr) (s : State) : Host.Outcome State Fault Refusal :=
  match i with
  | .coldReset highRate contacts => Sys2Proof.Machine.execColdReset highRate contacts s
  | .sampleFrame octets => Sys2Proof.Machine.execSampleFrame octets s
  | .sampleFrameIncomplete octets => Sys2Proof.Machine.execSampleFrameIncomplete octets s
  | .lossTimerExpiry n => Sys2Proof.Machine.execLossTimerExpiry n s
  | .frameSilence => Sys2Proof.Machine.execFrameSilence s
  | .breakerFeedbackChange n contacts => Sys2Proof.Machine.execBreakerFeedbackChange n contacts s
  | .discrepancyTimerExpiry n => Sys2Proof.Machine.execDiscrepancyTimerExpiry n s
  | .openingSupervisionExpiry n => Sys2Proof.Machine.execOpeningSupervisionExpiry n s
  | .deadTimerExpiry n => Sys2Proof.Machine.execDeadTimerExpiry n s
  | .holdLimitExpiry n => Sys2Proof.Machine.execHoldLimitExpiry n s
  | .holdTimerExpiry n => Sys2Proof.Machine.execHoldTimerExpiry n s
  | .settleTimerExpiry c => Sys2Proof.Machine.execSettleTimerExpiry c s
  | .closeSupervisionExpiry n => Sys2Proof.Machine.execCloseSupervisionExpiry n s
  | .reclaimExpiry n => Sys2Proof.Machine.execReclaimExpiry n s
  | .lostTimerExpiry slot => Sys2Proof.Machine.execLostTimerExpiry slot s
  | .forgetTimerExpiry slot => Sys2Proof.Machine.execForgetTimerExpiry slot s
  | .poleTimerExpiry k => Sys2Proof.Machine.execPoleTimerExpiry k s
  | .passageTimerExpiry k => Sys2Proof.Machine.execPassageTimerExpiry k s
  | .driveSupervisionExpiry k => Sys2Proof.Machine.execDriveSupervisionExpiry k s
  | .cycleTimerExpiry => Sys2Proof.Machine.execCycleTimerExpiry s
  | .loopRequestSent => Sys2Proof.Machine.execLoopRequestSent s
  | .startLimitExpiry => Sys2Proof.Machine.execStartLimitExpiry s
  | .gapLimitExpiry => Sys2Proof.Machine.execGapLimitExpiry s
  | .loopReplyComplete octets => Sys2Proof.Machine.execLoopReplyComplete octets s
  | .hostGapTimeout => Sys2Proof.Machine.execHostGapTimeout s
  | .frameAbandon octet => Sys2Proof.Machine.execFrameAbandon octet s
  | .frameDiscard octets => Sys2Proof.Machine.execFrameDiscard octets s
  | .unknownKind kind payload => Sys2Proof.Machine.execUnknownKind kind payload s
  | .replySent => Sys2Proof.Machine.execReplySent s
  | .startPeriodEnd => Sys2Proof.Machine.execStartPeriodEnd s
  | .setProtection payload => Sys2Proof.Machine.execSetProtection payload s
  | .getProtection payload => Sys2Proof.Machine.execGetProtection payload s
  | .rebaseFilter payload => Sys2Proof.Machine.execRebaseFilter payload s
  | .getMeasurement payload => Sys2Proof.Machine.execGetMeasurement payload s
  | .setCondition payload => Sys2Proof.Machine.execSetCondition payload s
  | .getCondition payload => Sys2Proof.Machine.execGetCondition payload s
  | .ackCondition payload => Sys2Proof.Machine.execAckCondition payload s
  | .setCapture payload => Sys2Proof.Machine.execSetCapture payload s
  | .getCapture payload => Sys2Proof.Machine.execGetCapture payload s
  | .fetchCapture payload => Sys2Proof.Machine.execFetchCapture payload s
  | .setSection payload => Sys2Proof.Machine.execSetSection payload s
  | .getSectionSettings payload => Sys2Proof.Machine.execGetSectionSettings payload s
  | .setBackupTrip payload => Sys2Proof.Machine.execSetBackupTrip payload s
  | .getBackupTrip payload => Sys2Proof.Machine.execGetBackupTrip payload s
  | .getSection payload => Sys2Proof.Machine.execGetSection payload s
  | .closeSection payload => Sys2Proof.Machine.execCloseSection payload s
  | .openSection payload => Sys2Proof.Machine.execOpenSection payload s
  | .forceClose payload => Sys2Proof.Machine.execForceClose payload s
  | .clearLockout payload => Sys2Proof.Machine.execClearLockout payload s
  | .isolate payload => Sys2Proof.Machine.execIsolate payload s
  | .deisolate payload => Sys2Proof.Machine.execDeisolate payload s
  | .intertrip payload => Sys2Proof.Machine.execIntertrip payload s
  | .holdReclose payload => Sys2Proof.Machine.execHoldReclose payload s
  | .extendHold payload => Sys2Proof.Machine.execExtendHold payload s
  | .releaseHold payload => Sys2Proof.Machine.execReleaseHold payload s
  | .releaseBusTrip payload => Sys2Proof.Machine.execReleaseBusTrip payload s
  | .setTestCircuits payload => Sys2Proof.Machine.execSetTestCircuits payload s
  | .getTestStatus payload => Sys2Proof.Machine.execGetTestStatus payload s
  | .getTestResult payload => Sys2Proof.Machine.execGetTestResult payload s
  | .setVehicleTiming payload => Sys2Proof.Machine.execSetVehicleTiming payload s
  | .getVehicleTiming payload => Sys2Proof.Machine.execGetVehicleTiming payload s
  | .getVehicle payload => Sys2Proof.Machine.execGetVehicle payload s
  | .listVehicles payload => Sys2Proof.Machine.execListVehicles payload s
  | .removeVehicle payload => Sys2Proof.Machine.execRemoveVehicle payload s
  | .clearFault payload => Sys2Proof.Machine.execClearFault payload s
  | .configureSwitch payload => Sys2Proof.Machine.execConfigureSwitch payload s
  | .setSwitch payload => Sys2Proof.Machine.execSetSwitch payload s
  | .pinSwitch payload => Sys2Proof.Machine.execPinSwitch payload s
  | .unpinSwitch payload => Sys2Proof.Machine.execUnpinSwitch payload s
  | .clearSwitchLock payload => Sys2Proof.Machine.execClearSwitchLock payload s
  | .getSwitch payload => Sys2Proof.Machine.execGetSwitch payload s
  | .setStation payload => Sys2Proof.Machine.execSetStation payload s
  | .removeStation payload => Sys2Proof.Machine.execRemoveStation payload s
  | .setCycleTime payload => Sys2Proof.Machine.execSetCycleTime payload s
  | .getLoopStatus payload => Sys2Proof.Machine.execGetLoopStatus payload s
  | .loopSkip payload => Sys2Proof.Machine.execLoopSkip payload s
  | .loopReset payload => Sys2Proof.Machine.execLoopReset payload s
  | .getStation payload => Sys2Proof.Machine.execGetStation payload s
  | .fetchNotices payload => Sys2Proof.Machine.execFetchNotices payload s
  | .setAttention payload => Sys2Proof.Machine.execSetAttention payload s
  | .getNoticeStatus payload => Sys2Proof.Machine.execGetNoticeStatus payload s
  | .setTime payload => Sys2Proof.Machine.execSetTime payload s
  | .getTime payload => Sys2Proof.Machine.execGetTime payload s
  | .restart payload => Sys2Proof.Machine.execRestart payload s
  | .hostOctetReceived octet => Sys2Proof.Machine.execHostOctetReceived octet s
  | .loopOctetReceived octet => Sys2Proof.Machine.execLoopOctetReceived octet s
  | .clockTick => Sys2Proof.Machine.execClockTick s

end Sys2Proof.Machine
end

