-- ==== Sys2Proof/WellFormed.lean ====
section
/-!
DEFINITION. Which commands can come from the part's lines: the lengths and codes a frame, a reply and a payload can have.
The meanings do not lean on it; a request whose payload has the wrong size for its kind is well formed, and is answered
BAD LENGTH (R178).
-/

namespace Sys2Proof

/-- The codes of the request kinds (chapter 10). -/
def requestKinds : List Nat :=
  [0x01, 0x02, 0x03, 0x04, 0x08, 0x09, 0x0A, 0x0C, 0x0D, 0x0E] ++
  [0x10, 0x11, 0x12, 0x13, 0x14, 0x15, 0x16, 0x17, 0x18, 0x19, 0x1A, 0x1B, 0x1C, 0x1D, 0x1E, 0x1F] ++
  [0x20, 0x21, 0x22, 0x28, 0x29, 0x2A, 0x2B, 0x2C, 0x2D] ++
  [0x30, 0x31, 0x32, 0x33, 0x34, 0x35, 0x38, 0x39, 0x3A, 0x3B, 0x3C, 0x3D, 0x3E] ++
  [0x40, 0x41, 0x42, 0x48, 0x49, 0x4F]

/-- A frame's length is at most 250, of which the kind takes one octet (R176). -/
def payloadFits (p : List Byte) : Bool := decide (p.length ≤ 249)

/-- The octets from the length octet on make a whole host frame (R176). -/
def hostFrameWhole (octets : List Byte) : Bool :=
  match octets with
  | [] => false
  | n :: rest => decide (1 ≤ n.toNat) && decide (n.toNat ≤ 250) && decide (rest.length = n.toNat + 2)

/-- The octets make a loop reply of its declared length, at most 64 (R152). -/
def loopReplyWhole (octets : List Byte) : Bool :=
  match octets with
  | [] => false
  | n :: rest => decide (n.toNat ≤ 64) && decide (rest.length = n.toNat - 1)

/-- The command can come from the part's lines. -/
def Instr.wf (i : Instr) : Bool :=
  match i with
  | .sampleFrame octets => decide (38 ≤ octets.length)
  | .sampleFrameIncomplete octets => decide (octets.length < 38)
  | .loopReplyComplete octets => loopReplyWhole octets
  | .frameAbandon octet => decide (octet = 0) || decide (250 < octet.toNat)
  | .frameDiscard octets => hostFrameWhole octets
  | .unknownKind kind p => !requestKinds.contains kind.toNat && payloadFits p
  | .setProtection p => payloadFits p
  | .getProtection p => payloadFits p
  | .rebaseFilter p => payloadFits p
  | .getMeasurement p => payloadFits p
  | .setCondition p => payloadFits p
  | .getCondition p => payloadFits p
  | .ackCondition p => payloadFits p
  | .setCapture p => payloadFits p
  | .getCapture p => payloadFits p
  | .fetchCapture p => payloadFits p
  | .setSection p => payloadFits p
  | .getSectionSettings p => payloadFits p
  | .setBackupTrip p => payloadFits p
  | .getBackupTrip p => payloadFits p
  | .getSection p => payloadFits p
  | .closeSection p => payloadFits p
  | .openSection p => payloadFits p
  | .forceClose p => payloadFits p
  | .clearLockout p => payloadFits p
  | .isolate p => payloadFits p
  | .deisolate p => payloadFits p
  | .intertrip p => payloadFits p
  | .holdReclose p => payloadFits p
  | .extendHold p => payloadFits p
  | .releaseHold p => payloadFits p
  | .releaseBusTrip p => payloadFits p
  | .setTestCircuits p => payloadFits p
  | .getTestStatus p => payloadFits p
  | .getTestResult p => payloadFits p
  | .setVehicleTiming p => payloadFits p
  | .getVehicleTiming p => payloadFits p
  | .getVehicle p => payloadFits p
  | .listVehicles p => payloadFits p
  | .removeVehicle p => payloadFits p
  | .clearFault p => payloadFits p
  | .configureSwitch p => payloadFits p
  | .setSwitch p => payloadFits p
  | .pinSwitch p => payloadFits p
  | .unpinSwitch p => payloadFits p
  | .clearSwitchLock p => payloadFits p
  | .getSwitch p => payloadFits p
  | .setStation p => payloadFits p
  | .removeStation p => payloadFits p
  | .setCycleTime p => payloadFits p
  | .getLoopStatus p => payloadFits p
  | .loopSkip p => payloadFits p
  | .loopReset p => payloadFits p
  | .getStation p => payloadFits p
  | .fetchNotices p => payloadFits p
  | .setAttention p => payloadFits p
  | .getNoticeStatus p => payloadFits p
  | .setTime p => payloadFits p
  | .getTime p => payloadFits p
  | .restart p => payloadFits p
  | .coldReset _ _ => true
  | .lossTimerExpiry _ => true
  | .frameSilence => true
  | .breakerFeedbackChange _ _ => true
  | .discrepancyTimerExpiry _ => true
  | .openingSupervisionExpiry _ => true
  | .deadTimerExpiry _ => true
  | .holdLimitExpiry _ => true
  | .holdTimerExpiry _ => true
  | .settleTimerExpiry _ => true
  | .closeSupervisionExpiry _ => true
  | .reclaimExpiry _ => true
  | .lostTimerExpiry _ => true
  | .forgetTimerExpiry _ => true
  | .poleTimerExpiry _ => true
  | .passageTimerExpiry _ => true
  | .driveSupervisionExpiry _ => true
  | .cycleTimerExpiry => true
  | .loopRequestSent => true
  | .startLimitExpiry => true
  | .gapLimitExpiry => true
  | .hostGapTimeout => true
  | .replySent => true
  | .startPeriodEnd => true
  | .hostOctetReceived _ => true
  | .loopOctetReceived _ => true
  | .clockTick => true

end Sys2Proof
end

