-- ==== Sys2Proof/Safety.lean ====
section
/-!
DEFINITION. What the statements speak of: conditions on a state that the rules promise to keep, the state that a request
leaves when it is answered, and runs of several commands.
-/

namespace Sys2Proof.Machine

/-! ### Conditions that every step keeps -/

/-- The Notice Queue (R165, R166, R168, R170): room for 48 records, 47 while the mark is clear; the newest record an
OVERFLOW while it is set; consecutive entry numbers; a mask of at most 7; ATTN the level R170 gives. -/
def NoticesOk (q : NoticeQueue) : Prop :=
  q.records.length ≤ 48 ∧ (q.overflow = false → q.records.length ≤ 47) ∧
  (q.overflow = true → q.records.getLast?.map (·.kind) = some .overflow) ∧
  (∀ i : Fin q.records.length, q.records[i].entry = q.counter - BitVec.ofNat 16 (q.records.length - i.val)) ∧
  q.mask ≤ 7 ∧ (q.attn = true ↔ ∃ r ∈ q.records, q.mask < r.priority)

/-- One section's lines (R46, R72, R73): the close line only in CLOSING, the test line only in LINE_TEST, neither in a
halt; every trip line in a halt; otherwise the trip line by the state, and in OPEN, LOCKOUT and ISOLATED only under
opening supervision. -/
def Section.LinesOk (halted : Bool) (r : Section) : Prop :=
  (r.closeLine = true ↔ r.state = .closing ∧ halted = false) ∧
  (r.testLine = true ↔ r.state = .lineTest ∧ halted = false) ∧
  (halted = true → r.tripLine = true) ∧
  (halted = false →
    (r.state = .closed ∨ r.state = .closing ∨ r.state = .reclaim → r.tripLine = false) ∧
    (r.state = .tripping ∨ r.state = .deadTime ∨ r.state = .testWait ∨ r.state = .lineTest ∨ r.state = .held ∨
      r.state = .breakerFail → r.tripLine = true) ∧
    (r.state.openLike = true ∧ r.tripLine = true → r.opening.isSome = true))

/-- Every section's lines. -/
def LinesOk (s : State) : Prop := ∀ n : Sec, s.secs[n].LinesOk s.halted

/-- The bus trip line, and a halt, stand only on a section in BREAKER_FAIL (R70, R71, R72). -/
def FailureOk (s : State) : Prop :=
  s.busTrip = true ∨ s.halted = true → ∃ n : Sec, s.secs[n].state = .breakerFail

/-- The power copies agree with the sections (R61, R94, R126). -/
def PowerOk (s : State) : Prop :=
  (∀ n : Sec, s.vt.power[n] = s.secs[n].state.powered) ∧
  ∀ (k : Sw) (n : Sec), s.sws[k].feeding = some n → s.sws[k].power = s.secs[n].state.powered

/-- One frog (R129, R130): at most two poles under it, and none while it is MOVING; it moves only with a feeding
section and its power copy POWERED. -/
def SwitchPoint.FrogOk (w : SwitchPoint) : Prop :=
  w.poles ≤ 2 ∧ (w.position = .moving → w.poles = 0 ∧ w.feeding.isSome = true ∧ w.power = true)

/-- Every frog, and the power it moves under (R130). -/
def FrogsOk (s : State) : Prop := PowerOk s ∧ ∀ k : Sw, s.sws[k].FrogOk

/-- One approach queue (R119, R129): at most four entries, no vehicle twice; the occupant is the head, with poles
under. -/
def SwitchPoint.QueueOk (w : SwitchPoint) : Prop :=
  w.queue.length ≤ 4 ∧ (w.queue.map (·.number)).Nodup ∧
  ∀ v, w.occupant = some v → w.queue.head?.map (·.number) = some v ∧ 0 < w.poles

/-- Every approach queue. -/
def QueuesOk (s : State) : Prop := ∀ k : Sw, s.sws[k].QueueOk

/-- The Test Arbiter (R76 to R80): the waiting list holds the sections in TEST_WAIT once each, the holders are the
sections in LINE_TEST, each holding one circuit, and open contexts are their holders'; in a halt there are none, and no
section is in DEAD_TIME, HELD or CLOSING. -/
def TestsOk (s : State) : Prop :=
  (s.arb.count = 1 ∨ s.arb.count = 2) ∧ s.arb.waiting.Nodup ∧
  (∀ n : Sec, n ∈ s.arb.waiting ↔ s.secs[n].state = .testWait) ∧
  (∀ n : Sec, (∃ c : Circuit, s.arb.holders[c] = some n) ↔ s.secs[n].state = .lineTest) ∧
  (∀ (c d : Circuit) (n : Sec), s.arb.holders[c] = some n → s.arb.holders[d] = some n → c = d) ∧
  (∀ c : Circuit, (s.arb.contexts[c]).map (·.sec) = s.arb.holders[c]) ∧
  (s.halted = true → ∀ n : Sec, s.secs[n].state ≠ .deadTime ∧ s.secs[n].state ≠ .testWait ∧
    s.secs[n].state ≠ .lineTest ∧ s.secs[n].state ≠ .held ∧ s.secs[n].state ≠ .closing)

/-- No section waits while a circuit may be granted (R78). -/
def GrantsOk (s : State) : Prop :=
  s.arb.waiting = [] ∨ s.arb.freeCircuit = none ∨ s.arb.count ≤ s.arb.held

/-- One section's attempt count (R57, R60, R63). -/
def Section.AttemptOk (r : Section) : Prop :=
  r.settings.tests ≤ 3 ∧ r.limit ≤ 3 ∧ r.attempt ≤ r.limit ∧
  (r.manual = true → r.attempt = r.limit ∧ 1 ≤ r.limit) ∧
  (r.manual = false → r.state = .deadTime ∨ r.state = .testWait → r.attempt < r.limit) ∧
  (r.state = .lineTest ∨ r.state = .closing ∨ r.state = .reclaim ∨ r.state = .held → 1 ≤ r.attempt)

/-- Every section's attempt count. -/
def AttemptsOk (s : State) : Prop := ∀ n : Sec, s.secs[n].AttemptOk

/-- The holds that other blocks report agree with those blocks (R54, R102, R134). -/
def HoldsOk (s : State) : Prop :=
  ∀ n : Sec,
    (s.secs[n].holds.leak = true ↔ 0 < s.leaking n ∧ s.secs[n].settings.leakHold = true) ∧
    (s.secs[n].holds.dewired = true ↔ 0 < s.dewired n) ∧
    (s.secs[n].holds.switchLock = true ↔ ∃ k : Sw, s.sws[k].feeding = some n ∧ s.sws[k].lock = .dewired) ∧
    (s.secs[n].holds.timer = true ↔ s.secs[n].holdTimer.isSome = true)

/-- One FPU's ranges (R13, R18, R20): a history of at most 17 current codes, the accumulator within the range of the
current codes times 256, a sustained counter of 16 bits. -/
def Fpu.RangeOk (f : Fpu) : Prop :=
  f.history.length ≤ 17 ∧ (∀ i ∈ f.history, -16384 ≤ i ∧ i ≤ 16383) ∧ -16384 ≤ f.lastI ∧ f.lastI ≤ 16383 ∧
  -4194304 ≤ f.acc ∧ f.acc ≤ 4194048 ∧ f.sustained ≤ 65535 ∧ f.protection.duration ≤ 65535

/-- Every FPU's ranges. -/
def FpusOk (s : State) : Prop := ∀ n : Sec, s.fpus[n].RangeOk

/-- One Capture Buffer (R36, R38, R39): at most 64 entries, fewer in FILLING, and the decimation counter below N. -/
def Capture.RangeOk (b : Capture) : Prop :=
  b.entries.length ≤ 64 ∧ (b.state = .filling → b.entries.length < 64) ∧ 1 ≤ b.setting.decimation ∧
  b.decCount < b.setting.decimation

/-- Every Capture Buffer. -/
def CapturesOk (s : State) : Prop := ∀ n : Sec, s.caps[n].RangeOk

/-- A vehicle number is in at most one record, and is a vehicle number (R92, R95). -/
def TableOk (s : State) : Prop :=
  (∀ (i j : Slot) (v w : Vehicle), s.vt.slots[i] = some v → s.vt.slots[j] = some w → v.number = w.number → i = j) ∧
  ∀ (i : Slot) (v : Vehicle), s.vt.slots[i] = some v → 1 ≤ v.number ∧ v.number ≤ 9999

/-- Each switch point is bound by at most one station (R118, R143). -/
def BindingsOk (s : State) : Prop :=
  ∀ (a b : Sta) (k : Sw), s.loop.stations[a].role = .switch (some k) → s.loop.stations[b].role = .switch (some k) →
    a = b

/-! ### Request frames (chapter 10, R178, R182) -/

/-- The command of a request frame of this kind and payload (chapter 10, request kinds). -/
def commandOf (kind : Byte) (payload : List Byte) : Instr :=
  match kind.toNat with
  | 0x01 => .setProtection payload
  | 0x02 => .getProtection payload
  | 0x03 => .rebaseFilter payload
  | 0x04 => .getMeasurement payload
  | 0x08 => .setCondition payload
  | 0x09 => .getCondition payload
  | 0x0A => .ackCondition payload
  | 0x0C => .setCapture payload
  | 0x0D => .getCapture payload
  | 0x0E => .fetchCapture payload
  | 0x10 => .setSection payload
  | 0x11 => .getSectionSettings payload
  | 0x12 => .setBackupTrip payload
  | 0x13 => .getBackupTrip payload
  | 0x14 => .getSection payload
  | 0x15 => .closeSection payload
  | 0x16 => .openSection payload
  | 0x17 => .forceClose payload
  | 0x18 => .clearLockout payload
  | 0x19 => .isolate payload
  | 0x1A => .deisolate payload
  | 0x1B => .intertrip payload
  | 0x1C => .holdReclose payload
  | 0x1D => .extendHold payload
  | 0x1E => .releaseHold payload
  | 0x1F => .releaseBusTrip payload
  | 0x20 => .setTestCircuits payload
  | 0x21 => .getTestStatus payload
  | 0x22 => .getTestResult payload
  | 0x28 => .setVehicleTiming payload
  | 0x29 => .getVehicleTiming payload
  | 0x2A => .getVehicle payload
  | 0x2B => .listVehicles payload
  | 0x2C => .removeVehicle payload
  | 0x2D => .clearFault payload
  | 0x30 => .configureSwitch payload
  | 0x31 => .setSwitch payload
  | 0x32 => .pinSwitch payload
  | 0x33 => .unpinSwitch payload
  | 0x34 => .clearSwitchLock payload
  | 0x35 => .getSwitch payload
  | 0x38 => .setStation payload
  | 0x39 => .removeStation payload
  | 0x3A => .getStation payload
  | 0x3B => .setCycleTime payload
  | 0x3C => .getLoopStatus payload
  | 0x3D => .loopSkip payload
  | 0x3E => .loopReset payload
  | 0x40 => .fetchNotices payload
  | 0x41 => .setAttention payload
  | 0x42 => .getNoticeStatus payload
  | 0x48 => .setTime payload
  | 0x49 => .getTime payload
  | 0x4F => .restart payload
  | _ => .unknownKind kind payload

/-- The payload size a request kind has in chapter 10's table; SET CONDITION's goes by its input count, none for a code
that is no kind. -/
def kindSize (kind : Byte) (payload : List Byte) : Option Nat :=
  match kind.toNat with
  | 0x01 => some 22
  | 0x08 => if 10 ≤ payload.length ∧ octetAt payload 9 ≤ 4 then some (10 + 3 * octetAt payload 9) else none
  | 0x0C => some 6
  | 0x10 => some 34
  | 0x1C => some 5 | 0x1D => some 5 | 0x38 => some 5
  | 0x28 => some 8
  | 0x48 => some 4
  | 0x2D => some 3
  | 0x30 => some 11
  | 0x0E => some 2 | 0x2A => some 2 | 0x2B => some 2 | 0x2C => some 2 | 0x31 => some 2 | 0x3B => some 2
  | 0x13 => some 0 | 0x1F => some 0 | 0x21 => some 0 | 0x29 => some 0 | 0x3C => some 0 | 0x3D => some 0
  | 0x3E => some 0 | 0x42 => some 0 | 0x49 => some 0 | 0x4F => some 0
  | n => if requestKinds.contains n then some 1 else none

/-- The kinds answered during a halt (R182): RESTART, FETCH NOTICES, SET ATTENTION, SET TIME, FETCH CAPTURE, and every
GET and LIST request. -/
def haltKinds : List Nat :=
  [0x4F, 0x40, 0x41, 0x48, 0x0E] ++
  [0x02, 0x04, 0x09, 0x0D, 0x11, 0x13, 0x14, 0x21, 0x22, 0x29, 0x2A, 0x2B, 0x35, 0x3A, 0x3C, 0x42, 0x49]

/-- The state with the receiver back in HUNTING (R176, R177). -/
def hunting (s : State) : State := { s with link := { s.link with receiver := .hunting, gapTimer := none } }

/-! ### Answered requests -/

/-- The state in which a request of kind `kind` is answered, its effect having left `t` (R177, R180). -/
def answered (kind : Byte) (status : Status) (fields : List ReplyField) (t : State) : State :=
  { t with link := { t.link with receiver := .hunting, gapTimer := none, reply := some ⟨kind, status, fields⟩ } }

/-- A request is handed to its block (R177, R178 checks 1 and 4): no reply in progress, no start period, no halt. -/
def Ready (s : State) : Prop := s.link.reply = none ∧ s.link.startPeriod = none ∧ s.halted = false

/-- A request answered during a halt is handed to its block. -/
def Reachable (s : State) : Prop := s.link.reply = none ∧ s.link.startPeriod = none

/-! ### Records as the statements write them -/

/-- The record in state `st`, every timer that a state starts stopped, the close and the test line released (R46). -/
def Section.standing (st : SecState) (r : Section) : Section :=
  { r with
    state := st, opening := none, deadTimer := none, closing := none, reclaim := none, holdLimit := none
    held := false, heldSince := none, closeLine := false, testLine := false }

/-- The record at entry into OPEN, LOCKOUT or ISOLATED with the part not halted (R46, R54): NO_SUPPLY removed, the trip
line asserted under opening supervision unless the breaker reads OPEN. -/
def Section.standingOpen (st : SecState) (r : Section) : Section :=
  { r.standing st with
    holds := { r.holds with noSupply := false }
    tripLine := decide (r.feedback ≠ .opened)
    opening := if r.feedback = .opened then none else some r.settings.openLimit }

/-- The notices after one more, of this kind, priority, source and words. -/
def State.noticed (s : State) (kind : NoticeKind) (priority : Nat) (source : Source) (words : List Half) : NoticeQueue :=
  s.notices.take s.clock kind priority source words

/-- The state after section `n`, its record being `r`, has entered TEST_WAIT and joined the waiting list, where no other
section waits for a circuit that may be granted (R77, R78, R57, R81): it is granted a circuit at once if the list was
empty and one is free and usable, else it stands last. -/
def State.joining (n : Sec) (r : Section) (s : State) : State :=
  let r : Section := { r.standing .testWait with tripLine := true }
  match (if s.arb.waiting = [] ∧ s.arb.held < s.arb.count then s.arb.freeCircuit else none) with
  | none => { s with secs := s.secs.set n r, arb := { s.arb with waiting := s.arb.waiting ++ [n] } }
  | some c =>
    { s with
      secs := s.secs.set n
        { r with state := .lineTest, testLine := true, attempt := if r.manual then r.attempt else r.attempt + 1 }
      arb := { s.arb with
        holders := s.arb.holders.set c (some n)
        contexts := s.arb.contexts.set c (some ⟨n, r.settings.settle, []⟩) } }

/-- The state after a power report of section `n` (R61, R94, R126): each switch point fed from it, and the Vehicle Table,
has the new copy; UNPOWERED cancels a drive in progress, and POWERED lets the serving rule make one. -/
def State.reported (n : Sec) (powered : Bool) (s : State) : State :=
  { s with
    vt := { s.vt with power := s.vt.power.set n powered }
    sws := s.sws.map fun w =>
      if w.feeding = some n then
        if powered then ({ w with power := true } : SwitchPoint).serve s.halted
        else if w.position = .moving then
          { w with power := false, driveTimer := none, stage := .none, position := .unknown }
        else { w with power := false }
      else w }

/-! ### The loop's next exchange (R146, R149) -/

/-- Station `b` is polled next: the lowest ONLINE address above the poll position, other than one this cycle's census
made ONLINE. -/
def Loop.PollsNext (b : Sta) (l : Loop) : Prop :=
  l.stations[b].state = .online ∧ l.pollPos < number b ∧ l.found ≠ some b ∧
  ∀ c : Sta, l.pollPos < number c → c < b → l.stations[c].state = .online → l.found = some c

/-- No station is left to poll in this cycle. -/
def Loop.PollsDone (l : Loop) : Prop :=
  ∀ c : Sta, l.pollPos < number c → l.stations[c].state = .online → l.found = some c

/-- Station `b` is the census candidate: in CENSUS or LOST, the lowest address above the census position that is, else the
lowest of all. -/
def Loop.CensusNext (b : Sta) (l : Loop) : Prop :=
  (l.stations[b].state = .census ∨ l.stations[b].state = .lost) ∧
  ∀ c : Sta, (l.stations[c].state = .census ∨ l.stations[c].state = .lost) →
    (l.censusPos < number b → l.censusPos < number c → b ≤ c) ∧
    (number b ≤ l.censusPos → number c ≤ l.censusPos ∧ b ≤ c)

/-- The cycle's exchanges have ended, in time: it rests after the present one (R147). -/
def Loop.Spent (l : Loop) : Prop := l.PollsDone ∧ l.censusDone = true ∧ l.late = false

/-- The state as the poll of station `b` begins: a DRIVE for a PENDING drive of its switch point unless drives are held,
which then travels in it, else a POLL. -/
def State.polling (b : Sta) (s : State) : State :=
  let begins (c : LoopCommand) : Loop :=
    { s.loop with
      pollPos := number b, lastAddressed := number b
      exchange := some ⟨b, c, s.loop.stations[b].rate, s.loop.stations[b].mark.getD false, .sending⟩ }
  match s.loop.stations[b].role with
  | .switch (some k) =>
    if s.sws[k].stage = .pending ∧ s.loop.holding = false then
      { s with loop := begins (.drive s.sws[k].target), sws := s.sws.set k { s.sws[k] with carried := true } }
    else { s with loop := begins .poll }
  | _ => { s with loop := begins .poll }

/-- The loop as a cycle starts (R146). -/
def Loop.cycleStarted (l : Loop) : Loop :=
  { l with
    running := true, cycleTimer := some l.cycleTime, cycleMs := 0, pollPos := 0, censusDone := false, late := false
    lastAddressed := 0, found := none, exchange := none }

/-- The octets are a whole reply of station `a` whose check octet and address agree (R152). -/
def ReplyOf (a : Sta) (octets : List Byte) : Prop :=
  octetSum octets = 0 ∧ octetAt octets 0 = octets.length ∧ octetAt octets 1 = number a

/-- The loop at rest after an exchange with station `a`, whose record is then `r` (R147). -/
def Loop.restingWith (a : Sta) (r : Station) (l : Loop) : Loop :=
  { l with stations := l.stations.set a r, exchange := none, running := false, overrun := false }

/-! ### Sample frames (R1 to R3) -/

/-- The octets are a complete frame that follows the last one and carries the sample set of section `n` alone, with no bus
voltage. -/
def OneSet (n : Sec) (octets : List Byte) (s : State) : Prop :=
  38 ≤ octets.length ∧ octets.getD 36 0 &&& octets.getD 37 0 = BitVec.twoPow 8 n.val ∧ octetAt octets 35 % 2 = 0 ∧
  (s.port.prevCount = none ∨ s.port.prevCount = some (octets.getD 0 0 - 1))

/-! ### Runs -/

/-- Commands taken one after another, to the state after the last. -/
def execAll : List Instr → State → Host.Outcome State Fault Refusal
  | [], s => .next s
  | c :: cs, s =>
    match exec c s with
    | .next t => execAll cs t
    | .fault f => .fault f
    | .refused r => .refused r

end Sys2Proof.Machine
end

