-- ==== Sys2Proof/Certificates/Slice0/Obligations.lean ====
section
/-!
DEFINITION. The statements for the provers, family by family. `s` is a state before a command and `t` the one after it;
`p` is the payload of a request.
-/

open Sys2Proof Sys2Proof.Machine

/-! ### The queue of commands, and every command -/

/-- A step takes the command at the front of the queue with the queue's rest; with none waiting the part idles, which is
the model's choice [log 9]. -/
def Obligations.StepTakesFrontCommand : Prop :=
  (∀ (c : Instr) (rest : List Instr) (s : State),
    step { s with pending := c :: rest } = exec c { s with pending := rest }) ∧
  ∀ s : State, s.pending = [] → step s = .next s

/-- Every command completes in every state, and none touches the queue of those that wait. -/
def Obligations.EveryCommandCompletes : Prop :=
  ∀ (c : Instr) (s : State), ∃ t, exec c s = .next t ∧ t.pending = s.pending

/-! ### Cold reset -/

/-- State.reset keeps every rule of Safety.lean. -/
def Obligations.ResetKeepsTheRules : Prop :=
  NoticesOk State.reset.notices ∧ LinesOk State.reset ∧ FailureOk State.reset ∧ FrogsOk State.reset ∧
  QueuesOk State.reset ∧ TestsOk State.reset ∧ GrantsOk State.reset ∧ AttemptsOk State.reset ∧ HoldsOk State.reset ∧
  FpusOk State.reset ∧ CapturesOk State.reset ∧ TableOk State.reset ∧ BindingsOk State.reset

/-- Cold reset, from any state and with any contacts: each section takes the state its reading gives, with its lines and
supervision, and every other block, the loop among them, all its reset values; the waiting commands and the count of draws,
both the model's own, stay; every rule of Safety.lean holds. -/
def Obligations.ColdResetTakesTheReadings : Prop :=
  ∀ (highRate : Bool) (contacts : Vector Contacts 8) (s : State), ∃ t,
    exec (.coldReset highRate contacts) s = .next t ∧
    (∀ n : Sec,
      let c := contacts[n]
      let travel := !c.posOpen && !c.posClosed
      let both := c.posOpen && c.posClosed
      t.secs[n] =
        { state := if c.posClosed then .closed else .opened
          attempt := 0, limit := 2, dead := ⟨2000, 10000, 30000⟩, manual := false, record := none
          holds := ⟨false, false, false, false, false⟩, holdTimer := none, held := false, heldSince := none
          feedback := if both then .discrepant else if travel then .travel else if c.posClosed then .closed else .opened
          asClosed := false, opening := if travel then some 80 else none, deadTimer := none, closing := none
          reclaim := none, holdLimit := none, discrepancy := if both then some 200 else none, trippingMs := 0
          tripLine := travel, closeLine := false, testLine := false
          settings := ⟨2, ⟨2000, 10000, 30000⟩, 80, 200, 5000, 600000, true, 20, 100, 500, 2000, 300⟩, lastTest := none } ∧
      t.fpus[n] =
        { state := .starting, lossTimer := some 2, loss := none, history := [], tracker := .quiet, acc := 0
          sustained := 0, seq := 0, lastI := 0, lastU := 0, lastD := 0, lastSeq := 0
          protection := ⟨12000, 8, 400, 200, 3000, 400, 8000, 160, 10, 5000, 8000, .trip⟩ } ∧
      t.gens[n] = ⟨⟨n, [], false, 0, 0, false, false, false, false⟩, .off, [], false⟩ ∧
      t.caps[n] = ⟨⟨.off, 1, 16, 48, 0⟩, .idle, [], false, 0, 0, true, false, none⟩ ∧
      t.vt.power[n] = c.posClosed) ∧
    t.vt.slots = Vector.replicate 64 none ∧ t.vt.fullArmed = true ∧ t.vt.lostTime = 300000 ∧ t.vt.forgetTime = 1800000 ∧
    t.arb = ⟨1, Vector.replicate 2 none, [], Vector.replicate 2 none⟩ ∧
    t.sws = Vector.replicate 16
      { bound := none, station := .unconfigured, feeding := none, power := false, default := .straight
        position := .unknown, target := .straight, stage := .none, carried := false, failed := 0, poles := 0
        both := false, occupant := none, queue := [], lock := .none, poleTimer := .stopped, passTimer := .stopped
        driveTimer := none, driveMs := 0, lastReport := .between, tPole := 4000, tPass := 30000, tDrive := 3000 } ∧
    t.loop =
      { stations := Vector.replicate 32 ⟨.unset, .fast, 0, .unconfigured, 0, none, .none⟩, cycleTime := 100
        running := false, cycleTimer := some 100, cycleMs := 0, pollPos := 0, censusDone := true, censusPos := 0
        late := false, overrun := false, lastAddressed := 0, found := none, exchange := none, holding := false } ∧
    t.notices = ⟨[], 0, false, 3, false⟩ ∧ t.link = ⟨highRate, .hunting, none, none, some 100⟩ ∧
    t.port = ⟨none, some 2⟩ ∧ t.clock = 0 ∧ t.busTrip = false ∧ t.halted = false ∧ t.backup = true ∧
    t.draws = s.draws ∧ t.pending = s.pending ∧
    NoticesOk t.notices ∧ LinesOk t ∧ FailureOk t ∧ FrogsOk t ∧ QueuesOk t ∧ TestsOk t ∧ GrantsOk t ∧ AttemptsOk t ∧
    HoldsOk t ∧ FpusOk t ∧ CapturesOk t ∧ TableOk t ∧ BindingsOk t

/-- The loop at cold reset (R164): every record UNCONFIGURED with its reset fields, the first cycle resting for Tcyc with
no exchange, and each cycle that follows, whenever its timer expires, resting in the same way. -/
def Obligations.ColdResetLoopRests : Prop :=
  ∀ (highRate : Bool) (contacts : Vector Contacts 8) (s : State), ∃ t,
    exec (.coldReset highRate contacts) s = .next t ∧
    (∀ a : Sta, t.loop.stations[a].state = .unconfigured ∧ t.loop.stations[a].role = .unset ∧
      t.loop.stations[a].relax = 0 ∧ t.loop.stations[a].rate = .fast ∧ t.loop.stations[a].failures = 0 ∧
      t.loop.stations[a].mark = none ∧ t.loop.stations[a].lastFailure = .none) ∧
    t.loop.cycleTime = 100 ∧ t.loop.censusPos = 0 ∧ t.loop.overrun = false ∧ t.loop.exchange = none ∧
    t.loop.holding = false ∧ t.loop.running = false ∧ t.loop.cycleTimer = some 100 ∧
    ∀ left : Nat, exec .cycleTimerExpiry { t with loop := { t.loop with cycleTimer := some left } } = .next t

/-! ### What every step keeps -/

/-- Every step keeps the Notice Queue's rule: its room, the OVERFLOW record, consecutive entry numbers, and ATTN. That at most
47 records stand while the mark is clear, even right after a fetch of 1 from 48, is the model's choice, R166 followed against
R168 [log 45]. -/
def Obligations.NoticeQueueRuleIsKept : Prop :=
  ∀ s t : State, NoticesOk s.notices → step s = .next t → NoticesOk t.notices

/-- Every step keeps the rule of the trip, close and test lines, in a halt and out of it. -/
def Obligations.SectionLinesRuleIsKept : Prop :=
  ∀ s t : State, LinesOk s → step s = .next t → LinesOk t

/-- Every step keeps it true that the bus trip line and a halt stand only on a section in BREAKER_FAIL. -/
def Obligations.BreakerFailureRuleIsKept : Prop :=
  ∀ s t : State, FailureOk s → step s = .next t → FailureOk t

/-- Every step keeps the frogs' rule: no pole is under a frog that moves, and it moves only under a section that is
POWERED, which every power copy shows. -/
def Obligations.FrogRuleIsKept : Prop :=
  ∀ s t : State, FrogsOk s → step s = .next t → FrogsOk t

/-- Every step keeps the Test Arbiter's rule, and with it that no section waits while a circuit may be granted. -/
def Obligations.TestArbiterRuleIsKept : Prop :=
  ∀ s t : State, TestsOk s → step s = .next t → TestsOk t ∧ (GrantsOk s → GrantsOk t)

/-- Every step keeps each hold equal to the fact it stands for in the block that owns the fact. -/
def Obligations.HoldRuleIsKept : Prop :=
  ∀ s t : State, HoldsOk s → step s = .next t → HoldsOk t

/-- Every step keeps the attempt counts' rule, never above the latched limit, and at least 1 once a test was granted; the
FPUs' ranges, the accumulator never leaving the range of the current codes times 256; and the Capture Buffers' ranges, at
most 64 entries, fewer while FILLING. -/
def Obligations.AttemptFilterAndCaptureRangesAreKept : Prop :=
  ∀ s t : State, step s = .next t →
    (AttemptsOk s → AttemptsOk t) ∧ (FpusOk s → FpusOk t) ∧ (CapturesOk s → CapturesOk t)

/-- Every step keeps the approach queues' rule, at most four entries, no vehicle twice, the occupant at the head; vehicle
numbers unique in the table; and switch points bound by one station at most. -/
def Obligations.QueueTableAndBindingRulesAreKept : Prop :=
  ∀ s t : State, step s = .next t →
    (QueuesOk s → QueuesOk t) ∧ (TableOk s → TableOk t) ∧ (BindingsOk s → BindingsOk t)

/-! ### Frames, octet by octet and whole -/

/-- The octets of a request frame, taken one by one from HUNTING, act as the request's own command. -/
def Obligations.RequestFrameOctetsActAsTheirCommand : Prop :=
  ∀ (kind : Byte) (payload : List Byte) (s : State), payload.length ≤ 249 → s.link.receiver = .hunting →
    execAll ((0xC5 :: requestFrame kind payload).map Instr.hostOctetReceived) s = exec (commandOf kind payload) s

/-- The octets of a loop reply, taken one by one while the exchange awaits it, act as the completed reply. That a reply of
one octet is whole, and how it is judged, is the model's reading [log 21]. -/
def Obligations.LoopReplyOctetsActAsTheReply : Prop :=
  ∀ (e : Exchange) (limit : Nat) (octets : List Byte) (s : State),
    s.loop.exchange = some e → e.phase = .awaiting limit → loopReplyWhole octets = true →
    execAll (octets.map Instr.loopOctetReceived) s = exec (.loopReplyComplete octets) s

/-- Every request of the tables is checked in the order of R178 and answered by the first check that fails; one that
completes during a reply is discarded (R177). One that names a section, generator, switch point, station or vehicle
outside its range is answered BAD ARGUMENT and changes nothing. -/
def Obligations.RequestChecksInTheirOrder : Prop :=
  (∀ (kind : Byte) (p : List Byte) (s : State), ∃ t, exec (commandOf kind p) s = .next t ∧
    (s.link.reply.isSome = true → t = hunting s) ∧
    (s.link.reply = none → s.link.startPeriod.isSome = true → t = answered kind .busy [] s) ∧
    (Reachable s →
      (requestKinds.contains kind.toNat = false → t = answered kind .unknownKind [] s) ∧
      (requestKinds.contains kind.toNat = true → kindSize kind p ≠ some p.length → t = answered kind .badLength [] s) ∧
      (kindSize kind p = some p.length → s.halted = true → haltKinds.contains kind.toNat = false →
        t = answered kind .halted [] s) ∧
      (kindSize kind p = some p.length → (s.halted = true → haltKinds.contains kind.toNat = true) →
        t.link.reply.isSome = true ∧ ∀ r, t.link.reply = some r →
          r.kind = kind ∧ r.status ≠ .busy ∧ r.status ≠ .unknownKind ∧ r.status ≠ .badLength ∧ r.status ≠ .halted))) ∧
  ∀ (kind : Byte) (p : List Byte) (s : State), Ready s → kindSize kind p = some p.length →
    (kind.toNat ∈ [0x01, 0x02, 0x03, 0x04, 0x08, 0x09, 0x0A, 0x0C, 0x0D, 0x0E, 0x10, 0x11, 0x14, 0x15, 0x16, 0x17, 0x18,
        0x19, 0x1A, 0x1B, 0x1C, 0x1D, 0x1E, 0x22] ∧ (octetAt p 0 = 0 ∨ 8 < octetAt p 0) ∨
      kind.toNat ∈ [0x30, 0x31, 0x32, 0x33, 0x34, 0x35] ∧ (octetAt p 0 = 0 ∨ 16 < octetAt p 0) ∨
      kind.toNat ∈ [0x38, 0x39, 0x3A] ∧ (octetAt p 0 = 0 ∨ 32 < octetAt p 0) ∨
      kind.toNat ∈ [0x2A, 0x2C, 0x2D] ∧ (halfAt p 0 = 0 ∨ 9999 < halfAt p 0) ∨
      kind.toNat = 0x2B ∧ (8 < octetAt p 0 ∧ octetAt p 0 ≠ 255 ∨ octetAt p 1 = 0 ∨ 64 < octetAt p 1)) →
    exec (commandOf kind p) s = .next (answered kind .badArgument [] s)

/-! ### Requests that read -/

/-- The GET requests of protection, measurement, conditions, capture, a section, its settings, backup trip and line tests
answer OK, in a halt too, with what the blocks hold, and change nothing else; GET TEST RESULT returns a section's last test
record or its absence, and refuses a section outside 1 to 8 (R90). The F of GET MEASUREMENT is the accumulator's as it
stands, so after a REBASE FILTER it is the rebased one, and the onset or release count of GET CONDITION is absent in the states that
use none: the model's choices [log 35], [log 41]. -/
def Obligations.ProtectionSectionAndTestReadsAnswer : Prop :=
  (∀ (n : Fin 8) (p : List Byte) (s : State), Reachable s → p.length = 1 → octetAt p 0 = number n →
    let f := s.fpus[n]
    let c := f.protection
    let g := s.gens[n]
    let b := s.caps[n]
    exec (.getProtection p) s = .next (answered 0x02 .ok
      [.nat 2 c.instant, .nat 1 c.window, .nat 2 c.riseStart, .nat 2 c.riseHold, .nat 2 c.stepBase, .nat 2 c.allowance,
        .nat 2 c.stepCeil, .nat 2 c.stepDuration, .nat 1 c.shift, .nat 2 c.level, .nat 2 c.duration,
        .nat 1 c.lossAction.code] s) ∧
    exec (.getMeasurement p) s = .next (answered 0x04 .ok
      ([.nat 1 f.state.code] ++ f.lossFields ++
        [.int 2 f.lastI, .nat 2 f.lastU, .int 2 f.lastD, .int 2 f.filtered, .nat 2 f.history.length,
          .nat 1 f.tracker.code] ++ f.tracker.fields ++ [.nat 2 f.sustained, .nat 2 f.seq.toNat]) s) ∧
    exec (.getCondition p) s = .next (answered 0x09 .ok
      (g.setting.fields ++ [.nat 1 g.out.code, fieldOpt 2 g.out.count, fieldMark (g.results.getD 0 false),
        fieldMark (g.results.getD 1 false), fieldMark (g.results.getD 2 false), fieldMark (g.results.getD 3 false),
        fieldMark g.combined]) s) ∧
    exec (.getCapture p) s = .next (answered 0x0D .ok
      [.nat 1 b.setting.mode.code, .nat 1 b.setting.decimation, .nat 1 b.setting.post, .nat 1 b.setting.watermark,
        .nat 1 (number b.setting.gen), .nat 1 b.state.code, .nat 2 b.entries.length, fieldMark b.overrun,
        .nat 2 b.decCount, .nat 2 b.remainder, fieldMark b.armed, fieldMark b.gate] s)) ∧
  (∀ (n : Sec) (p : List Byte) (s : State), Reachable s → p.length = 1 → octetAt p 0 = number n →
    let r := s.secs[n]
    let c := r.settings
    (∃ fields : List ReplyField, exec (.getSection p) s = .next (answered 0x14 .ok fields s) ∧
      fields.take 8 = [.nat 1 r.state.code, fieldMark r.held, .nat 2 r.attempt, .nat 2 r.limit, .nat 4 r.dead.first,
        .nat 4 r.dead.second, .nat 4 r.dead.third, fieldMark r.manual] ∧
      (fields.drop 8).take 13 = recordFields r.record ∧
      (fields.drop 21).take 9 = [.nat 2 r.holds.word, .nat 4 (r.holdTimer.getD 0),
        fieldOpt 4 (r.heldSince.map (·.toNat)), .nat 1 r.feedback.code, fieldMark r.asClosed, fieldMark r.tripLine,
        fieldMark r.closeLine, fieldMark r.testLine, fieldMark s.busTrip] ∧
      (s.halted = false → fields.drop 30 = [fieldTimer r.opening, fieldTimer r.deadTimer, fieldTimer r.closing,
        fieldTimer r.reclaim, fieldTimer r.holdLimit, fieldTimer r.discrepancy, fieldMark false]) ∧
      (s.halted = true → fields.drop 30 = List.replicate 6 (.absent 4) ++ [fieldMark true])) ∧
    exec (.getSectionSettings p) s = .next (answered 0x11 .ok
      [.nat 1 c.tests, .nat 4 c.dead.first, .nat 4 c.dead.second, .nat 4 c.dead.third, .nat 2 c.openLimit,
        .nat 2 c.closeLimit, .nat 2 c.reclaim, .nat 4 c.holdLimit, fieldMark c.leakHold, .nat 1 c.resistor,
        .nat 2 c.faultLevel, .nat 2 c.clearLevel, .nat 2 c.vehicle, .nat 2 c.settle] s) ∧
    exec (.getBackupTrip []) s = .next (answered 0x13 .ok [fieldMark s.backup] s)) ∧
  ∀ (n : Sec) (p : List Byte) (s : State), Reachable s → p.length = 1 →
    (octetAt p 0 = number n → ∀ d, s.secs[n].lastTest = some d →
      exec (.getTestResult p) s = .next (answered 0x22 .ok
        [.nat 1 d.result.code, .nat 1 d.reason.code, .nat 2 d.us, .nat 2 d.ub, .nat 2 d.rload, .nat 2 d.nPresent,
          .nat 2 d.rexp, .nat 2 d.rc, .nat 1 (number d.circuit), .nat 2 d.pairs, .nat 4 d.time.toNat] s)) ∧
    (octetAt p 0 = number n → s.secs[n].lastTest = none →
      exec (.getTestResult p) s = .next (answered 0x22 .ok
        [.absent 1, .absent 1, .absent 2, .absent 2, .absent 2, .absent 2, .absent 2, .absent 2, .absent 1, .absent 2,
          .absent 4] s)) ∧
    (octetAt p 0 = 0 ∨ 8 < octetAt p 0 → exec (.getTestResult p) s = .next (answered 0x22 .badArgument [] s)) ∧
    exec (.getTestStatus []) s = .next (answered 0x21 .ok
      ([.nat 1 s.arb.count, fieldNoOpt s.arb.holders[0], fieldNoOpt s.arb.holders[1]] ++
        s.arb.waiting.map (fun m => .nat 1 (number m)) ++
        contextFields s.arb.contexts[0] ++ contextFields s.arb.contexts[1]) s)

/-- GET VEHICLE returns the record of the number, or is refused with the number alone; LIST VEHICLES returns at most 32
matching records in slot order; GET VEHICLE TIMING the pair. GET SWITCH returns the whole record, GET STATION the station's
record and whether its exchange is in flight, GET LOOP STATUS the loop's. Each answers in a halt too and changes nothing
else. After the cycle timer has expired in RUNNING it is stopped, and its time remaining is shown as absent, and GET
SWITCH shows the queue's entries without their number: the model's choices [log 38], [log 46]. -/
def Obligations.VehicleSwitchAndLoopReadsAnswer : Prop :=
  (∀ (s : State), Reachable s →
    (∀ (p : List Byte) (i : Slot) (v : Vehicle), p.length = 2 → halfAt p 0 = v.number → 1 ≤ v.number → v.number ≤ 9999 →
      TableOk s → s.vt.slots[i] = some v →
      exec (.getVehicle p) s = .next (answered 0x2A .ok
        [.nat 1 (number i), .nat 2 v.number, .nat 1 (if v.active then 0 else 1), .nat 1 (numberOr0 v.sec),
          .nat 2 (faultWord v.leak v.dewired), .nat 1 (number v.lastStation), .nat 4 v.lastSeen.toNat,
          fieldTimer v.lostTimer, fieldTimer v.forgetTimer, fieldMark v.overdue, fieldNoOpt v.queue,
          fieldNoOpt v.occupied, fieldNoOpt (v.deferred.map (·.1)), fieldOpt 1 (v.deferred.map fun d => routeCode d.2)]
        s)) ∧
    (∀ p : List Byte, p.length = 2 → 1 ≤ halfAt p 0 → halfAt p 0 ≤ 9999 →
      (∀ (i : Slot) (v : Vehicle), s.vt.slots[i] = some v → v.number ≠ halfAt p 0) →
      exec (.getVehicle p) s = .next (answered 0x2A .refusedState (noVehicleFields (halfAt p 0)) s)) ∧
    (∀ (p : List Byte) (sel : Selector) (start : Slot), p.length = 2 → octetAt p 1 = number start →
      (octetAt p 0 = 0 ∧ sel = .of none ∨ octetAt p 0 = 255 ∧ sel = .all ∨
        ∃ m : Sec, octetAt p 0 = number m ∧ sel = .of (some m)) →
      ∃ shown rest : List (Slot × Vehicle),
        (∀ (i : Slot) (v : Vehicle), (i, v) ∈ shown ++ rest ↔
          s.vt.slots[i] = some v ∧ start ≤ i ∧ (sel = .all ∨ sel = .of v.sec)) ∧
        ((shown ++ rest).map (·.1)).Pairwise (· < ·) ∧ shown.length ≤ 32 ∧ (rest ≠ [] → shown.length = 32) ∧
        exec (.listVehicles p) s = .next (answered 0x2B .ok
          (shown.flatMap (fun (i, v) => [.nat 2 v.number, .nat 1 (number i), .nat 1 (if v.active then 0 else 1),
              .nat 1 (numberOr0 v.sec), .nat 2 (faultWord v.leak v.dewired)]) ++
            [.nat 1 (continuation shown rest)] ++
            match sel with
            | .of (some m) => [.nat 2 (s.present m), .nat 2 (s.active m), .nat 2 (s.leaking m), .nat 2 (s.dewired m)]
            | _ => []) s)) ∧
    exec (.getVehicleTiming []) s = .next (answered 0x29 .ok [.nat 4 s.vt.lostTime, .nat 4 s.vt.forgetTime] s)) ∧
  ∀ (s : State), Reachable s →
    (∀ (k : Sw) (p : List Byte), p.length = 1 → octetAt p 0 = number k →
      let w := s.sws[k]
      exec (.getSwitch p) s = .next (answered 0x35 .ok
        ([fieldNoOpt w.bound, .nat 1 w.station.code, fieldNoOpt w.feeding, .power w.power, .nat 1 w.default.code,
          .nat 2 w.tPole, .nat 4 w.tPass, .nat 2 w.tDrive, .nat 1 w.position.code, .nat 1 w.target.code,
          .nat 1 w.stage.code, .nat 2 w.failed, .nat 2 w.poles, fieldMark w.both, fieldOpt 2 w.occupant] ++
        w.queue.flatMap (fun e => [.nat 2 e.number, .nat 1 e.dir.code]) ++
        [.nat 1 w.lock.code, fieldTimer w.poleTimer.remaining, fieldTimer w.passTimer.remaining,
          fieldTimer w.driveTimer]) s)) ∧
    (∀ (a : Sta) (p : List Byte), p.length = 1 → octetAt p 0 = number a →
      let r := s.loop.stations[a]
      ∃ inFlight : List ReplyField,
        exec (.getStation p) s = .next (answered 0x3A .ok
          ([fieldOpt 1 r.role.kindCode] ++ r.role.fields ++
          [.nat 1 r.rate.code, .nat 1 r.relax, .nat 1 r.state.code, .nat 2 r.failures, fieldOpt 1 (r.mark.map markCode),
            .nat 1 r.lastFailure.code] ++ inFlight) s) ∧
        (∀ e, s.loop.exchange = some e → e.station = a → inFlight = [fieldMark true, .exchangePhase e.phase.index]) ∧
        ((∀ e, s.loop.exchange = some e → e.station ≠ a) → inFlight = [fieldMark false, .absent 1])) ∧
    (let l := s.loop;
      exec (.getLoopStatus []) s = .next (answered 0x3C .ok
        ([.nat 2 l.cycleTime, .cyclePhase l.running, fieldTimer l.cycleTimer, .nat 1 l.pollPos, .nat 1 l.censusPos,
          fieldMark l.censusDone, fieldMark l.late, fieldMark l.overrun] ++ exchangeFields l.exchange ++
          [fieldMark l.holding]) s))

/-! ### Requests that set the Sample side: protection, conditions, capture -/

/-- SET PROTECTION stores the whole record, each field held within its range and the rise hold and the step ceiling within
the request's own rise start and step base, and an unknown loss action is BAD ARGUMENT; REBASE FILTER in MEASURING sets the
accumulator to the latest current times 256, and in STARTING and LOST it is refused. Nothing else changes. -/
def Obligations.ProtectionIsSetAndTheFilterRebased : Prop :=
  ∀ (n : Sec) (p : List Byte) (s : State), Ready s → octetAt p 0 = number n →
    (p.length = 22 → 1 < octetAt p 21 → exec (.setProtection p) s = .next (answered 0x01 .badArgument [] s)) ∧
    (p.length = 22 → octetAt p 21 ≤ 1 →
      let start := max 1 (min (halfAt p 4) 32767)
      let base := max 1 (min (halfAt p 8) 16383)
      let c : Protection :=
        { instant := max 1 (min (halfAt p 1) 16383), window := max 1 (min (octetAt p 3) 16), riseStart := start
          riseHold := min (halfAt p 6) start, stepBase := base, allowance := min (halfAt p 10) 2000
          stepCeil := max base (min (halfAt p 12) 16383), stepDuration := max 4 (min (halfAt p 14) 400)
          shift := max 4 (min (octetAt p 16) 14), level := min (halfAt p 17) 16383, duration := max 1 (halfAt p 19)
          lossAction := if octetAt p 21 = 0 then .trip else .block }
      exec (.setProtection p) s = .next (answered 0x01 .ok c.fields
        { s with fpus := s.fpus.set n { s.fpus[n] with protection := c } })) ∧
    (p.length = 1 → s.fpus[n].state = .measuring →
      exec (.rebaseFilter p) s = .next (answered 0x03 .ok [.int 2 s.fpus[n].lastI]
        { s with fpus := s.fpus.set n { s.fpus[n] with acc := 256 * s.fpus[n].lastI } })) ∧
    (p.length = 1 → s.fpus[n].state ≠ .measuring →
      exec (.rebaseFilter p) s = .next (answered 0x03 .refusedState [.int 2 (s.fpus[n].acc >>> (8 : Nat))] s))

/-- SET CONDITION returns the generator to OFF, closing its gate at the buffers that name it, and stores the record; ACK
CONDITION returns a LATCHED generator to OFF likewise and is refused in any other state. A section outside 1 to 8, a combine
mode, a latch code or a comparator that names nothing, or an action set above 7 is BAD ARGUMENT; that a latch code above 1
is one of these, and an action set above 7, is the model's reading [log 20]. -/
def Obligations.ConditionRequestsReturnToOff : Prop :=
  ∀ (g : Gen) (p : List Byte) (s : State), Ready s → octetAt p 0 = number g →
    let closed : Vector Capture 8 := s.caps.map fun b =>
      if s.gens[g].gateOpen = true ∧ b.setting.mode = .onCondition ∧ b.setting.gen = g then { b with gate := false } else b
    (kindSize 0x08 p = some p.length →
      (∀ (sec : Sec) (inputs : List Comparator), octetAt p 1 = number sec → octetAt p 2 ≤ 1 → octetAt p 7 ≤ 1 →
        octetAt p 8 ≤ 7 → inputs.length = octetAt p 9 →
        (∀ i : Fin inputs.length, comparatorOf (octetAt p (10 + 3 * i.val)) (halfAt p (11 + 3 * i.val))
          (signedAt p (11 + 3 * i.val)) = some inputs[i]) →
        let c : Condition :=
          { sec, inputs, all := octetAt p 2 == 1, onset := halfAt p 3, release := halfAt p 5, latch := octetAt p 7 == 1
            notice := octetAt p 8 % 2 == 1, trip := octetAt p 8 / 2 % 2 == 1, capture := octetAt p 8 / 4 == 1 }
        exec (.setCondition p) s = .next (answered 0x08 .ok (c.fields ++ [.nat 1 0])
          { s with gens := s.gens.set g { s.gens[g] with out := .off, setting := c }, caps := closed })) ∧
      (octetAt p 1 = 0 ∨ 8 < octetAt p 1 ∨ 1 < octetAt p 2 ∨ 1 < octetAt p 7 ∨ 7 < octetAt p 8 ∨
          (∃ i < octetAt p 9, 7 < octetAt p (10 + 3 * i)) →
        exec (.setCondition p) s = .next (answered 0x08 .badArgument [] s))) ∧
    (p.length = 1 →
      (s.gens[g].out = .latched → exec (.ackCondition p) s = .next (answered 0x0A .ok [.nat 1 0]
        { s with gens := s.gens.set g { s.gens[g] with out := .off }, caps := closed })) ∧
      (s.gens[g].out ≠ .latched →
        exec (.ackCondition p) s = .next (answered 0x0A .refusedState [.nat 1 s.gens[g].out.code] s)))

/-- SET CAPTURE stores the clamped record and restarts the buffer in its mode's first state, in GATED with the named
generator's gate; FETCH CAPTURE removes the oldest entries, as many as asked from 1 to 16 and held, clears the overrun flag
and re-arms the watermark when fewer than W are left, in a halt too. -/
def Obligations.CaptureIsSetAndFetched : Prop :=
  ∀ (n : Sec) (g : Gen) (mode : CaptureMode) (p : List Byte) (s : State), octetAt p 0 = number n →
    let b := s.caps[n]
    (Ready s → p.length = 6 → octetAt p 1 = mode.code → octetAt p 5 = number g →
      let c : CaptureSetting :=
        { mode, decimation := max 1 (min (octetAt p 2) 16), post := min (octetAt p 3) 63
          watermark := max 1 (min (octetAt p 4) 64), gen := g }
      let first : CaptureState :=
        match mode with
        | .off => .idle | .fill => .filling | .ring => .ringing | .freezeOnTrip => .awaitTrip | .onCondition => .gated
      exec (.setCapture p) s = .next (answered 0x0C .ok
        [.nat 1 mode.code, .nat 1 c.decimation, .nat 1 c.post, .nat 1 c.watermark, .nat 1 (number g), .nat 1 first.code]
        { s with caps := s.caps.set n { b with
            setting := c, state := first, entries := [], overrun := false, decCount := 0, remainder := 0, armed := true
            gate := if mode = .onCondition then s.gens[g].gateOpen else b.gate } })) ∧
    (Reachable s → p.length = 2 →
      let count := max 1 (min (octetAt p 1) 16)
      ∃ out left : List CaptureEntry, b.entries = out ++ left ∧ out.length = min count b.entries.length ∧
        exec (.fetchCapture p) s = .next (answered 0x0E .ok
          (out.flatMap CaptureEntry.fields ++
            [.nat 2 out.length, .nat 2 left.length, .nat 1 b.state.code, fieldMark b.overrun])
          { s with caps := s.caps.set n { b with
              entries := left, overrun := false, armed := b.armed || decide (left.length < b.setting.watermark) } }))

/-! ### Section control: requests -/

/-- CLOSE SECTION in OPEN, the breaker reading OPEN and no hold present, begins a manual sequence and joins the test list;
with a hold present it is refused by the holds, and in any other state or reading by the state. -/
def Obligations.CloseSectionBeginsAManualSequence : Prop :=
  ∀ (n : Sec) (p : List Byte) (s : State), Ready s → p.length = 1 → octetAt p 0 = number n →
    let r := s.secs[n]
    let limit := max r.settings.tests 1
    (TestsOk s → GrantsOk s → r.state = .opened → r.feedback = .opened →
      r.holds = ⟨false, false, false, false, false⟩ →
      let t := s.joining n { r with dead := r.settings.dead, limit, attempt := limit, manual := true }
      exec (.closeSection p) s =
        .next (answered 0x15 .ok [.nat 1 t.secs[n].state.code, .nat 2 limit, .nat 2 0] t)) ∧
    (r.state = .opened → r.feedback = .opened →
      (r.holds.timer || r.holds.leak || r.holds.dewired || r.holds.switchLock || r.holds.noSupply) = true →
      exec (.closeSection p) s =
        .next (answered 0x15 .refusedHold [.nat 1 8, .nat 2 r.attempt, .nat 2 r.holds.word] s)) ∧
    (r.state ≠ .opened ∨ r.feedback ≠ .opened →
      exec (.closeSection p) s =
        .next (answered 0x15 .refusedState [.nat 1 r.state.code, .nat 2 r.attempt, .nat 2 r.holds.word] s))

/-- OPEN SECTION opens a section in DEAD_TIME, TEST_WAIT, LINE_TEST or HELD at once, off the test list and off its
circuit, and is refused in OPEN, LOCKOUT, ISOLATED and BREAKER_FAIL. -/
def Obligations.OpenSectionEndsASequence : Prop :=
  ∀ (n : Sec) (p : List Byte) (s : State), Ready s → p.length = 1 → octetAt p 0 = number n →
    let r := s.secs[n]
    let opened := r.standingOpen .opened
    let fields : List ReplyField := [.nat 1 8, .nat 2 r.attempt, .nat 2 opened.holds.word]
    (r.state = .deadTime ∨ r.state = .held →
      exec (.openSection p) s = .next (answered 0x16 .ok fields { s with secs := s.secs.set n opened })) ∧
    (r.state = .testWait →
      exec (.openSection p) s = .next (answered 0x16 .ok fields
        { s with secs := s.secs.set n opened, arb := { s.arb with waiting := s.arb.waiting.filter (· ≠ n) } })) ∧
    (∀ c : Circuit, TestsOk s → r.state = .lineTest → s.arb.holders[c] = some n → s.arb.waiting = [] →
      exec (.openSection p) s = .next (answered 0x16 .ok fields
        { s with
          secs := s.secs.set n opened
          arb := { s.arb with holders := s.arb.holders.set c none, contexts := s.arb.contexts.set c none } })) ∧
    (r.state = .opened ∨ r.state = .lockout ∨ r.state = .isolated ∨ r.state = .breakerFail →
      exec (.openSection p) s =
        .next (answered 0x16 .refusedState [.nat 1 r.state.code, .nat 2 r.attempt, .nat 2 r.holds.word] s))

/-- OPEN SECTION (cause MANUAL) and INTERTRIP start a trip in CLOSED, RECLAIM and CLOSING: a new trip record with the
latest values, a new sequence from CLOSED, TRIPPING under opening supervision, the Capture Buffer triggered, UNPOWERED
reported. In TRIPPING they join the trip, its complete flag staying as the first request found it, which is the model's
choice [log 36]; in the other states INTERTRIP is answered and discarded. -/
def Obligations.HostTripRequestsStartOrJoinATrip : Prop :=
  ∀ (n : Sec) (p : List Byte) (s : State) (c : Instr) (kind : Byte) (cause : Cause), Ready s → p.length = 1 →
    octetAt p 0 = number n →
    (c = .openSection p ∧ kind = 0x16 ∧ cause = .manual ∨ c = .intertrip p ∧ kind = 0x1B ∧ cause = .intertrip) →
    let r := s.secs[n]
    let f := s.fpus[n]
    let b := s.caps[n]
    (∀ o : Origin, r.feedback ≠ .opened → (b.state = .awaitTrip → b.setting.post ≠ 0) →
      (r.state = .closed ∧ o = .closed ∨ r.state = .reclaim ∧ o = .reclaim ∨ r.state = .closing ∧ o = .closing) →
      let r' : Section := { r.standing .tripping with
        tripLine := true, opening := some r.settings.openLimit, trippingMs := 0
        record := some
          { first := cause, causes := [cause], principal := cause, complete := decide (f.state ≠ .lost), origin := o
            values := ⟨f.lastI, f.lastD, 0, f.acc >>> (8 : Nat), s.active n, f.lastSeq, s.clock⟩, openingTime := none }
        attempt := if o = .closed then 0 else r.attempt, limit := if o = .closed then r.settings.tests else r.limit
        dead := if o = .closed then r.settings.dead else r.dead, manual := if o = .closed then false else r.manual }
      let t : State := { s with
        secs := s.secs.set n r'
        caps := if b.state = .awaitTrip then
            s.caps.set n { b with remainder := b.setting.post, trigger := some cause, state := .postTrigger }
          else s.caps }
      exec c s = .next (answered kind .ok [.nat 1 1, .nat 2 r'.attempt, .nat 2 r.holds.word]
        (if o = .closing then t else t.reported n false))) ∧
    (∀ tr : TripRecord, r.state = .tripping → r.record = some tr →
      let joined : TripRecord :=
        if cause ∈ tr.causes then tr
        else
          { tr with
            causes := tr.causes ++ [cause]
            principal := if cause.priority ≤ tr.principal.priority then tr.principal else cause }
      exec c s = .next (answered kind .ok [.nat 1 1, .nat 2 r.attempt, .nat 2 r.holds.word]
        { s with secs := s.secs.set n { r with record := some joined } })) ∧
    (r.state ∉ [.closed, .reclaim, .closing, .tripping] → cause = .intertrip →
      exec c s = .next (answered kind .ok [.nat 1 r.state.code, .nat 2 r.attempt, .nat 2 r.holds.word] s))

/-- FORCE CLOSE moves a HELD section to CLOSING with its close line asserted, unless DEWIRED_VEHICLE or SWITCH_LOCK is
present. CLEAR LOCKOUT, ISOLATE and DEISOLATE move a section between OPEN, LOCKOUT and ISOLATED, clearing the manual flag
and NO_SUPPLY. Each is refused from any other state. -/
def Obligations.ForceCloseAndLockoutRequestsMoveTheSection : Prop :=
  ∀ (n : Sec) (p : List Byte) (s : State), Ready s → p.length = 1 → octetAt p 0 = number n →
    let r := s.secs[n]
    let refused (kind : Byte) (status : Status) : State :=
      answered kind status [.nat 1 r.state.code, .nat 2 r.attempt, .nat 2 r.holds.word] s
    let closing : Section :=
      { r.standing .closing with tripLine := false, closeLine := true, closing := some r.settings.closeLimit }
    (r.state = .held → r.holds.dewired = false → r.holds.switchLock = false →
      r.feedback ≠ .closed → (r.feedback = .discrepant → r.asClosed = false) →
      exec (.forceClose p) s = .next (answered 0x17 .ok [.nat 1 5, .nat 2 r.attempt, .nat 2 r.holds.word]
        { s with secs := s.secs.set n closing })) ∧
    (r.state = .held → r.holds.dewired = true ∨ r.holds.switchLock = true →
      exec (.forceClose p) s = .next (refused 0x17 .refusedHold)) ∧
    (r.state ≠ .held → exec (.forceClose p) s = .next (refused 0x17 .refusedState)) ∧
    ∀ (c : Instr) (kind : Byte) (st : SecState) (from_ : List SecState),
      (c = .clearLockout p ∧ kind = 0x18 ∧ st = .opened ∧ from_ = [.lockout] ∨
        c = .isolate p ∧ kind = 0x19 ∧ st = .isolated ∧ from_ = [.opened, .lockout] ∨
        c = .deisolate p ∧ kind = 0x1A ∧ st = .opened ∧ from_ = [.isolated]) →
      let r' : Section := { r.standingOpen st with manual := false }
      (r.state ∈ from_ → exec c s = .next (answered kind .ok [.nat 1 st.code, .nat 2 r.attempt, .nat 2 r'.holds.word]
        { s with secs := s.secs.set n r' })) ∧
      (r.state ∉ from_ → exec c s = .next (refused kind .refusedState))

/-- HOLD RECLOSE sets the hold timer and the hold TIMER, EXTEND HOLD adds to a running timer and is refused at 0, RELEASE
HOLD and the timer's expiry remove both; a held section whose last hold goes joins the test list. -/
def Obligations.HoldTimerSetsTheTimerHold : Prop :=
  ∀ (n : Sec) (s : State), s.halted = false →
    let r := s.secs[n]
    let without : Section := { r with holdTimer := none, holds := { r.holds with timer := false } }
    let stays := r.state ≠ .deadTime ∨ r.held = false ∨ without.holds ≠ ⟨false, false, false, false, false⟩
    (∀ p : List Byte, Ready s → p.length = 5 → octetAt p 0 = number n →
      let time := max 1 (min (wideAt p 1) 3600000)
      let holds : Holds := { r.holds with timer := true }
      exec (.holdReclose p) s = .next (answered 0x1C .ok [.nat 4 time, .nat 2 holds.word]
        { s with secs := s.secs.set n { r with holdTimer := some time, holds } }) ∧
      (∀ left, r.holdTimer = some left →
        let sum := min 3600000 (left + time)
        exec (.extendHold p) s = .next (answered 0x1D .ok [.nat 4 sum, .nat 2 r.holds.word]
          { s with secs := s.secs.set n { r with holdTimer := some sum } })) ∧
      (r.holdTimer = none →
        exec (.extendHold p) s = .next (answered 0x1D .refusedState [.nat 4 0, .nat 2 r.holds.word] s))) ∧
    (∀ p : List Byte, Ready s → p.length = 1 → octetAt p 0 = number n →
      (stays → exec (.releaseHold p) s = .next (answered 0x1E .ok [.nat 4 0, .nat 2 without.holds.word]
        { s with secs := s.secs.set n without })) ∧
      (¬ stays → TestsOk s → GrantsOk s →
        exec (.releaseHold p) s = .next (answered 0x1E .ok [.nat 4 0, .nat 2 0] (s.joining n without)))) ∧
    (∀ left, r.holdTimer = some left →
      (stays → exec (.holdTimerExpiry n) s = .next { s with secs := s.secs.set n without }) ∧
      (¬ stays → TestsOk s → GrantsOk s → exec (.holdTimerExpiry n) s = .next (s.joining n without)))

/-- SET SECTION stores the whole record, each field within its range and the clear level at least the fault level, and
forms the LEAK hold again at once; SET BACKUP TRIP stores its setting. An unknown leak hold code is BAD ARGUMENT by R48; that
a backup trip code above 1 is so too is the model's reading [log 20]. -/
def Obligations.SetSectionStoresTheClampedRecord : Prop :=
  ∀ (n : Sec) (p q : List Byte) (s : State), Ready s →
    (p.length = 34 → octetAt p 0 = number n → 1 < octetAt p 24 →
      exec (.setSection p) s = .next (answered 0x10 .badArgument [] s)) ∧
    (p.length = 34 → octetAt p 0 = number n → octetAt p 24 ≤ 1 →
      let r := s.secs[n]
      let fault := max 10 (min (halfAt p 26) 5000)
      let dead (k : Nat) := max 500 (min (wideAt p k) 120000)
      let c : SectionSettings :=
        { tests := min (octetAt p 1) 3, dead := ⟨dead 2, dead 6, dead 10⟩, openLimit := max 20 (min (halfAt p 14) 500)
          closeLimit := max 50 (min (halfAt p 16) 1000), reclaim := max 1000 (min (halfAt p 18) 60000)
          holdLimit := max 10000 (min (wideAt p 20) 3600000), leakHold := octetAt p 24 == 1
          resistor := max 1 (octetAt p 25), faultLevel := fault, clearLevel := max fault (min (halfAt p 28) 20000)
          vehicle := max 100 (min (halfAt p 30) 60000), settle := max 50 (min (halfAt p 32) 2000) }
      let r' : Section := { r with settings := c, holds := { r.holds with
        leak := decide (0 < s.leaking n) && c.leakHold, dewired := decide (0 < s.dewired n) } }
      (r.state ≠ .deadTime ∨ r.held = false ∨ r'.holds ≠ ⟨false, false, false, false, false⟩ →
        exec (.setSection p) s = .next (answered 0x10 .ok c.fields { s with secs := s.secs.set n r' })) ∧
      (r.state = .deadTime → r.held = true → r'.holds = ⟨false, false, false, false, false⟩ → TestsOk s → GrantsOk s →
        exec (.setSection p) s = .next (answered 0x10 .ok c.fields (s.joining n r')))) ∧
    (q.length = 1 →
      (octetAt q 0 ≤ 1 → exec (.setBackupTrip q) s =
        .next (answered 0x12 .ok [.nat 1 (octetAt q 0)] { s with backup := octetAt q 0 == 1 })) ∧
      (1 < octetAt q 0 → exec (.setBackupTrip q) s = .next (answered 0x12 .badArgument [] s)))

/-! ### Section control: readings and expiries -/

/-- A reading of OPEN in TRIPPING records the opening time, queues TRIP and moves the section by the first line of R52's
table that applies: OPEN, LOCKOUT, or DEAD_TIME with the dead time numbered one more than the attempt count; in a halt
always LOCKOUT. In CLOSED and RECLAIM it is a BREAKER_OWN trip that leaves TRIPPING at once in the same way. In OPEN,
LOCKOUT and ISOLATED it releases the trip line, which a halt keeps asserted, and ends opening supervision; in every other
state it changes only the reading. -/
def Obligations.OpenReadingMovesTheSection : Prop :=
  ∀ (n : Sec) (s : State), s.secs[n].feedback ≠ .opened →
    let c : Instr := .breakerFeedbackChange n ⟨true, false⟩
    let old := s.secs[n]
    let read : Section := { old with feedback := .opened, asClosed := false, discrepancy := none }
    let tripped (tr : TripRecord) (next : SecState) : NoticeQueue := s.noticed .trip tr.principal.priority (.sec n)
      [word tr.principal.code, word (causeWord tr.causes), word next.code, word (tr.openingTime.getD 0)]
    let locked (attempt : Nat) (q : NoticeQueue) : NoticeQueue :=
      q.take s.clock .lockout 5 (.sec n) [0, word attempt]
    let dead (r : Section) : Section := { r.standing .deadTime with
      tripLine := true
      deadTimer := some (match r.attempt with | 0 => r.dead.first | 1 => r.dead.second | _ => r.dead.third) }
    (∀ tr₀ : TripRecord, old.state = .tripping → old.record = some tr₀ →
      let tr := { tr₀ with openingTime := some old.trippingMs }
      let r : Section := { read with record := some tr }
      let opens := s.halted = false ∧ .manual ∈ tr.causes
      let locks := ¬ opens ∧ (s.halted = true ∨ .bus ∈ tr.causes ∨ .instant ∈ tr.causes ∧ tr.origin = .reclaim ∨
        tr.origin = .sequence ∨ r.manual = true ∨ r.limit ≤ r.attempt)
      (opens → exec c s =
        .next { s with secs := s.secs.set n (r.standingOpen .opened), notices := tripped tr .opened }) ∧
      (locks → exec c s = .next { s with
        secs := s.secs.set n { r.standingOpen .lockout with tripLine := s.halted }
        notices := locked r.attempt (tripped tr .lockout) }) ∧
      (¬ opens → ¬ locks → exec c s =
        .next { s with secs := s.secs.set n (dead r), notices := tripped tr .deadTime })) ∧
    (∀ o : Origin, old.state = .closed ∧ o = .closed ∨ old.state = .reclaim ∧ o = .reclaim →
      s.caps[n].state ≠ .awaitTrip →
      let f := s.fpus[n]
      let tr : TripRecord :=
        { first := .breakerOwn, causes := [.breakerOwn], principal := .breakerOwn, complete := decide (f.state ≠ .lost)
          values := ⟨f.lastI, f.lastD, 0, f.acc >>> (8 : Nat), s.active n, f.lastSeq, s.clock⟩, origin := o
          openingTime := some 0 }
      let r : Section := { read with
        record := some tr, trippingMs := 0
        attempt := if o = .closed then 0 else old.attempt, limit := if o = .closed then old.settings.tests else old.limit
        dead := if o = .closed then old.settings.dead else old.dead
        manual := if o = .closed then false else old.manual }
      (s.halted = true ∨ r.manual = true ∨ r.limit ≤ r.attempt → exec c s = .next (State.reported n false { s with
        secs := s.secs.set n { r.standingOpen .lockout with tripLine := s.halted }
        notices := locked r.attempt (tripped tr .lockout) })) ∧
      (s.halted = false → r.manual = false → r.attempt < r.limit → exec c s = .next (State.reported n false { s with
        secs := s.secs.set n (dead r), notices := tripped tr .deadTime }))) ∧
    (old.state = .opened ∨ old.state = .lockout ∨ old.state = .isolated → exec c s =
      .next { s with secs := s.secs.set n { read with opening := none, tripLine := s.halted } }) ∧
    (old.state ∈ [.deadTime, .testWait, .lineTest, .closing, .held, .breakerFail] → exec c s =
      .next { s with secs := s.secs.set n read })

/-- A reading of CLOSED, or the expiry of the discrepancy timer, recloses a CLOSING section into RECLAIM and takes a local
close of a section whose trip line is released; in DEAD_TIME or HELD it begins a trip of origin SEQUENCE. In a halt a
reading of CLOSED is a local close in OPEN, LOCKOUT and ISOLATED, its trip line staying asserted. TRAVEL, and DISCREPANT
until its timer expires, change only the reading. -/
def Obligations.ClosedReadingReclosesOrIsALocalClose : Prop :=
  ∀ (n : Sec) (s : State) (c : Instr),
    let r := s.secs[n]
    let byTimer := c = .discrepancyTimerExpiry n ∧ r.discrepancy.isSome = true
    let read : Section :=
      if c = .discrepancyTimerExpiry n then { r with asClosed := true, discrepancy := none }
      else { r with feedback := .closed, asClosed := false, discrepancy := none }
    let notices := if c = .discrepancyTimerExpiry n then s.noticed .breakerDiscrepancy 5 (.sec n) [word r.state.code]
      else s.notices
    let localClose : State := State.reported n true { s with secs := s.secs.set n { read.standing .closed with
      tripLine := s.halted, attempt := 0, manual := false, holds := { r.holds with noSupply := false } } }
    let closes := notices.take s.clock .localClose 6 (.sec n) [word r.state.code]
    (s.halted = false → c = .breakerFeedbackChange n ⟨false, true⟩ ∧ r.feedback ≠ .closed ∨ byTimer →
      (r.state = .closing →
        let r' : Section := { read.standing .reclaim with tripLine := false, reclaim := some r.settings.reclaim }
        let t := State.reported n true { s with secs := s.secs.set n r' }
        exec c s = .next { t with
          notices := notices.take s.clock .reclosed 2 (.sec n) [word r.attempt, word (markCode r.manual)] }) ∧
      (r.state = .opened ∨ r.state = .lockout ∨ r.state = .isolated → r.tripLine = false →
        exec c s = .next { localClose with notices := closes }) ∧
      (r.state = .closed ∨ r.state = .reclaim ∨ r.state = .tripping ∨ r.state = .breakerFail ∨
          (r.state = .opened ∨ r.state = .lockout ∨ r.state = .isolated) ∧ r.tripLine = true →
        exec c s = .next { s with secs := s.secs.set n read, notices }) ∧
      (r.state = .deadTime ∨ r.state = .held → s.caps[n].state ≠ .awaitTrip →
        let f := s.fpus[n]
        let r' : Section := { read.standing .tripping with
          tripLine := true, opening := some r.settings.openLimit, trippingMs := 0
          record := some
            { first := .breakerOwn, causes := [.breakerOwn], principal := .breakerOwn
              complete := decide (f.state ≠ .lost), origin := .sequence, openingTime := none
              values := ⟨f.lastI, f.lastD, 0, f.acc >>> (8 : Nat), s.active n, f.lastSeq, s.clock⟩ } }
        exec c s = .next { s with secs := s.secs.set n r', notices := closes })) ∧
    (s.halted = true → c = .breakerFeedbackChange n ⟨false, true⟩ → r.feedback ≠ .closed →
      (r.state = .opened ∨ r.state = .lockout ∨ r.state = .isolated →
        exec c s = .next { localClose with notices := closes }) ∧
      (r.state = .closed ∨ r.state = .reclaim ∨ r.state = .tripping ∨ r.state = .breakerFail →
        exec c s = .next { s with secs := s.secs.set n read })) ∧
    (s.halted = true → exec (.discrepancyTimerExpiry n) s = .next s) ∧
    (r.feedback ≠ .travel → exec (.breakerFeedbackChange n ⟨false, false⟩) s =
      .next { s with secs := s.secs.set n { r with feedback := .travel, asClosed := false, discrepancy := none } }) ∧
    (r.feedback ≠ .discrepant → exec (.breakerFeedbackChange n ⟨true, true⟩) s =
      .next { s with secs := s.secs.set n { r with feedback := .discrepant, asClosed := false, discrepancy := some 200 } })

/-- The dead timer's expiry removes NO_SUPPLY, and the section joins the test list, or is held with RECLOSE HELD while any
other hold stands. The close supervision's sends a CLOSING section to LOCKOUT, the hold limit's a held one, and the
reclaim timer's ends the sequence in CLOSED. -/
def Obligations.SectionTimersExpire : Prop :=
  ∀ (n : Sec) (s : State) (left : Nat), s.halted = false →
    let r := s.secs[n]
    let supplied : Section := { r with deadTimer := none, holds := { r.holds with noSupply := false } }
    let none_ : Holds := ⟨false, false, false, false, false⟩
    (r.state = .deadTime → r.deadTimer = some left → supplied.holds = none_ → TestsOk s → GrantsOk s →
      exec (.deadTimerExpiry n) s = .next (s.joining n supplied)) ∧
    (r.state = .deadTime → r.deadTimer = some left → supplied.holds ≠ none_ →
      exec (.deadTimerExpiry n) s = .next { s with
        secs := s.secs.set n
          { supplied with held := true, heldSince := some s.clock, holdLimit := some r.settings.holdLimit }
        notices := s.noticed .recloseHeld 3 (.sec n) [word supplied.holds.word] }) ∧
    (r.state = .closing → r.closing = some left →
      exec (.closeSupervisionExpiry n) s = .next { s with
        secs := s.secs.set n (r.standingOpen .lockout)
        notices := (s.noticed .closeFail 6 (.sec n) [word r.feedback.code]).take s.clock .lockout 5 (.sec n)
          [3, word r.attempt] }) ∧
    (r.state = .deadTime ∧ r.held = true ∨ r.state = .held → r.holdLimit = some left →
      exec (.holdLimitExpiry n) s = .next { s with
        secs := s.secs.set n (r.standingOpen .lockout)
        notices := (s.noticed .holdExpired 5 (.sec n) [word r.holds.word]).take s.clock .lockout 5 (.sec n)
          [2, word r.attempt] }) ∧
    (r.state = .reclaim → r.reclaim = some left →
      let r' : Section := { r.standing .closed with
        tripLine := false, attempt := 0, manual := false, holds := { r.holds with noSupply := false } }
      exec (.reclaimExpiry n) s = .next { s with secs := s.secs.set n r' })

/-- Opening supervision that expires takes the section to BREAKER_FAIL. With backup trip on and no bus trip standing the
bus trip is asserted and every other section is tripped or locked out; otherwise the part enters HALT, where every trip
line is asserted and drives are held. -/
def Obligations.OpeningSupervisionExpiryFailsTheBreaker : Prop :=
  ∀ (n : Sec) (s : State) (left : Nat), s.halted = false → TestsOk s →
    s.secs[n].state = .tripping ∨ s.secs[n].state.openLike = true → s.secs[n].opening = some left →
    ∃ t, exec (.openingSupervisionExpiry n) s = .next t ∧ t.secs[n].state = .breakerFail ∧
      t.secs[n].tripLine = true ∧ t.secs[n].opening = none ∧ t.secs[n].record = s.secs[n].record ∧
      t.clock = s.clock ∧ t.fpus = s.fpus ∧ t.gens = s.gens ∧ t.link = s.link ∧ t.vt.slots = s.vt.slots ∧
      (∀ m : Sec, t.secs[m].settings = s.secs[m].settings ∧ t.secs[m].feedback = s.secs[m].feedback) ∧
      (∀ m : Sec, m ≠ n → s.secs[m].state ∈ [.deadTime, .testWait, .lineTest, .held] → t.secs[m].state = .lockout) ∧
      (∀ m : Sec, m ≠ n → s.secs[m].state ∈ [.opened, .lockout, .isolated, .breakerFail] →
        t.secs[m].state = s.secs[m].state) ∧
      (∀ m : Sec, m ≠ n → s.secs[m].state ∈ [.closed, .reclaim, .closing] →
        (∃ tr, t.secs[m].record = some tr ∧ tr.first = .bus) ∧
        t.secs[m].state = if s.secs[m].feedback = .opened then .lockout else .tripping) ∧
      (∀ m : Sec, m ≠ n → s.secs[m].state = .tripping →
        t.secs[m].state = .tripping ∧ ∀ tr, s.secs[m].record = some tr → ∃ tr', t.secs[m].record = some tr' ∧
          .bus ∈ tr'.causes ∧ tr'.first = tr.first) ∧
      (s.busTrip = false → s.backup = true → t.busTrip = true ∧ t.halted = false ∧ t.loop = s.loop) ∧
      (s.busTrip = true ∨ s.backup = false → t.busTrip = s.busTrip ∧ t.halted = true ∧ t.loop.holding = true ∧
        ∀ m : Sec, t.secs[m].tripLine = true ∧ t.secs[m].closeLine = false ∧ t.secs[m].testLine = false)

/-- RELEASE BUS TRIP releases the bus trip and moves every section in BREAKER_FAIL to LOCKOUT once all of them read OPEN;
with none there, or one that reads otherwise, it is refused. -/
def Obligations.ReleaseBusTripEndsTheFailure : Prop :=
  ∀ (s : State), Ready s →
    (∀ first : Sec, s.secs[first].state = .breakerFail → (∀ m : Sec, s.secs[m].state = .breakerFail → first ≤ m) →
      (∀ m : Sec, s.secs[m].state = .breakerFail → s.secs[m].feedback = .opened) →
      ∃ t : State, exec (.releaseBusTrip []) s = .next (answered 0x1F .ok []
          { s with busTrip := false, secs := t.secs, notices := t.notices, draws := s.draws + 1 }) ∧
        (∀ m : Sec, s.secs[m].state = .breakerFail → t.secs[m] = s.secs[m].standingOpen .lockout) ∧
        (∀ m : Sec, s.secs[m].state ≠ .breakerFail → t.secs[m] = s.secs[m]) ∧
        (s.notices.overflow = false → s.notices.records.length < 47 →
          ∃ r, t.notices.records[s.notices.records.length]? = some r ∧ r.kind = .busTripReleased ∧ r.priority = 3 ∧
            r.source = .sec first ∧
            r.words = [BitVec.ofNat 16 ((List.finRange 8).countP fun m => s.secs[m].state = .breakerFail)])) ∧
    ((∀ m : Sec, s.secs[m].state ≠ .breakerFail) ∨
        (∃ m : Sec, s.secs[m].state = .breakerFail ∧ s.secs[m].feedback ≠ .opened) →
      exec (.releaseBusTrip []) s = .next (answered 0x1F .refusedState [] s))

/-! ### Line testing -/

/-- SET TEST CIRCUITS stores a count of 1 or 2; a count raised while circuit 2 is free grants it to the head of the list
at once, and a lowered count takes no circuit away. -/
def Obligations.SetTestCircuitsStoresTheCount : Prop :=
  ∀ (p : List Byte) (s : State), Ready s → p.length = 1 →
    let count := max 1 (min (octetAt p 0) 2)
    let fields (a : Arbiter) : List ReplyField :=
      [.nat 1 count, fieldNoOpt a.holders[0], fieldNoOpt a.holders[1]] ++ a.waiting.map fun m => .nat 1 (number m)
    (s.arb.waiting = [] ∨ count ≤ s.arb.held →
      exec (.setTestCircuits p) s =
        .next (answered 0x20 .ok (fields s.arb) { s with arb := { s.arb with count } })) ∧
    (∀ (n m : Sec) (rest : List Sec), s.arb.waiting = n :: rest → s.arb.holders[0] = some m → s.arb.holders[1] = none →
      s.secs[n].state = .testWait → 2 ≤ octetAt p 0 →
      let a : Arbiter :=
        { count := 2, waiting := rest, holders := s.arb.holders.set 1 (some n)
          contexts := s.arb.contexts.set 1 (some ⟨n, s.secs[n].settings.settle, []⟩) }
      exec (.setTestCircuits p) s = .next (answered 0x20 .ok (fields a)
        { s with
          arb := a
          secs := s.secs.set n { s.secs[n].standing .lineTest with
            tripLine := true, testLine := true
            attempt := if s.secs[n].manual then s.secs[n].attempt else s.secs[n].attempt + 1 } }))

/-- A settle timer that expires writes the section's last test record. Over fewer than eight pairs the result is NO_SUPPLY
with reason MEASUREMENT, and over a bus below 1600 with reason BUS_LOW, with a load resistance of 65535 and neither
expected resistance nor clearance level (R83); otherwise the load resistance, the expected resistance, the clearance level
and the classification follow their rules. -/
def Obligations.SettleExpiryClassifiesTheLine : Prop :=
  ∀ (c : Circuit) (s : State) (x : TestContext), s.arb.contexts[c] = some x → x.pairs.length ≤ 8 →
    let us := (x.pairs.map (·.1)).sum / x.pairs.length
    let ub := (x.pairs.map (·.2)).sum / x.pairs.length
    let k := s.secs[x.sec].settings
    ∃ t d, exec (.settleTimerExpiry c) s = .next t ∧ t.secs[x.sec].lastTest = some d ∧
      d.us = us ∧ d.ub = ub ∧ d.pairs = x.pairs.length ∧ d.circuit = c ∧ d.time = s.clock ∧
      d.nPresent = s.present x.sec ∧
      (x.pairs.length < 8 → d.result = .noSupply ∧ d.reason = .measurement ∧ d.rload = 65535 ∧ d.rexp = 0 ∧ d.rc = 0) ∧
      (x.pairs.length = 8 → ub < 1600 →
        d.result = .noSupply ∧ d.reason = .busLow ∧ d.rload = 65535 ∧ d.rexp = 0 ∧ d.rc = 0) ∧
      (x.pairs.length = 8 → 1600 ≤ ub →
        d.reason = .none ∧
        (ub ≤ us → d.rload = 65535) ∧
        (us < ub → d.rload = min (10 * k.resistor * us / (ub - us)) 65535) ∧
        (s.present x.sec = 0 → d.rexp = 65535) ∧
        (0 < s.present x.sec → d.rexp = k.vehicle / s.present x.sec) ∧
        d.rc = min k.clearLevel (d.rexp * 3 / 4) ∧
        (d.rc ≤ k.faultLevel → d.result = .inconclusive) ∧
        (k.faultLevel < d.rc → d.rc ≤ d.rload → d.result = .clear) ∧
        (k.faultLevel < d.rc → d.rload < d.rc → d.rload < k.faultLevel → d.result = .fault) ∧
        (k.faultLevel < d.rc → d.rload < d.rc → k.faultLevel ≤ d.rload → d.result = .inconclusive))

/-- A sample frame gives each open test context a pair, the section's voltage and the bus voltage, exactly when it vouches
for the section's two channels and for the bus channel; the window keeps the eight newest (R82). -/
def Obligations.VoltagePairsAreTaken : Prop :=
  ∀ (p : List Byte) (s : State), 38 ≤ p.length → ∃ t, exec (.sampleFrame p) s = .next t ∧
    t.arb = { s.arb with contexts := t.arb.contexts } ∧
    (∀ c : Circuit, s.arb.contexts[c] = none → t.arb.contexts[c] = none) ∧
    ∀ (c : Circuit) (x : TestContext), s.arb.contexts[c] = some x →
      let vouched := (p.getD 36 0 &&& p.getD 37 0).getLsbD x.sec.val = true ∧ octetAt p 35 % 2 = 1
      let pair := (halfAt p (17 + 2 * x.sec.val) % 4096, halfAt p 33 % 4096)
      (vouched → t.arb.contexts[c] = some { x with pairs := (pair :: x.pairs).take 8 }) ∧
      (¬ vouched → t.arb.contexts[c] = some x)

/-- The section in LINE_TEST takes its result: CLEAR closes it, FAULT goes on by lines 5 to 7 of R52, INCONCLUSIVE holds
it in HELD, NO_SUPPLY gives the attempt back; its circuit is released and TEST RESULT queued first. -/
def Obligations.TestResultMovesTheSection : Prop :=
  ∀ (c : Circuit) (n : Sec) (x : TestContext) (s : State), s.halted = false → TestsOk s → s.arb.waiting = [] →
    s.arb.contexts[c] = some x → x.sec = n → s.secs[n].feedback = .opened →
    let d := decideTest c x s
    let r : Section := { s.secs[n] with lastTest := some d }
    let ends (r' : Section) (more : NoticeQueue → NoticeQueue) : State :=
      { s with
        secs := s.secs.set n r'
        arb := { s.arb with holders := s.arb.holders.set c none, contexts := s.arb.contexts.set c none }
        notices := more (s.noticed .testResult (if d.result = .clear then 1 else 5) (.sec n)
          [word d.us, word d.ub, word d.rload, word (testWord d.result d.reason d.nPresent)]) }
    let dead (k : Nat) := match k with | 0 => r.dead.first | 1 => r.dead.first | 2 => r.dead.second | _ => r.dead.third
    (d.result = .clear → exec (.settleTimerExpiry c) s = .next (ends
      { r.standing .closing with tripLine := false, closeLine := true, closing := some r.settings.closeLimit } id)) ∧
    (d.result = .fault → r.manual = true ∨ r.limit ≤ r.attempt → exec (.settleTimerExpiry c) s = .next (ends
      (r.standingOpen .lockout) fun q => q.take s.clock .lockout 5 (.sec n) [1, word r.attempt])) ∧
    (d.result = .fault → r.manual = false → r.attempt < r.limit → exec (.settleTimerExpiry c) s = .next (ends
      { r.standing .deadTime with tripLine := true, deadTimer := some (dead (r.attempt + 1)) } id)) ∧
    (d.result = .inconclusive → exec (.settleTimerExpiry c) s = .next (ends
      { r.standing .held with
        tripLine := true, heldSince := some s.clock, holdLimit := some r.settings.holdLimit } id)) ∧
    (d.result = .noSupply → 1 ≤ r.attempt → exec (.settleTimerExpiry c) s = .next (ends
      { r.standing .deadTime with
        tripLine := true, holds := { r.holds with noSupply := true }
        attempt := if r.manual then r.attempt else r.attempt - 1
        deadTimer := some (dead (if r.manual then 1 else r.attempt)) } id))

/-! ### Vehicles -/

/-- SET VEHICLE TIMING stores the pair, the forget time at least the lost time; REMOVE VEHICLE frees the record of a
vehicle that is no occupant, withdrawn from its queue, and is refused for an occupant with 0 for the slot freed; CLEAR
FAULT removes the named faults the record carries and reports them, LEAK before DEWIRED, an order that is the model's
choice [log 37]. -/
def Obligations.VehicleRequestsEditTheTable : Prop :=
  ∀ (s : State), Ready s →
    (∀ p : List Byte, p.length = 8 →
      let lost := max 1000 (min (wideAt p 0) 3600000)
      let forget := max lost (min (wideAt p 4) 86400000)
      exec (.setVehicleTiming p) s = .next (answered 0x28 .ok [.nat 4 lost, .nat 4 forget]
        { s with vt := { s.vt with lostTime := lost, forgetTime := forget } })) ∧
    (∀ (p : List Byte) (i : Slot) (v : Vehicle), TableOk s → s.vt.slots[i] = some v → p.length = 2 →
      halfAt p 0 = v.number →
      (v.occupied.isSome = true → exec (.removeVehicle p) s =
        .next (answered 0x2C .refusedState [.nat 2 v.number, .nat 1 0] s)) ∧
      (v.occupied = none → ∃ t,
        exec (.removeVehicle p) s = .next (answered 0x2C .ok [.nat 2 v.number, .nat 1 (number i)] t) ∧
        t.vt = { s.vt with slots := s.vt.slots.set i none, fullArmed := true } ∧
        (∀ k : Sw, v.queue ≠ some k → t.sws[k] = s.sws[k]) ∧
        (∀ k : Sw, v.queue = some k → s.sws[k].occupant ≠ some v.number →
          t.sws[k].queue = s.sws[k].queue.filter fun e => e.number ≠ v.number) ∧
        (v.queue = none → t.notices = s.notices) ∧
        (v.leak = false → v.dewired = false → t.secs = s.secs ∧ t.arb = s.arb) ∧
        t.port = s.port ∧ t.fpus = s.fpus ∧ t.gens = s.gens ∧ t.caps = s.caps ∧ t.loop = s.loop ∧ t.link = s.link ∧
        t.clock = s.clock ∧ t.busTrip = s.busTrip ∧ t.halted = s.halted ∧ t.backup = s.backup)) ∧
    ∀ (p : List Byte) (i : Slot) (v : Vehicle), TableOk s → s.vt.slots[i] = some v → p.length = 3 →
      halfAt p 0 = v.number → 1 ≤ octetAt p 2 → octetAt p 2 ≤ 3 →
      let leak := v.leak && octetAt p 2 % 2 == 0
      let dewired := v.dewired && decide (octetAt p 2 < 2)
      let cleared (fault : Half) (q : NoticeQueue) : NoticeQueue :=
        q.take s.clock .vehicleFaultCleared 2 (.vehicle v.number) [fault, 2, word (numberOr0 v.sec)]
      let q := if leak = v.leak then s.notices else cleared 0 s.notices
      ∃ t, exec (.clearFault p) s = .next (answered 0x2D .ok [.nat 2 v.number, .nat 2 (faultWord leak dewired)] t) ∧
        t.vt = { s.vt with slots := s.vt.slots.set i (some { v with leak, dewired }) } ∧
        t.notices = (if dewired = v.dewired then q else cleared 1 q) ∧
        (v.sec = none ∨ leak = v.leak ∧ dewired = v.dewired → t.secs = s.secs ∧ t.arb = s.arb) ∧
        (∀ n : Sec, v.sec = some n → leak ≠ v.leak ∨ dewired ≠ v.dewired →
          t.secs[n].holds.leak = (decide (0 < t.leaking n) && s.secs[n].settings.leakHold) ∧
          t.secs[n].holds.dewired = decide (0 < t.dewired n)) ∧
        t.sws = s.sws ∧ t.port = s.port ∧ t.fpus = s.fpus ∧ t.gens = s.gens ∧ t.caps = s.caps ∧ t.loop = s.loop ∧
        t.link = s.link ∧ t.clock = s.clock ∧ t.busTrip = s.busTrip ∧ t.halted = s.halted ∧ t.backup = s.backup

/-- The lost timer's expiry makes an ACTIVE record LOST, withdrawn from a queue it does not occupy; the forget timer's
keeps an occupant or a DEWIRED record as overdue and frees any other. -/
def Obligations.LostAndForgetTimersExpire : Prop :=
  ∀ (i : Slot) (v : Vehicle) (s : State) (left : Nat), TableOk s → s.vt.slots[i] = some v →
    let lost : NoticeQueue := s.noticed .vehicleLost 3 (.vehicle v.number)
      [word (numberOr0 v.sec), word (number v.lastStation), v.lastSeen.setWidth 16]
    let put (v' : Vehicle) : VehicleTable := { s.vt with slots := s.vt.slots.set i (some v') }
    (v.active = true → v.lostTimer = some left →
      (v.queue = none ∨ v.occupied = v.queue → exec (.lostTimerExpiry i) s =
        .next { s with vt := put { v with active := false, lostTimer := none }, notices := lost }) ∧
      (∀ k : Sw, v.queue = some k → v.occupied ≠ some k → v.deferred = none → s.sws[k].lock ≠ .pinned →
          s.sws[k].holds v.number = true → s.sws[k].occupant ≠ some v.number →
        let w := { s.sws[k] with queue := s.sws[k].queue.filter fun e => e.number ≠ v.number }
        exec (.lostTimerExpiry i) s = .next { s with
          vt := put { v with active := false, lostTimer := none, queue := none, occupied := none }
          sws := s.sws.set k (w.serve s.halted), notices := lost })) ∧
    (v.forgetTimer = some left → v.active = false → v.occupied.isSome = true ∨ v.dewired = true →
      exec (.forgetTimerExpiry i) s = .next { s with
        vt := put { v with forgetTimer := none, overdue := true }
        notices := s.noticed .vehicleOverdue 4 (.vehicle v.number)
          [word (numberOr0 v.sec), word (faultWord v.occupied.isSome v.dewired)] }) ∧
    (v.forgetTimer = some left → v.occupied = none → v.dewired = false →
      ∃ t, exec (.forgetTimerExpiry i) s = .next t ∧
        t.vt = { s.vt with slots := s.vt.slots.set i none, fullArmed := true } ∧
        (v.queue = none → t.sws = s.sws ∧ t.notices = NoticeQueue.take (if v.active then lost else s.notices) s.clock
          .vehicleForgotten 1 (.vehicle v.number) [word (numberOr0 v.sec), v.lastSeen.setWidth 16]) ∧
        (v.leak = false → t.secs = s.secs ∧ t.arb = s.arb) ∧
        t.port = s.port ∧ t.fpus = s.fpus ∧ t.gens = s.gens ∧ t.caps = s.caps ∧ t.loop = s.loop ∧ t.link = s.link ∧
        t.clock = s.clock ∧ t.busTrip = s.busTrip ∧ t.halted = s.halted ∧ t.backup = s.backup)

/-- A poll's reply from a boundary station, with a new mark and one telegram of a vehicle that has no record, makes a
record in the lowest free slot: in the section of the side it goes to, ACTIVE, its timers started, VEHICLE NEW queued;
with the LEAK flag also VEHICLE FAULT and the section's LEAK hold. -/
def Obligations.TelegramOfANewVehicleMakesARecord : Prop :=
  ∀ (s : State) (e : Exchange) (o : List Byte) (num : Nat) (mark leak : Bool) (sideA sideB : Option Sec) (i : Slot),
    s.loop.exchange = some e → e.command = .poll → e.phase ≠ .sending → s.loop.Spent →
    let r := s.loop.stations[e.station]
    r.role = .boundary sideA sideB → r.mark ≠ some mark →
    o.length = 11 → octetSum o = 0 → octetAt o 0 = 11 → octetAt o 1 = number e.station →
    octetAt o 2 = (if mark then 131 else 3) → octetAt o 4 = 1 →
    halfAt o 5 = num → octetAt o 7 ≤ 2 → octetAt o 8 = (if leak then 1 else 0) → 1 ≤ octetAt o 9 → octetAt o 9 ≤ 2 →
    1 ≤ num → num ≤ 9999 →
    (∀ (j : Slot) (v : Vehicle), s.vt.slots[j] = some v → v.number ≠ num) →
    (∀ k : Sw, ∀ q ∈ s.sws[k].queue, q.number ≠ num) →
    s.vt.slots[i] = none → (∀ j : Slot, j < i → s.vt.slots[j].isSome = true) →
    let sec := if octetAt o 9 = 1 then sideB else sideA
    let made := s.noticed .vehicleNew 1 (.vehicle num) [word (number i), word (number e.station)]
    let v : Vehicle :=
      { number := num, active := true, sec, leak, dewired := false, lastStation := e.station, lastSeen := s.clock
        lostTimer := some s.vt.lostTime, forgetTimer := some s.vt.forgetTime, overdue := false, queue := none
        occupied := none, deferred := none }
    ∃ t, exec (.loopReplyComplete o) s = .next t ∧
      t.vt = { s.vt with slots := s.vt.slots.set i (some v) } ∧
      t.notices = (if leak then made.take s.clock .vehicleFault 5 (.vehicle num) [0, 0, word (numberOr0 sec)] else made) ∧
      (∀ n : Sec, sec = some n → leak = true → t.secs[n].holds.leak = s.secs[n].settings.leakHold) ∧
      (∀ n : Sec, sec ≠ some n → t.secs[n].holds = s.secs[n].holds) ∧
      t.loop = { s.loop with
        stations := s.loop.stations.set e.station { r with failures := 0, mark := some mark }
        exchange := none, running := false, overrun := false } ∧
      t.sws = s.sws ∧ t.fpus = s.fpus ∧ t.gens = s.gens ∧ t.caps = s.caps ∧ t.link = s.link ∧ t.clock = s.clock ∧
      t.busTrip = s.busTrip ∧ t.halted = s.halted

/-! ### Switch points -/

/-- CONFIGURE SWITCH stores the feeding section with its present power, the default direction and the three times within
their ranges, then serves the head if the frog may now be driven; it is refused while the frog is MOVING or has poles
under. With the lock DEWIRED, the SWITCH_LOCK hold moves to the new section. That the reply carries the five fields set, and
not the whole switch point record, is the model's choice [log 48]. -/
def Obligations.ConfigureSwitchStoresTheRecord : Prop :=
  ∀ (k : Sw) (n : Sec) (d : Direction) (p : List Byte) (s : State), Ready s → p.length = 11 →
    octetAt p 0 = number k → octetAt p 1 = number n → octetAt p 2 = d.code →
    let w := s.sws[k]
    let w' : SwitchPoint := { w with
      feeding := some n, default := d
      power := if w.feeding = some n then w.power else s.secs[n].state.powered
      tPole := max 500 (min (halfAt p 3) 20000), tPass := max 5000 (min (wideAt p 5) 600000)
      tDrive := max 500 (min (halfAt p 9) 20000) }
    let served : SwitchPoint :=
      match w.queue with
      | [] => w'
      | h :: _ =>
        if w.lock = .none ∧ w'.power = true ∧ w.bound.isSome = true ∧ w.station = .online ∧
            w.position ≠ h.dir.position then
          { w' with target := h.dir, stage := .pending, carried := false, position := .moving }
        else w'
    let fields : List ReplyField :=
      [.nat 1 (number n), .nat 1 d.code, .nat 2 w'.tPole, .nat 4 w'.tPass, .nat 2 w'.tDrive]
    (w.position = .moving ∨ 0 < w.poles →
      exec (.configureSwitch p) s = .next (answered 0x30 .refusedState
        [fieldNoOpt w.feeding, .nat 1 w.default.code, .nat 2 w.tPole, .nat 4 w.tPass, .nat 2 w.tDrive] s)) ∧
    (w.position ≠ .moving → w.poles = 0 → w.lock ≠ .dewired ∨ w.feeding = some n →
      exec (.configureSwitch p) s = .next (answered 0x30 .ok fields { s with sws := s.sws.set k served })) ∧
    (w.position ≠ .moving → w.poles = 0 → w.lock = .dewired → w.feeding ≠ some n →
      ∃ t, exec (.configureSwitch p) s = .next (answered 0x30 .ok fields t) ∧ t.sws = s.sws.set k w' ∧
        t.secs[n].holds.switchLock = true ∧
        (∀ m : Sec, w.feeding = some m → (t.secs[m].holds.switchLock = true ↔
          ∃ j : Sw, j ≠ k ∧ s.sws[j].feeding = some m ∧ s.sws[j].lock = .dewired)) ∧
        (∀ m : Sec, m ≠ n → w.feeding ≠ some m → t.secs[m].holds = s.secs[m].holds) ∧
        t.vt = s.vt ∧ t.loop = s.loop ∧ t.notices = s.notices ∧ t.fpus = s.fpus ∧ t.gens = s.gens ∧ t.caps = s.caps ∧
        t.link = s.link ∧ t.clock = s.clock ∧ t.busTrip = s.busTrip ∧ t.halted = s.halted)

/-- SET SWITCH drives an idle frog toward the direction given; PIN SWITCH pins a frog that stands at an end, with MISMATCH
when the head waits for the other, and is taken by a frog pinned already, which where it is MOVING or UNKNOWN is the model's
choice [log 18]; UNPIN SWITCH and CLEAR SWITCH LOCK make the lock NONE and serve the head. Each is
refused in every other state of the switch point. -/
def Obligations.SwitchRequestsMoveTheLockAndTheFrog : Prop :=
  ∀ (k : Sw) (s : State) (p : List Byte), Ready s → octetAt p 0 = number k →
    let w := s.sws[k]
    let fields (w : SwitchPoint) : List ReplyField :=
      [.nat 1 w.position.code, .nat 1 w.target.code, .nat 1 w.stage.code, .nat 2 w.poles, .nat 1 w.lock.code,
        .nat 2 w.queue.length]
    let becomes (w' : SwitchPoint) : State := { s with sws := s.sws.set k w' }
    let free : SwitchPoint := { w with lock := .none }
    let cleared : SwitchPoint := { w with lock := .none, failed := 0 }
    (∀ d : Direction, p.length = 2 → octetAt p 1 = d.code →
      let idle := w.queue = [] ∧ w.poles = 0 ∧ (w.lock = .none ∨ w.lock = .pinned) ∧ w.position ≠ .moving ∧
        w.feeding.isSome = true ∧ w.power = true ∧ w.station = .online
      let w' := if w.position = d.position then w
        else { w with target := d, stage := .pending, carried := false, position := .moving }
      (idle → exec (.setSwitch p) s = .next (answered 0x31 .ok (fields w') (becomes w'))) ∧
      (¬ idle → exec (.setSwitch p) s = .next (answered 0x31 .refusedState (fields w) s))) ∧
    (p.length = 1 →
      (w.lock = .none → w.position = .straight ∨ w.position = .turnout →
        let w' : SwitchPoint := { w with lock := .pinned }
        exec (.pinSwitch p) s = .next (answered 0x32 .ok (fields w') { becomes w' with
          notices := match w.queue with
            | [] => s.notices
            | h :: _ =>
              if w.position = h.dir.position then s.notices
              else s.noticed .mismatch 4 (.switch k) [word h.number, word h.dir.code, word w.position.code, 0] })) ∧
      (w.lock = .pinned → exec (.pinSwitch p) s = .next (answered 0x32 .ok (fields w) s)) ∧
      (w.lock ≠ .pinned → w.lock ≠ .none ∨ w.position = .moving ∨ w.position = .unknown →
        exec (.pinSwitch p) s = .next (answered 0x32 .refusedState (fields w) s)) ∧
      (w.lock = .pinned → exec (.unpinSwitch p) s =
        .next (answered 0x33 .ok (fields (free.serve s.halted)) (becomes (free.serve s.halted)))) ∧
      (w.lock ≠ .pinned → exec (.unpinSwitch p) s = .next (answered 0x33 .refusedState (fields w) s)) ∧
      (w.lock = .failed ∨ w.lock = .dewired ∧ w.poles = 0 ∧ w.feeding = none → exec (.clearSwitchLock p) s =
        .next (answered 0x34 .ok (fields (cleared.serve s.halted)) (becomes (cleared.serve s.halted)))) ∧
      (∀ n : Sec, w.lock = .dewired → w.poles = 0 → w.feeding = some n →
        ∃ t, exec (.clearSwitchLock p) s = .next (answered 0x34 .ok (fields (cleared.serve s.halted)) t) ∧
          t.sws = s.sws.set k (cleared.serve s.halted) ∧
          (t.secs[n].holds.switchLock = true ↔ ∃ j : Sw, j ≠ k ∧ s.sws[j].feeding = some n ∧ s.sws[j].lock = .dewired) ∧
          (∀ m : Sec, m ≠ n → t.secs[m].holds = s.secs[m].holds) ∧ t.vt = s.vt ∧ t.loop = s.loop ∧
          t.notices = s.notices ∧ t.fpus = s.fpus ∧ t.gens = s.gens ∧ t.caps = s.caps ∧ t.link = s.link ∧
          t.clock = s.clock) ∧
      (w.lock ≠ .failed → w.lock ≠ .dewired ∨ 0 < w.poles →
        exec (.clearSwitchLock p) s = .next (answered 0x34 .refusedState (fields w) s)))

/-- The pole timer's expiry makes the lock DEWIRED, tells the feeding section, marks the occupant DEWIRED and queues
DEWIRE; the passage timer's queues STALLED; the drive supervision's makes the position UNKNOWN and retries once, and then
makes the lock FAILED with DRIVE FAIL. -/
def Obligations.SwitchTimersExpire : Prop :=
  ∀ (k : Sw) (s : State) (left : Nat),
    let w := s.sws[k]
    let vehicle : Half := word (w.occupant.getD 0)
    (w.poleTimer = .running left → TableOk s →
      ∃ t, exec (.poleTimerExpiry k) s = .next t ∧
        t.sws = s.sws.set k { w with poleTimer := .stopped, lock := .dewired } ∧
        (∀ n : Sec, w.feeding = some n → w.lock ≠ .dewired → t.secs[n].holds.switchLock = true) ∧
        (w.occupant = none → t.vt = s.vt ∧
          t.notices = s.noticed .dewire 6 (.switch k) [0, 1, word w.position.code]) ∧
        (∀ (i : Slot) (v : Vehicle), s.vt.slots[i] = some v → w.occupant = some v.number → v.dewired = false →
          t.vt = { s.vt with slots := s.vt.slots.set i (some { v with dewired := true }) } ∧
          (∀ n : Sec, v.sec = some n → t.secs[n].holds.dewired = true) ∧
          t.notices = (s.noticed .vehicleFault 5 (.vehicle v.number) [1, 1, word (number k)]).take s.clock .dewire 6
            (.switch k) [vehicle, 1, word w.position.code]) ∧
        t.loop = s.loop ∧ t.fpus = s.fpus ∧ t.gens = s.gens ∧ t.caps = s.caps ∧ t.link = s.link ∧ t.clock = s.clock ∧
        t.busTrip = s.busTrip ∧ t.halted = s.halted) ∧
    (w.passTimer = .running left →
      exec (.passageTimerExpiry k) s = .next { s with
        sws := s.sws.set k (({ w with passTimer := .stopped } : SwitchPoint).serve s.halted)
        notices := s.noticed .stalled 4 (.switch k) [vehicle, word w.poles] }) ∧
    (w.driveTimer = some left → w.lock ≠ .dewired →
      let ended : SwitchPoint := { w with driveTimer := none, stage := .none, position := .unknown }
      let retried : SwitchPoint := { ended with failed := 1 }
      (w.failed = 0 → exec (.driveSupervisionExpiry k) s =
        .next { s with sws := s.sws.set k (retried.serve s.halted) }) ∧
      (w.failed ≠ 0 → exec (.driveSupervisionExpiry k) s = .next { s with
        sws := s.sws.set k { ended with failed := 0, lock := .failed }
        notices := s.noticed .driveFail 6 (.switch k)
          [word w.target.code, word w.lastReport.code, word ((w.queue.head?.map (·.number)).getD 0)] }))

/-! ### The field loop -/

/-- SET STATION writes a fresh record in CENSUS and tells the switch points bound before and after; a switch point bound at
another address refuses it, and a kind or binding out of its range is BAD ARGUMENT. The second binding octet of a SWITCH
record is not read, as the model reads it [log 20]. REMOVE STATION returns the record to its reset fields and ends its
binding; an UNCONFIGURED record refuses it. An exchange with another station goes on. -/
def Obligations.StationRequestsWriteTheTable : Prop :=
  ∀ (a : Sta) (p : List Byte) (s : State), Ready s → octetAt p 0 = number a →
    let old := s.loop.stations[a]
    let frame (t : State) : Prop :=
      ((∀ e, s.loop.exchange = some e → e.station ≠ a) →
        t.loop = { s.loop with stations := t.loop.stations } ∧ t.notices = s.notices) ∧
      (∀ j : Sw, old.role ≠ .switch (some j) → t.loop.stations[a].role ≠ .switch (some j) →
        t.sws[j] = { s.sws[j] with carried := t.sws[j].carried }) ∧
      t.secs = s.secs ∧ t.arb = s.arb ∧ t.vt = s.vt ∧ t.fpus = s.fpus ∧ t.gens = s.gens ∧ t.caps = s.caps ∧
      t.link = s.link ∧ t.clock = s.clock ∧ t.port = s.port ∧ t.busTrip = s.busTrip ∧ t.halted = s.halted
    (p.length = 5 →
      1 < octetAt p 1 ∨ octetAt p 1 = 0 ∧ 16 < octetAt p 2 ∨ octetAt p 1 = 1 ∧ (8 < octetAt p 2 ∨ 8 < octetAt p 3) →
      exec (.setStation p) s = .next (answered 0x38 .badArgument [] s)) ∧
    (∀ role : Role, p.length = 5 →
      (octetAt p 1 = 0 ∧ (octetAt p 2 = 0 ∧ role = .switch none ∨
          ∃ k : Sw, octetAt p 2 = number k ∧ role = .switch (some k)) ∨
        octetAt p 1 = 1 ∧ ∃ sideA sideB : Option Sec, octetAt p 2 = numberOr0 sideA ∧ octetAt p 3 = numberOr0 sideB ∧
          role = .boundary sideA sideB) →
      let new : Station :=
        { role, rate := .fast, relax := min (octetAt p 4) 3, state := .census, failures := 0, mark := none
          lastFailure := .none }
      (∀ (k : Sw) (b : Sta), role = .switch (some k) → b ≠ a → s.loop.stations[b].role = .switch (some k) →
        exec (.setStation p) s = .next (answered 0x38 .refusedState old.fields s)) ∧
      ((∀ (k : Sw) (b : Sta), role = .switch (some k) → s.loop.stations[b].role = .switch (some k) → b = a) →
        ∃ t, exec (.setStation p) s = .next (answered 0x38 .ok new.fields t) ∧ frame t ∧
          t.loop.stations = s.loop.stations.set a new ∧
          (∀ k : Sw, role = .switch (some k) → t.sws[k].bound = some a ∧ t.sws[k].station = .census ∧
            (s.sws[k].station = .online → t.sws[k].position = .unknown ∧ t.sws[k].stage = .none ∧
              t.sws[k].driveTimer = none ∧ (s.sws[k].lock = .none ∨ s.sws[k].lock = .pinned → t.sws[k].lock = .noField))) ∧
          (∀ k : Sw, old.role = .switch (some k) → role ≠ .switch (some k) → t.sws[k].bound = none))) ∧
    (p.length = 1 →
      (old.state = .unconfigured → exec (.removeStation p) s = .next (answered 0x39 .refusedState [] s)) ∧
      (old.state ≠ .unconfigured → ∃ t, exec (.removeStation p) s = .next (answered 0x39 .ok [] t) ∧ frame t ∧
        t.loop.stations = s.loop.stations.set a
          { role := .unset, rate := .fast, relax := 0, state := .unconfigured, failures := 0, mark := none
            lastFailure := .none } ∧
        ∀ k : Sw, old.role = .switch (some k) → t.sws[k].bound = none))

/-- SET CYCLE TIME stores Tcyc; LOOP SKIP aborts the exchange in flight and the cycle goes on, with the next poll, with the
census exchange, or with the rest; LOOP RESET and a cycle timer that expires in the rest start a cycle, and one that
expires in RUNNING sets the late mark and is stopped, as the model reads it [log 38]. A late cycle that ends starts the
next at once and queues LOOP OVERRUN unless the run mark stands; the cycle time it shows is the one stored, as the model
reads it [log 28]. -/
def Obligations.CyclesAndSkipsChooseTheNextExchange : Prop :=
  ∀ (s : State) (a : Sta),
    let l := s.loop
    let fresh : State := { s with loop := l.cycleStarted }
    let reset : State := { s with loop := { l.cycleStarted with overrun := false } }
    let resting (l : Loop) : Loop := { l with running := false, overrun := false, exchange := none }
    let idle (l : Loop) : Prop :=
      ∀ b : Sta, l.stations[b].state ≠ .online ∧ l.stations[b].state ≠ .census ∧ l.stations[b].state ≠ .lost
    let aborted : List ReplyField := [.nat 1 (numberOr0 (l.exchange.map (·.station)))]
    (∀ p : List Byte, Ready s → p.length = 2 →
      let time := max 20 (min (halfAt p 0) 1000)
      exec (.setCycleTime p) s = .next (answered 0x3B .ok [.nat 2 time] { s with loop := { l with cycleTime := time } })) ∧
    (Ready s → l.exchange = none →
      exec (.loopSkip []) s = .next (answered 0x3D .refusedState [.nat 1 0, .nat 1 0] s)) ∧
    (∀ e : Exchange, Ready s → l.exchange = some e →
      let fields : List ReplyField := [.nat 1 (number e.station), .nat 1 e.command.code]
      (l.PollsNext a → exec (.loopSkip []) s = .next (answered 0x3D .ok fields (s.polling a))) ∧
      (l.PollsDone → l.censusDone = false → l.CensusNext a →
        exec (.loopSkip []) s = .next (answered 0x3D .ok fields { s with loop := { l with
          censusPos := number a, censusDone := true, lastAddressed := number a
          exchange := some ⟨a, .census, l.stations[a].rate, l.stations[a].mark.getD false, .sending⟩ } })) ∧
      (l.Spent → exec (.loopSkip []) s = .next (answered 0x3D .ok fields { s with loop := resting l })) ∧
      (l.PollsDone → l.censusDone = true → l.late = true →
        let overrun (l' : Loop) : State := { s with
          loop := l'
          notices := if l.overrun then s.notices
            else s.noticed .loopOverrun 3 (.station l.lastAddressed) [word l.cycleTime, word l.cycleMs] }
        (l.cycleStarted.PollsNext a → exec (.loopSkip []) s =
          .next (answered 0x3D .ok fields ((overrun { l.cycleStarted with overrun := true }).polling a))) ∧
        (idle l → exec (.loopSkip []) s =
          .next (answered 0x3D .ok fields (overrun { resting l.cycleStarted with censusDone := true }))))) ∧
    (Ready s → l.cycleStarted.PollsNext a →
      exec (.loopReset []) s = .next (answered 0x3E .ok aborted (reset.polling a))) ∧
    (Ready s → idle l → exec (.loopReset []) s =
      .next (answered 0x3E .ok aborted { s with loop := { resting l.cycleStarted with censusDone := true } })) ∧
    (∀ left : Nat, l.cycleTimer = some left →
      (l.running = true → exec .cycleTimerExpiry s =
        .next { s with loop := { l with late := true, cycleTimer := none } }) ∧
      (l.running = false → l.cycleStarted.PollsNext a → exec .cycleTimerExpiry s = .next (fresh.polling a)) ∧
      (l.running = false → l.exchange = none → idle l → exec .cycleTimerExpiry s =
        .next { s with loop := { resting l.cycleStarted with censusDone := true } }))

/-- LOOP DIRECTION stands at transmit exactly while a request goes out. Its end starts the start limit of the exchange's
rate and the station's relax; reply octets restart the gap limit; and an exchange fails by a limit, by a length octet above
64, by its check octet, by its address or by its format. That a reply of one octet, which holds no address, fails by its
address is the model's reading [log 21]. A failed poll counts, the third loses the station and tells its switch point, and a
failed census steps the rate. -/
def Obligations.ExchangeStepsAndFailures : Prop :=
  ∀ (s : State) (e : Exchange) (c : Instr), s.loop.exchange = some e →
    let l := s.loop
    let r := l.stations[e.station]
    let phased (ph : Phase) : State := { s with loop := { l with exchange := some { e with phase := ph } } }
    let ended (r' : Station) : Loop := { l with
      stations := l.stations.set e.station r', exchange := none, running := false, overrun := false }
    let census : Prop := e.command = .census
    let misformed (o : List Byte) : Prop :=
      let events := octetAt o 4 / 16
      let telegrams := octetAt o 4 % 4
      let position := octetAt o 2 % 4
      let kind := if census then octetAt o 2 / 16 % 4 else match r.role with | .boundary _ _ => 1 | _ => 0
      octetAt o 0 < 6 ∨ 8 < events ∨ 2 < telegrams ∨ octetAt o 0 ≠ 6 + events + 5 * telegrams ∨ census ∧ 1 < kind ∨
        kind = 1 ∧ position ≠ 3 ∨ kind = 0 ∧ position = 3 ∨ census ∧ kind = 0 ∧ 2 < octetAt o 3 ∨
        ∃ j, j < events ∧ octetAt o (5 + j) ≠ 1 ∧ octetAt o (5 + j) ≠ 2
    (∀ l' : Loop, l'.direction = .transmit ↔ ∃ e', l'.exchange = some e' ∧ e'.phase = .sending) ∧
    (e.phase = .sending →
      exec .loopRequestSent s =
        .next (phased (.awaiting ((match e.rate with | .fast => 1 | .medium => 3 | .slow => 8) * (r.relax + 1)))) ∧
      ∀ b : Byte, exec (.loopOctetReceived b) s = .next s) ∧
    (∀ (limit : Nat) (b : Byte), e.phase = .awaiting limit → 2 ≤ b.toNat → b.toNat ≤ 64 →
      exec (.loopOctetReceived b) s = .next (phased (.receiving (40 * (r.relax + 1)) [b]))) ∧
    (∀ (gap : Nat) (got : List Byte) (b : Byte), e.phase = .receiving gap got → got.length + 1 < octetAt got 0 →
      octetAt got 0 ≤ 64 →
      exec (.loopOctetReceived b) s = .next (phased (.receiving (40 * (r.relax + 1)) (got ++ [b])))) ∧
    ∀ cause : LoopFailure, l.Spent →
      (c = .startLimitExpiry ∧ (∃ limit, e.phase = .awaiting limit) ∧ cause = .timeout ∨
        c = .gapLimitExpiry ∧ (∃ gap got, e.phase = .receiving gap got) ∧ cause = .gap ∨
        (∃ (limit : Nat) (b : Byte), c = .loopOctetReceived b ∧ e.phase = .awaiting limit ∧ 64 < b.toNat) ∧
          cause = .format ∨
        (∃ o : List Byte, c = .loopReplyComplete o ∧ e.phase ≠ .sending ∧ octetSum o ≠ 0) ∧ cause = .check ∨
        (∃ o : List Byte, c = .loopReplyComplete o ∧ e.phase ≠ .sending ∧ octetSum o = 0 ∧
          octetAt o 1 ≠ number e.station) ∧ cause = .address ∨
        (∃ o : List Byte, c = .loopReplyComplete o ∧ e.phase ≠ .sending ∧ ReplyOf e.station o ∧ misformed o) ∧
          cause = .format) →
      (census → exec c s = .next { s with loop := ended { r with
        lastFailure := cause, rate := match r.rate with | .fast => .medium | .medium => .slow | .slow => .fast } }) ∧
      (¬ census → r.failures < 2 → exec c s =
        .next { s with loop := ended { r with lastFailure := cause, failures := r.failures + 1 } }) ∧
      (¬ census → r.failures = 2 → exec c s = .next { s with
        loop := ended { r with lastFailure := cause, failures := 3, state := .lost }
        sws := match r.role with
          | .switch (some k) =>
            let w := s.sws[k]
            s.sws.set k (if w.station = .online then
              { w with
                station := .lost, driveTimer := none, stage := .none, position := .unknown
                lock := if w.lock = .none ∨ w.lock = .pinned then .noField else w.lock
                poleTimer := w.poleTimer.suspend, passTimer := w.passTimer.suspend }
            else { w with station := .lost })
          | _ => s.sws
        notices := s.noticed .stationLost 5 (.station (number e.station))
          [word (match r.role with | .boundary _ _ => 1 | _ => 0), word r.rate.code, word cause.code] })

/-- A poll's reply that passes its checks, from a switch station: it ends the exchange with no failures; a DRIVE's
acceptance makes the drive SENT under drive supervision; the target reported ends the drive with SWITCH MOVED; and an
ENTRY under a resting frog begins a passage. -/
def Obligations.SwitchStationReplyActsOnTheSwitchPoint : Prop :=
  ∀ (s : State) (e : Exchange) (k : Sw) (o : List Byte) (mark : Bool), s.loop.exchange = some e → e.phase ≠ .sending →
    s.loop.Spent → s.loop.stations[e.station].role = .switch (some k) → octetSum o = 0 →
    octetAt o 0 = o.length → octetAt o 1 = number e.station →
    let r := s.loop.stations[e.station]
    let w := s.sws[k]
    let loop : Loop := { s.loop with
      stations := s.loop.stations.set e.station { r with failures := 0, mark := some mark }
      exchange := none, running := false, overrun := false }
    (∀ d : Direction, o.length = 6 → octetAt o 4 = 0 → octetAt o 2 = (if mark then 130 else 2) → e.command = .drive d →
      w.position = .moving → w.stage = .pending → w.carried = true →
      exec (.loopReplyComplete o) s = .next { s with
        loop
        sws := s.sws.set k { w with
          stage := .sent, carried := false, driveTimer := some w.tDrive, driveMs := 0, lastReport := .between } }) ∧
    (∀ d : Direction, o.length = 6 → octetAt o 4 = 0 → octetAt o 2 = d.code + (if mark then 128 else 0) →
      e.command = .poll → w.position = .moving → w.target = d → w.stage = .sent → w.queue = [] →
      exec (.loopReplyComplete o) s = .next { s with
        loop
        sws := s.sws.set k { w with
          driveTimer := none, stage := .none, position := d.position, failed := 0
          lastReport := match d with | .straight => .straight | .turnout => .turnout }
        notices := s.noticed .switchMoved 1 (.switch k) [word d.position.code, 0, word w.driveMs] }) ∧
    (o.length = 7 → octetAt o 4 = 16 → octetAt o 5 = 1 → octetAt o 2 = (if mark then 128 else 0) → e.command = .poll →
      r.mark ≠ some mark → w.position = .straight → w.poles = 0 →
      let passing : SwitchPoint := { w with
        poles := 1, both := false, poleTimer := .running w.tPole, passTimer := .running w.tPass, lastReport := .straight }
      (w.queue = [] → exec (.loopReplyComplete o) s = .next { s with
        loop, sws := s.sws.set k passing
        notices := s.noticed .unannounced 4 (.switch k) [word w.position.code, word w.lock.code] }) ∧
      (∀ (h : QueueEntry) (rest : List QueueEntry) (i : Slot) (v : Vehicle), w.queue = h :: rest → TableOk s →
        s.vt.slots[i] = some v → v.number = h.number →
        exec (.loopReplyComplete o) s = .next { s with
          loop, sws := s.sws.set k { passing with occupant := some h.number }
          vt := { s.vt with slots := s.vt.slots.set i (some { v with occupied := some k }) }
          notices := if h.dir = .straight then s.notices
            else s.noticed .mismatch 4 (.switch k) [word h.number, 1, word w.position.code, 1] }))

/-- A census reply of another kind than the record's makes the station DISABLED with STATION MISMATCH. One of its kind makes
it ONLINE with STATION ONLINE; its switch point takes the position from UNKNOWN, settles its count of poles by R140's table,
with CONTACT RESYNC where the counts differ, and loses the lock NO_FIELD. -/
def Obligations.CensusReplyJudgesTheStation : Prop :=
  ∀ (s : State) (e : Exchange) (o : List Byte) (mark : Bool) (kind position : Nat), s.loop.exchange = some e →
    e.command = .census → e.phase ≠ .sending → s.loop.Spent → s.loop.found = none → ReplyOf e.station o →
    o.length = 6 → octetAt o 4 = 0 → octetAt o 2 = position + 16 * kind + (if mark then 128 else 0) →
    kind = 0 ∧ position ≤ 2 ∧ octetAt o 3 ≤ 2 ∨ kind = 1 ∧ position = 3 →
    let a := e.station
    let r := s.loop.stations[a]
    let census := octetAt o 3
    let foundLoop : Loop :=
      { s.loop.restingWith a { r with state := .online, failures := 0, mark := some mark } with found := some a }
    let online (q : NoticeQueue) : NoticeQueue :=
      q.take s.clock .stationOnline 2 (.station (number a)) [word kind, word r.rate.code, word r.state.code]
    ((∃ sideA sideB, r.role = .boundary sideA sideB) ∧ kind = 0 ∨ (∃ k, r.role = .switch k) ∧ kind = 1 →
      exec (.loopReplyComplete o) s = .next { s with
        loop := s.loop.restingWith a { r with state := .disabled }
        sws := match r.role with
          | .switch (some k) =>
            let w := s.sws[k]
            s.sws.set k (if w.station = .online then
              { w with
                station := .disabled, driveTimer := none, stage := .none, position := .unknown
                lock := if w.lock = .none ∨ w.lock = .pinned then .noField else w.lock
                poleTimer := w.poleTimer.suspend, passTimer := w.passTimer.suspend }
            else { w with station := .disabled })
          | _ => s.sws
        notices := s.noticed .stationMismatch 5 (.station (number a)) [word (1 - kind), word kind, word r.rate.code] }) ∧
    ((∃ sideA sideB, r.role = .boundary sideA sideB) ∧ kind = 1 ∨ r.role = .switch none ∧ kind = 0 →
      exec (.loopReplyComplete o) s = .next { s with loop := foundLoop, notices := online s.notices }) ∧
    (∀ (k : Sw) (report : StationPosition), r.role = .switch (some k) → kind = 0 → position = report.code →
      let w := s.sws[k]
      let w₁ : SwitchPoint := { w with
        station := .online, lastReport := report
        position := match report with | .straight => .straight | .turnout => .turnout | .between => .unknown
        failed := match report with
          | .straight => if w.target = .straight then 0 else w.failed
          | .turnout => if w.target = .turnout then 0 else w.failed
          | .between => w.failed
        lock := if w.lock = .noField then .none else w.lock }
      let settled : SwitchPoint :=
        match w.poles, census with
        | 0, 0 => w₁
        | 0, 1 => { w₁ with poles := 1, both := false, poleTimer := .running w.tPole, passTimer := .running w.tPass }
        | 0, _ => { w₁ with poles := 2, both := true, poleTimer := .stopped, passTimer := .running w.tPass }
        | 1, 0 => { w₁ with poles := 0, poleTimer := .stopped, passTimer := .stopped }
        | 1, 1 => { w₁ with poleTimer := w.poleTimer.resume, passTimer := w.passTimer.resume }
        | 1, _ => { w₁ with poles := 2, both := true, poleTimer := .stopped, passTimer := w.passTimer.resume }
        | _, 0 => { w₁ with poles := 0, both := true, poleTimer := .stopped, passTimer := .stopped }
        | _, 1 => { w₁ with poles := 1, poleTimer := .stopped, passTimer := w.passTimer.resume }
        | _, _ => { w₁ with passTimer := w.passTimer.resume }
      let q₁ : NoticeQueue :=
        if w.poles = census then s.notices
        else s.noticed .contactResync 4 (.switch k)
          [word w.poles, word census, word (w.occupant.getD 0), word w₁.position.code]
      let q₂ : NoticeQueue :=
        if w.poles = 0 ∧ 0 < census then
          q₁.take s.clock .unannounced 4 (.switch k) [word w₁.position.code, word w.lock.code]
        else if w.poles = 1 ∧ census = 0 ∧ w.both = false then
          q₁.take s.clock .passageIncomplete 4 (.switch k) [0, word w.lock.code]
        else q₁
      w.poles ≤ 2 → w.poles = census ∨ 0 < w.poles ∧ 0 < census ∨ w.queue = [] ∧ w.occupant = none →
      exec (.loopReplyComplete o) s = .next { s with
        loop := foundLoop, sws := s.sws.set k (settled.serve s.halted), notices := online q₂ })

/-- Contact events of a new reply, handed on before its position, which is the one held: a second ENTRY counts the second
pole, an ENTRY above two and an EXIT below one are CONTACT FAULT, an EXIT ends the passage, its occupant giving up its place,
with PASSAGE INCOMPLETE unless both poles were seen. An ENTRY under a moving frog cuts the drive short and makes the lock
DEWIRED. A repeated reply hands on no event, and a position other than the one held is UNEXPECTED MOVE. -/
def Obligations.ContactEventsCountThePoles : Prop :=
  ∀ (s : State) (e : Exchange) (k : Sw) (o : List Byte) (mark : Bool) (report : StationPosition),
    s.loop.exchange = some e → e.phase ≠ .sending → e.command = .poll → s.loop.Spent →
    s.loop.stations[e.station].role = .switch (some k) → ReplyOf e.station o →
    octetAt o 2 = report.code + (if mark then 128 else 0) →
    let r := s.loop.stations[e.station]
    let w := s.sws[k]
    let loop := s.loop.restingWith e.station { r with failures := 0, mark := some mark }
    let reports : SwitchPoint := { w with lastReport := report }
    let vehicle : Half := word (w.occupant.getD 0)
    let fault (event : Half) : NoticeQueue := s.noticed .contactFault 5 (.switch k) [event, word w.poles, vehicle]
    let incomplete : NoticeQueue :=
      if w.both then s.notices else s.noticed .passageIncomplete 4 (.switch k) [vehicle, word w.lock.code]
    let ended : SwitchPoint :=
      { reports with poles := 0, poleTimer := .stopped, passTimer := .stopped, occupant := none }
    let becomes (w' : SwitchPoint) (q : NoticeQueue) : State := { s with loop, sws := s.sws.set k w', notices := q }
    let entry := o.length = 7 ∧ octetAt o 4 = 16 ∧ octetAt o 5 = 1
    let exit := o.length = 7 ∧ octetAt o 4 = 16 ∧ octetAt o 5 = 2
    let held := ∃ d : Direction, w.position = d.position ∧ report.code = d.code
    (held → r.mark = some mark → entry ∨ exit →
      exec (.loopReplyComplete o) s = .next (becomes (reports.serve s.halted) s.notices)) ∧
    (held → r.mark ≠ some mark → entry →
      (w.poles = 1 → exec (.loopReplyComplete o) s =
        .next (becomes { reports with poles := 2, both := true, poleTimer := .stopped } s.notices)) ∧
      (w.poles = 2 → exec (.loopReplyComplete o) s = .next (becomes reports (fault 1)))) ∧
    (held → r.mark ≠ some mark → exit →
      (w.poles = 0 → exec (.loopReplyComplete o) s = .next (becomes (reports.serve s.halted) (fault 2))) ∧
      (w.poles = 2 → exec (.loopReplyComplete o) s = .next (becomes { reports with poles := 1 } s.notices)) ∧
      (w.poles = 1 → w.occupant = none →
        exec (.loopReplyComplete o) s = .next (becomes (ended.serve s.halted) incomplete)) ∧
      (∀ (h : QueueEntry) (rest : List QueueEntry) (i : Slot) (v : Vehicle), w.poles = 1 → w.queue = h :: rest →
        w.occupant = some h.number → (∀ q ∈ rest, q.number ≠ h.number) → w.lock ≠ .pinned → TableOk s →
        s.vt.slots[i] = some v → v.number = h.number →
        let after : SwitchPoint := { ended with queue := rest }
        let put (v' : Vehicle) : VehicleTable := { s.vt with slots := s.vt.slots.set i (some v') }
        (v.deferred = none → exec (.loopReplyComplete o) s = .next
          { becomes (after.serve s.halted) incomplete with vt := put { v with queue := none, occupied := none } }) ∧
        (∀ (b : Sw) (route : Route), v.deferred = some (b, route) → b ≠ k → s.sws[b].lock ≠ .pinned →
          s.sws[b].holds v.number = false → s.sws[b].queue.length < 4 →
          let next : SwitchPoint := { s.sws[b] with
            queue := s.sws[b].queue ++ [⟨v.number, route.getD s.sws[b].default⟩] }
          exec (.loopReplyComplete o) s = .next
            { becomes (after.serve s.halted) incomplete with
              sws := (s.sws.set k (after.serve s.halted)).set b (next.serve s.halted)
              vt := put { v with queue := some b, occupied := none, deferred := none } }))) ∧
    (∀ n : Sec, report = .between → r.mark ≠ some mark → entry → w.position = .moving → w.poles = 0 →
      w.lock ≠ .dewired → w.feeding = some n →
      let stopped : SwitchPoint := { reports with
        poles := 1, both := false, poleTimer := .running w.tPole, passTimer := .running w.tPass, driveTimer := none
        stage := .none, position := .unknown, lock := .dewired }
      let secs := s.secs.set n { s.secs[n] with holds := { s.secs[n].holds with switchLock := true } }
      (w.queue = [] → w.occupant = none → exec (.loopReplyComplete o) s = .next
        { becomes stopped (NoticeQueue.take (s.noticed .unannounced 4 (.switch k) [2, word w.lock.code]) s.clock .dewire 6
            (.switch k) [0, 0, word w.target.code]) with secs }) ∧
      (∀ (h : QueueEntry) (rest : List QueueEntry) (i : Slot) (v : Vehicle), w.queue = h :: rest → TableOk s →
        s.vt.slots[i] = some v → v.number = h.number → exec (.loopReplyComplete o) s = .next
        { becomes { stopped with occupant := some h.number }
            (s.noticed .dewire 6 (.switch k) [word h.number, 0, word w.target.code]) with
          secs, vt := { s.vt with slots := s.vt.slots.set i (some { v with occupied := some k }) } })) ∧
    (∀ d : Direction, o.length = 6 → octetAt o 4 = 0 → w.position = d.position → report.code ≠ d.code →
      let moved : SwitchPoint := { reports with
        position := match report with | .straight => .straight | .turnout => .turnout | .between => .unknown }
      exec (.loopReplyComplete o) s = .next (becomes (moved.serve s.halted)
        (s.noticed .unexpectedMove 5 (.switch k) [word d.code, word report.code, word w.poles])))

/-- A telegram of an ACTIVE vehicle from a switch station, with nothing new but its approach: handed to the switch point,
it is appended with its direction, replaces the direction in place, or is refused with QUEUE FULL; a vehicle in another
queue is withdrawn from it first, and an occupant's approach is deferred. The serving rule then looks at the head, and a
pinned frog set otherwise for a new head is MISMATCH. With no record and no free slot TABLE FULL is queued once, and the
approach is taken unless another switch point holds the vehicle as its occupant. -/
def Obligations.ApproachesAreQueuedAndServed : Prop :=
  ∀ (s : State) (e : Exchange) (k : Sw) (o : List Byte) (num : Nat) (mark : Bool) (d : Direction) (route : Route),
    s.loop.exchange = some e → e.phase ≠ .sending → e.command = .poll → s.loop.Spent →
    s.loop.stations[e.station].role = .switch (some k) → s.loop.stations[e.station].mark ≠ some mark →
    ReplyOf e.station o → o.length = 11 → octetAt o 2 = d.code + (if mark then 128 else 0) → octetAt o 4 = 1 →
    halfAt o 5 = num → octetAt o 7 = routeCode route → 1 ≤ num → num ≤ 9999 → s.sws[k].position = d.position →
    s.sws[k].serve s.halted = s.sws[k] →
    let r := s.loop.stations[e.station]
    let w : SwitchPoint := { s.sws[k] with lastReport := match d with | .straight => .straight | .turnout => .turnout }
    let dir := route.getD w.default
    let appended : SwitchPoint := { w with queue := w.queue ++ [⟨num, dir⟩] }
    let loop := s.loop.restingWith e.station { r with failures := 0, mark := some mark }
    let pinned (w' : SwitchPoint) (q : NoticeQueue) : NoticeQueue :=
      match w'.queue with
      | [] => q
      | h :: _ =>
        if w.lock = .pinned ∧ w.queue.head? ≠ some h ∧ h.dir ≠ d then
          q.take s.clock .mismatch 4 (.switch k) [word h.number, word h.dir.code, word d.code, 0]
        else q
    let becomes (w' : SwitchPoint) (q : NoticeQueue) : State := { s with
      loop, sws := s.sws.set k (w'.serve s.halted), notices := pinned w' q }
    let queueFull (q : NoticeQueue) : NoticeQueue := q.take s.clock .queueFull 3 (.switch k)
      [word num, word ((w.queue.head?.map (·.number)).getD 0), word dir.code]
    (∀ (i : Slot) (v : Vehicle), TableOk s → s.vt.slots[i] = some v → v.number = num → v.active = true →
      octetAt o 8 = (if v.leak then 1 else 0) → v.dewired = false → v.sec = w.feeding →
      let seen : Vehicle := { v with
        lastStation := e.station, lastSeen := s.clock, lostTimer := some s.vt.lostTime
        forgetTimer := some s.vt.forgetTime, overdue := false }
      let put (v' : Vehicle) : VehicleTable := { s.vt with slots := s.vt.slots.set i (some v') }
      (v.queue = none → w.holds num = false →
        (w.queue.length < 4 → exec (.loopReplyComplete o) s =
          .next { becomes appended s.notices with vt := put { seen with queue := some k } }) ∧
        (4 ≤ w.queue.length → exec (.loopReplyComplete o) s =
          .next { becomes w (queueFull s.notices) with vt := put seen })) ∧
      (v.queue = some k → w.holds num = true → exec (.loopReplyComplete o) s =
        .next { becomes { w with queue := w.queue.map fun q => if q.number = num then ⟨num, dir⟩ else q } s.notices with
          vt := put seen }) ∧
      (∀ j : Sw, v.queue = some j → j ≠ k → v.occupied = none → v.deferred = none → s.sws[j].holds num = true →
        s.sws[j].occupant ≠ some num → s.sws[j].lock ≠ .pinned → w.holds num = false → w.queue.length < 4 →
        let left : SwitchPoint := { s.sws[j] with queue := s.sws[j].queue.filter fun q => q.number ≠ num }
        exec (.loopReplyComplete o) s = .next { becomes appended s.notices with
          sws := (s.sws.set j (left.serve s.halted)).set k (appended.serve s.halted)
          vt := put { seen with queue := some k } }) ∧
      (∀ j : Sw, v.queue = some j → j ≠ k → v.occupied = some j → exec (.loopReplyComplete o) s =
        .next { becomes w s.notices with vt := put { seen with deferred := some (k, route) } })) ∧
    ((∀ i : Slot, s.vt.slots[i].isSome = true) → (∀ (i : Slot) (v : Vehicle), s.vt.slots[i] = some v → v.number ≠ num) →
      let told : NoticeQueue :=
        if s.vt.fullArmed then s.noticed .tableFull 3 (.station (number e.station)) [word num, word (number e.station)]
        else s.notices
      let vt : VehicleTable := { s.vt with fullArmed := false }
      ((∀ j : Sw, j ≠ k → s.sws[j].yields num = false ∧ s.sws[j].occupant ≠ some num) → w.holds num = false →
        w.queue.length < 4 → exec (.loopReplyComplete o) s = .next { becomes appended told with vt }) ∧
      (∀ j : Sw, j ≠ k → s.sws[j].occupant = some num → (∀ i : Sw, i ≠ k → s.sws[i].yields num = false) →
        exec (.loopReplyComplete o) s = .next { becomes w told with vt }))

/-! ### Notices -/

/-- SET ATTENTION stores the mask, at most 7, sets ATTN for the records stored, and answers with the mask, ATTN and the
highest priority stored, 0 for an empty queue; it is answered in a halt too (R171). -/
def Obligations.SetAttentionSetsTheLine : Prop :=
  ∀ (p : List Byte) (s : State), Reachable s → p.length = 1 →
    let mask := min (octetAt p 0) 7
    ∃ (attn : Bool) (highest : Nat),
      exec (.setAttention p) s = .next (answered 0x41 .ok [.nat 1 mask, fieldMark attn, .nat 2 highest]
        { s with notices := { s.notices with mask, attn } }) ∧
      (attn = true ↔ ∃ r ∈ s.notices.records, mask < r.priority) ∧
      (∀ r ∈ s.notices.records, r.priority ≤ highest) ∧
      (s.notices.records = [] → highest = 0) ∧
      (s.notices.records ≠ [] → ∃ r ∈ s.notices.records, r.priority = highest)

/-- FETCH NOTICES removes the oldest records and clears the overflow mark with the first one removed; GET NOTICE STATUS
shows the queue and changes nothing; both are answered in a halt too. -/
def Obligations.NoticesAreFetchedOldestFirst : Prop :=
  ∀ (p : List Byte) (s : State), Reachable s →
    let q := s.notices
    let attn (records : List Notice) : Bool := records.any fun r => decide (q.mask < r.priority)
    (p.length = 1 → ∃ out left : List Notice, q.records = out ++ left ∧
      out.length = min (max 1 (min (octetAt p 0) 8)) q.records.length ∧
      exec (.fetchNotices p) s = .next (answered 0x40 .ok
        (out.flatMap Notice.fields ++
          [.nat 2 out.length, .nat 2 left.length, fieldMark q.overflow, fieldMark (attn left)])
        { s with notices := { q with
            records := left, overflow := q.overflow && q.records.isEmpty, attn := attn left } })) ∧
    (q.overflow = false → exec (.getNoticeStatus []) s = .next (answered 0x42 .ok
      ([.nat 2 q.records.length] ++
        (List.range 7).map (fun i => .nat 2 (q.records.countP fun r => decide (r.priority = i + 1))) ++
        [.nat 2 ((q.records.head?.map (·.entry)).getD q.counter).toNat, .nat 2 q.counter.toNat, fieldMark false,
          .absent 2, .absent 2, .nat 1 q.mask, fieldMark q.attn]) s)) ∧
    (∀ (older : List Notice) (newest : Notice) (kind first dropped highest : Half), q.overflow = true →
      q.records = older ++ [newest] → newest.words = [kind, first, dropped, highest] →
      ∃ fields : List ReplyField, exec (.getNoticeStatus []) s = .next (answered 0x42 .ok fields s) ∧
        fields.take 1 = [.nat 2 q.records.length] ∧
        fields.drop 8 = [.nat 2 ((q.records.head?.map (·.entry)).getD q.counter).toNat, .nat 2 q.counter.toNat,
          fieldMark true, .nat 2 dropped.toNat, .nat 2 highest.toNat, .nat 1 q.mask, fieldMark q.attn])

/-- A notice that arrives is stored while fewer than 47 records are held; the next in its place stores OVERFLOW and sets
the mark, and while that is set every notice is dropped and counted in the newest record. -/
def Obligations.NoticesAreStoredOrCountedAsDropped : Prop :=
  ∀ (s : State) (kind : NoticeKind) (priority : Nat) (source : Source) (words : List Half),
    let q := s.notices
    let stored (r : Notice) (overflow : Bool) : NoticeQueue :=
      { q with
        records := q.records ++ [r], counter := q.counter + 1, overflow
        attn := (q.records ++ [r]).any fun r => decide (q.mask < r.priority) }
    (q.overflow = false → q.records.length < 47 →
      queueNotice kind priority source words s =
        { s with notices := stored ⟨q.counter, kind, priority, s.clock, source, words⟩ false }) ∧
    (q.overflow = false → 47 ≤ q.records.length →
      queueNotice kind priority source words s =
        { s with notices := stored ⟨q.counter, .overflow, 6, s.clock, .link,
            [word kind.code, word priority, 1, word priority]⟩ true }) ∧
    (∀ (older : List Notice) (newest : Notice) (k f dropped highest : Half), q.overflow = true → priority ≤ 7 →
      q.records = older ++ [newest] → newest.words = [k, f, dropped, highest] →
      queueNotice kind priority source words s =
        { s with notices := { q with records := older ++ [{ newest with
            words := [k, f, if dropped = 65535 then 65535 else dropped + 1,
              if highest.toNat < priority then BitVec.ofNat 16 priority else highest] }] } })

/-! ### The Clock, the link and RESTART -/

/-- SET TIME sets the Clock and touches no timer, GET TIME returns it; each millisecond adds 1 to it and takes 1 ms off
every running timer that counts milliseconds, the settle timers of the test contexts and the start limit of the exchange
among them, except that the section timers stand still in a halt. That the count of a trip's opening time runs on there is
the model's reading [log 12], and the gap limit, in bit times, is not counted down [log 26]. -/
def Obligations.ClockCountsAndIsSet : Prop :=
  ∀ (s : State),
    (∀ p : List Byte, Reachable s → p.length = 4 → exec (.setTime p) s = .next (answered 0x48 .ok
      [.nat 4 s.clock.toNat, .nat 4 (wideAt p 0)] { s with clock := BitVec.ofNat 32 (wideAt p 0) })) ∧
    (Reachable s → exec (.getTime []) s = .next (answered 0x49 .ok [.nat 4 s.clock.toNat] s)) ∧
    ∃ t, exec .clockTick s = .next t ∧ t.clock = s.clock + 1 ∧
      t.port = { s.port with frameTimer := s.port.frameTimer.map (· - 1) } ∧
      (∀ n : Sec, t.fpus[n] = { s.fpus[n] with lossTimer := s.fpus[n].lossTimer.map (· - 1) }) ∧
      (∀ n : Sec,
        let r := s.secs[n]
        let ms := if r.state = .tripping then r.trippingMs + 1 else r.trippingMs
        (s.halted = true → t.secs[n] = { r with trippingMs := ms }) ∧
        (s.halted = false → t.secs[n] = { r with
          trippingMs := ms, holdTimer := r.holdTimer.map (· - 1), opening := r.opening.map (· - 1)
          deadTimer := r.deadTimer.map (· - 1), closing := r.closing.map (· - 1), reclaim := r.reclaim.map (· - 1)
          holdLimit := r.holdLimit.map (· - 1), discrepancy := r.discrepancy.map (· - 1) })) ∧
      (∀ (i : Slot) (v : Vehicle), s.vt.slots[i] = some v → t.vt.slots[i] = some { v with
        lostTimer := v.lostTimer.map (· - 1), forgetTimer := v.forgetTimer.map (· - 1) }) ∧
      (∀ i : Slot, s.vt.slots[i] = none → t.vt.slots[i] = none) ∧ t.vt.power = s.vt.power ∧
      (∀ k : Sw, ∃ poleTimer passTimer : SwTimer,
        t.sws[k] = { s.sws[k] with
          poleTimer, passTimer, driveTimer := s.sws[k].driveTimer.map (· - 1)
          driveMs := if s.sws[k].stage = .sent then s.sws[k].driveMs + 1 else s.sws[k].driveMs } ∧
        (∀ left, s.sws[k].poleTimer = .running left → poleTimer = .running (left - 1)) ∧
        (∀ left, s.sws[k].passTimer = .running left → passTimer = .running (left - 1)) ∧
        ((∀ left, s.sws[k].poleTimer ≠ .running left) → poleTimer = s.sws[k].poleTimer) ∧
        ((∀ left, s.sws[k].passTimer ≠ .running left) → passTimer = s.sws[k].passTimer)) ∧
      (∀ (c : Circuit) (x : TestContext), s.arb.contexts[c] = some x →
        t.arb.contexts[c] = some { x with settle := x.settle - 1 }) ∧
      (∀ c : Circuit, s.arb.contexts[c] = none → t.arb.contexts[c] = none) ∧
      t.arb = { s.arb with contexts := t.arb.contexts } ∧
      t.loop = { s.loop with
        cycleTimer := s.loop.cycleTimer.map (· - 1)
        cycleMs := if s.loop.running then s.loop.cycleMs + 1 else s.loop.cycleMs, exchange := t.loop.exchange } ∧
      (∀ (e : Exchange) (limit : Nat), s.loop.exchange = some e → e.phase = .awaiting limit →
        t.loop.exchange = some { e with phase := .awaiting (limit - 1) }) ∧
      ((∀ (e : Exchange) (limit : Nat), s.loop.exchange = some e → e.phase ≠ .awaiting limit) →
        t.loop.exchange = s.loop.exchange) ∧
      t.link = { s.link with
        gapTimer := s.link.gapTimer.map (· - 1), startPeriod := s.link.startPeriod.map (· - 1) } ∧
      t.gens = s.gens ∧ t.caps = s.caps ∧ t.notices = s.notices ∧ t.busTrip = s.busTrip ∧ t.halted = s.halted ∧
      t.backup = s.backup ∧ t.vt.fullArmed = s.vt.fullArmed ∧ t.vt.lostTime = s.vt.lostTime ∧
      t.vt.forgetTime = s.vt.forgetTime

/-- The receiver: 0xC5 begins a frame, a length of 1 to 250 goes on and any other abandons it, each octet restarts the
gap timer, the gap timer's expiry drops the frame, a bad frame or one that completes during a reply is discarded, and a
frame of no request kind is answered UNKNOWN KIND. A reply ends with its last octet. -/
def Obligations.LinkEventsMoveTheReceiver : Prop :=
  ∀ (s : State) (b : Byte),
    let l := s.link
    let linked (l' : Link) : State := { s with link := l' }
    (l.receiver = .hunting → b = 0xC5 →
      exec (.hostOctetReceived b) s = .next (linked { l with receiver := .length, gapTimer := some 5 })) ∧
    (l.receiver = .hunting → b ≠ 0xC5 → exec (.hostOctetReceived b) s = .next s) ∧
    (l.receiver = .length → 1 ≤ b.toNat → b.toNat ≤ 250 →
      exec (.hostOctetReceived b) s = .next (linked { l with receiver := .body b.toNat [], gapTimer := some 5 })) ∧
    (l.receiver = .length → b = 0 ∨ 250 < b.toNat →
      exec (.hostOctetReceived b) s = .next (hunting s) ∧ exec (.frameAbandon b) s = .next (hunting s)) ∧
    (∀ (len : Nat) (got : List Byte), l.receiver = .body len got → got.length + 1 < len + 2 →
      exec (.hostOctetReceived b) s =
        .next (linked { l with receiver := .body len (got ++ [b]), gapTimer := some 5 })) ∧
    (∀ left : Nat, l.gapTimer = some left → exec .hostGapTimeout s = .next (hunting s)) ∧
    (∀ o : List Byte, l.reply.isSome = true ∨ o.length ≠ octetAt o 0 + 3 ∨
        (crc16 (o.take (octetAt o 0 + 1))).toNat ≠ halfAt o (octetAt o 0 + 1) →
      exec (.frameDiscard o) s = .next (hunting s)) ∧
    (∀ payload : List Byte, requestKinds.contains b.toNat = false →
      (Reachable s → exec (.unknownKind b payload) s = .next (answered b .unknownKind [] s)) ∧
      (l.reply = none → l.startPeriod.isSome = true →
        exec (.unknownKind b payload) s = .next (answered b .busy [] s))) ∧
    (∀ r : Reply, l.reply = some r →
      (r.kind = 0x4F ∧ r.status = .ok → exec .replySent s = .next (linked { l with
        receiver := .hunting, gapTimer := none, reply := none })) ∧
      (¬ (r.kind = 0x4F ∧ r.status = .ok) → exec .replySent s = .next (linked { l with reply := none }))) ∧
    exec .startPeriodEnd s = .next (linked { l with startPeriod := none })

/-- RESTART leaves a halt: each section but those in BREAKER_FAIL goes to CLOSED or LOCKOUT by its reading, and a drive
still PENDING is cancelled, its position UNKNOWN, before the serving rule looks at the head again. A cycle of the loop
starts with drives no longer held, the generators return to OFF, the buffers begin again, and the reply says whether the
part was halted, how many sections are in BREAKER_FAIL and the bus trip line. That the power reports of step 1 are taken
before the later steps is the model's choice [log 39], and so is that the sections' entries remove NO_SUPPLY [log 44]. -/
def Obligations.RestartResetsItsBlocks : Prop :=
  ∀ (s : State), Reachable s →
    let failed := (List.finRange 8).countP fun n => decide (s.secs[n].state = .breakerFail)
    ∃ t, exec (.restart []) s = .next (answered 0x4F .ok [fieldMark s.halted, .nat 2 failed, fieldMark s.busTrip] t) ∧
      t.halted = false ∧ t.busTrip = s.busTrip ∧ t.clock = s.clock ∧ t.port = s.port ∧ t.fpus = s.fpus ∧ t.arb = s.arb ∧
      t.vt.slots = s.vt.slots ∧ t.link = s.link ∧
      (s.halted = false → t.secs = s.secs ∧ t.vt = s.vt ∧ t.notices = s.notices) ∧
      (s.halted = true → ∀ n : Sec,
        let r := s.secs[n]
        (r.state = .breakerFail → t.secs[n] = r) ∧
        (r.state ≠ .breakerFail → r.feedback = .closed ∨ r.feedback = .discrepant →
          t.secs[n] = { r.standing .closed with
            tripLine := false, attempt := 0, manual := false, holds := { r.holds with noSupply := false } }) ∧
        (r.state ≠ .breakerFail → r.feedback = .opened ∨ r.feedback = .travel →
          t.secs[n] = r.standingOpen .lockout)) ∧
      (s.halted = false → ∀ k : Sw, t.sws[k] = { s.sws[k] with carried := t.sws[k].carried }) ∧
      (s.halted = true → PowerOk s → ∀ k : Sw, s.sws[k].stage = .pending →
        let w := s.sws[k]
        let cancelled : SwitchPoint := { w with
          power := (match w.feeding with | none => w.power | some n => t.secs[n].state.powered)
          driveTimer := none, stage := .none, position := .unknown }
        t.sws[k] = { cancelled.serve false with carried := t.sws[k].carried }) ∧
      t.loop.holding = false ∧ t.loop.overrun = false ∧ t.loop.stations = s.loop.stations ∧ t.loop.late = false ∧
      t.loop.cycleTimer = some s.loop.cycleTime ∧ (t.loop.exchange.isSome = true ↔ t.loop.running = true) ∧
      (∀ g : Gen, t.gens[g] = { s.gens[g] with out := .off, results := [], combined := false }) ∧
      (∀ n : Sec, t.caps[n].setting = s.caps[n].setting ∧ t.caps[n].entries = [] ∧ t.caps[n].overrun = false ∧
        t.caps[n].decCount = 0 ∧ t.caps[n].remainder = 0 ∧ t.caps[n].armed = true ∧
        t.caps[n].state = (match s.caps[n].setting.mode with
          | .off => .idle | .fill => .filling | .ring => .ringing | .freezeOnTrip => .awaitTrip
          | .onCondition => .gated) ∧
        (s.caps[n].setting.mode = .onCondition → t.caps[n].gate = false))

/-! ### Sample frames -/

/-- A complete frame with one section's sample set, in MEASURING: its current joins the history, and the rise difference,
the tracker, the filter, the sustained counter and the sequence number follow by their rules. With no trip raised nothing
else changes; with one raised, a CLOSED section enters TRIPPING with the causes raised. -/
def Obligations.ArrivalComputesTheProtection : Prop :=
  ∀ (n : Sec) (p : List Byte) (s : State),
    38 ≤ p.length → p.getD 36 0 &&& p.getD 37 0 = BitVec.twoPow 8 n.val → octetAt p 35 % 2 = 0 →
    (s.port.prevCount = none ∨ s.port.prevCount = some (p.getD 0 0 - 1)) →
    s.fpus[n].state = .measuring → (∀ g : Gen, s.gens[g].setting.sec = n → s.gens[g].setting.inputs = []) →
    s.caps[n].state = .idle →
    let f := s.fpus[n]
    let c := f.protection
    let i : Int := (BitVec.ofNat 15 (halfAt p (1 + 2 * n.val))).toInt
    let history := (i :: f.history).take 17
    let d : Int := if history.length ≤ c.window then 0 else i - history.getD c.window 0
    let acc := f.acc + ((i * 256 - f.acc) >>> c.shift)
    let sustained := if (c.level : Int) ≤ acc >>> (8 : Nat) then min (f.sustained + 1) c.duration else 0
    let event : Tracker :=
      match f.tracker with
      | .quiet =>
        if (c.riseStart : Int) ≤ d then
          .rising (history.getD c.window 0) (min c.stepCeil (c.stepBase + c.allowance * s.active n)) (s.active n) 1
        else .quiet
      | rising => rising
    let step : Bool :=
      match event with
      | .quiet => false
      | .rising start threshold _ _ => decide ((threshold : Int) ≤ i - start)
    let tracker : Tracker :=
      match event with
      | .quiet => .quiet
      | .rising start threshold nActive count =>
        if step ∨ d < (c.riseHold : Int) ∨ c.stepDuration ≤ count then .quiet
        else .rising start threshold nActive (count + 1)
    let instant : Bool := decide (i = -16384 ∨ i = 16383 ∨ c.instant ≤ i.natAbs)
    let f' : Fpu := { f with
      lossTimer := some 2, history, tracker, acc, sustained, seq := f.seq + 1, lastI := i
      lastU := halfAt p (17 + 2 * n.val) % 4096, lastD := d, lastSeq := f.seq }
    let t : State := { s with
      port := { prevCount := some (p.getD 0 0), frameTimer := some 2 }, fpus := s.fpus.set n f', draws := s.draws + 1 }
    (instant = false → step = false → sustained ≠ c.duration → exec (.sampleFrame p) s = .next t) ∧
    (instant = true ∨ step = true ∨ sustained = c.duration → s.secs[n].state ∉ [.closed, .reclaim, .closing, .tripping] →
      exec (.sampleFrame p) s = .next t) ∧
    (instant = true ∨ step = true ∨ sustained = c.duration → s.secs[n].state = .closed → s.secs[n].feedback ≠ .opened →
      ∃ t' tr, exec (.sampleFrame p) s = .next t' ∧ t'.fpus = t.fpus ∧ t'.port = t.port ∧ t'.draws = t.draws ∧
        t'.secs[n].state = .tripping ∧ (s.halted = false → t'.secs[n].tripLine = true) ∧ t'.secs[n].record = some tr ∧
        tr.origin = .closed ∧ (.instant ∈ tr.causes ↔ instant = true) ∧ (.step ∈ tr.causes ↔ step = true) ∧
        (.sustained ∈ tr.causes ↔ sustained = c.duration) ∧ tr.values.current = i ∧ tr.values.rise = d ∧
        tr.values.filtered = acc >>> (8 : Nat) ∧ tr.values.seq = f.seq ∧ tr.values.time = s.clock ∧
        (∀ m : Sec, m ≠ n → t'.secs[m] = s.secs[m]) ∧ t'.gens = s.gens ∧ t'.caps = s.caps ∧ t'.notices = s.notices ∧
        t'.loop = s.loop ∧ t'.link = s.link ∧ t'.clock = s.clock ∧ t'.vt.slots = s.vt.slots)

/-- The first arrival in STARTING or LOST moves the section to MEASURING before it is computed: the filter rebased to its
current, the history restarted with it, the sustained counter counting from 0. LOST ends with MEAS RESTORED, and a current
at the instant level trips a CLOSED section at once. -/
def Obligations.FirstArrivalEntersMeasuring : Prop :=
  ∀ (n : Sec) (p : List Byte) (s : State), OneSet n p s → s.fpus[n].state ≠ .measuring →
    1 ≤ s.fpus[n].protection.riseStart → (∀ g : Gen, s.gens[g].setting.sec = n → s.gens[g].setting.inputs = []) →
    s.caps[n].state = .idle →
    let f := s.fpus[n]
    let c := f.protection
    let i : Int := (BitVec.ofNat 15 (halfAt p (1 + 2 * n.val))).toInt
    let sustained := if (c.level : Int) ≤ i then min 1 c.duration else 0
    let instant : Prop := i = -16384 ∨ i = 16383 ∨ c.instant ≤ i.natAbs
    let f' : Fpu := { f with
      state := .measuring, lossTimer := some 2, loss := none, history := [i], tracker := .quiet, acc := 256 * i, sustained
      seq := f.seq + 1, lastI := i, lastU := halfAt p (17 + 2 * n.val) % 4096, lastD := 0, lastSeq := f.seq }
    let t (q : NoticeQueue) : State := { s with
      port := { prevCount := some (p.getD 0 0), frameTimer := some 2 }, fpus := s.fpus.set n f', draws := s.draws + 1
      notices := q }
    let restored (cause : LossCause) (since : ClockValue) : NoticeQueue :=
      s.noticed .measRestored 2 (.sec n) [word cause.code, word (s.clock - since).toNat]
    let untripped := ¬ instant ∧ sustained ≠ c.duration ∨ s.secs[n].state ∉ [.closed, .reclaim, .closing, .tripping]
    (f.state = .starting → untripped → exec (.sampleFrame p) s = .next (t s.notices)) ∧
    (∀ (cause : LossCause) (since : ClockValue), f.state = .lost → f.loss = some (cause, since) → untripped →
      exec (.sampleFrame p) s = .next (t (restored cause since))) ∧
    (instant → s.secs[n].state = .closed → s.secs[n].feedback ≠ .opened →
      ∃ t' tr, exec (.sampleFrame p) s = .next t' ∧ t'.fpus[n] = f' ∧ t'.secs[n].state = .tripping ∧
        t'.secs[n].record = some tr ∧ tr.first = .instant ∧ tr.complete = true ∧ tr.values.current = i ∧
        (f.state = .starting → t'.notices = s.notices) ∧
        (∀ (cause : LossCause) (since : ClockValue), f.state = .lost → f.loss = some (cause, since) →
          t'.notices = restored cause since) ∧
        ∀ m : Sec, m ≠ n → t'.fpus[m] = s.fpus[m] ∧ t'.secs[m] = s.secs[m])

/-- A generator bound to the section is evaluated at its arrival: each comparator on the arrival's values, the combined value
by the combine mode, the output state by its onset, release and latch. On reaching ON it queues CONDITION, opens its gate at
the buffers that name it, and raises COND, as its actions say. The other generators stay. -/
def Obligations.GeneratorsAreEvaluatedAtAnArrival : Prop :=
  ∀ (n : Sec) (g : Gen) (p : List Byte) (s : State), OneSet n p s → s.fpus[n].state = .measuring →
    s.caps[n].state = .idle → s.gens[g].setting.sec = n → s.gens[g].setting.inputs ≠ [] →
    (∀ h : Gen, h ≠ g → s.gens[h].setting.sec = n → s.gens[h].setting.inputs = []) →
    ∃ t, exec (.sampleFrame p) s = .next t ∧
      let f := t.fpus[n]
      let c := s.gens[g].setting
      let before := s.gens[g].out
      let result : Comparator → Bool
        | .iAbove level => decide (level < f.lastI.natAbs)
        | .iBelow level => decide (f.lastI.natAbs < level)
        | .uAbove level => decide (level < f.lastU)
        | .uBelow level => decide (f.lastU < level)
        | .fAbove level => decide (level < f.acc >>> (8 : Nat))
        | .rising => decide (f.tracker ≠ .quiet)
        | .presentAbove count => decide (count < s.present n)
        | .breakerClosed => decide (s.secs[n].feedback = .closed)
      let results := c.inputs.map result
      let combined := if c.all then results.all id else results.any id
      let reaches := combined && match before with
        | .off => decide (c.onset = 0)
        | .onset count => decide (c.onset ≤ count + 1)
        | _ => false
      let out : GenState :=
        if reaches then if c.latch then .latched else .on
        else match before with
          | .off => if combined then .onset 0 else .off
          | .onset count => if combined then .onset (count + 1) else .off
          | .on => if combined then .on else if c.release = 0 then .off else .release 0
          | .release count =>
            if combined then .on else if c.release ≤ count + 1 then .off else .release (count + 1)
          | .latched => .latched
      let gate (o : GenState) : Bool := c.capture && match o with | .off => false | .onset _ => false | _ => true
      let trips := reaches && c.trip
      let opened := s.secs[n].state ∈ [.closed, .reclaim, .closing] ∧ s.secs[n].feedback = .opened
      let bits := (List.range results.length).map fun k => if results.getD k false then 2 ^ k else 0
      t.gens = s.gens.set g ⟨c, out, results, combined⟩ ∧
      (∀ m : Sec, t.caps[m] = { s.caps[m] with
        gate := if s.caps[m].setting.mode = .onCondition ∧ s.caps[m].setting.gen = g ∧ gate out ≠ gate before then gate out
          else s.caps[m].gate }) ∧
      (¬ opened → t.notices = if reaches && c.notice then
          s.noticed .condition 4 (.generator g) [word (number n), f.lastSeq, word (markCode c.all), word bits.sum]
        else s.notices) ∧
      (s.secs[n].state ∉ [.closed, .reclaim, .closing, .tripping] → t.secs = s.secs) ∧
      (s.secs[n].state ∈ [.closed, .reclaim, .closing] → ¬ opened →
        (trips = true → t.secs[n].state = .tripping) ∧
        (t.secs[n].state = .tripping → ∃ tr, t.secs[n].record = some tr ∧ (.cond ∈ tr.causes ↔ trips = true) ∧
          (tr.first = .cond → tr.values =
            ⟨f.lastI, f.lastD, 0, f.acc >>> (8 : Nat), s.active n, f.lastSeq, s.clock⟩))) ∧
      (∀ tr, s.secs[n].state = .tripping → s.secs[n].record = some tr → ∃ tr', t.secs[n].record = some tr' ∧
        (.cond ∈ tr'.causes ↔ .cond ∈ tr.causes ∨ trips = true)) ∧
      (∀ m : Sec, m ≠ n → t.secs[m] = s.secs[m] ∧ t.fpus[m] = s.fpus[m]) ∧ t.arb = s.arb ∧ t.loop = s.loop ∧
      t.link = s.link ∧ t.clock = s.clock ∧ t.vt.slots = s.vt.slots ∧ t.busTrip = s.busTrip ∧ t.halted = s.halted

/-- A capture entry is taken by its buffer's state: discarded in IDLE, FULL and FROZEN; elsewhere one in N is a candidate,
written in FILLING up to 64, ring-written in RINGING, AWAIT_TRIP, POST_TRIGGER and behind an open gate, with the watermark,
the overrun, and the post-trigger count that ends in FROZEN. The FPU computes what it computes with the buffer IDLE. -/
def Obligations.CaptureEntryIsTakenByTheBuffersState : Prop :=
  ∀ (n : Sec) (p : List Byte) (s : State), OneSet n p s → s.fpus[n].state = .measuring →
    s.secs[n].state ∉ [.closed, .reclaim, .closing, .tripping] →
    (∀ g : Gen, s.gens[g].setting.sec = n → s.gens[g].setting.inputs = []) → s.caps[n].entries.length ≤ 64 →
    let b := s.caps[n]
    let held := b.entries.length
    ∃ t₀, exec (.sampleFrame p) { s with caps := s.caps.set n { b with state := .idle } } = .next t₀ ∧
      let f := t₀.fpus[n]
      let e : CaptureEntry :=
        { seq := s.fpus[n].seq, current := f.lastI, voltage := f.lastU, rise := f.lastD, filtered := f.acc >>> (8 : Nat)
          rising := decide (f.tracker ≠ .quiet), saturated := decide (f.lastI = -16384 ∨ f.lastI = 16383) }
      let t (b' : Capture) (q : NoticeQueue) : State := { t₀ with caps := s.caps.set n b', notices := q }
      let counted : Capture := { b with decCount := (b.decCount + 1) % b.setting.decimation }
      let written : Capture :=
        if held < 64 then
          { counted with entries := b.entries ++ [e], armed := b.armed && decide (held + 1 ≠ b.setting.watermark) }
        else { counted with entries := b.entries.tail ++ [e], overrun := true }
      let noticed : NoticeQueue :=
        if held < 64 then
          if b.armed = true ∧ held + 1 = b.setting.watermark then
            s.noticed .captureWatermark 2 (.sec n) [word (held + 1), e.seq]
          else s.notices
        else if b.overrun then s.notices
        else s.noticed .captureOverrun 3 (.sec n) [(b.entries.head?.map (·.seq)).getD 0]
      (b.state ∈ [.idle, .full, .frozen] → exec (.sampleFrame p) s = .next (t b s.notices)) ∧
      (b.state ∉ [.idle, .full, .frozen] → b.decCount ≠ 0 ∨ b.state = .gated ∧ b.gate = false →
        exec (.sampleFrame p) s = .next (t counted s.notices)) ∧
      (b.decCount = 0 →
        (b.state = .filling → held < 64 → exec (.sampleFrame p) s =
          .next (t (if held + 1 = 64 then { written with state := .full } else written) noticed)) ∧
        (b.state = .ringing ∨ b.state = .awaitTrip ∨ b.state = .gated ∧ b.gate = true →
          exec (.sampleFrame p) s = .next (t written noticed)) ∧
        (b.state = .postTrigger → 2 ≤ b.remainder → exec (.sampleFrame p) s =
          .next (t { written with remainder := b.remainder - 1 } noticed)) ∧
        (b.state = .postTrigger → b.remainder = 1 → exec (.sampleFrame p) s =
          .next (t { written with remainder := 0, state := .frozen }
            (noticed.take s.clock .captureFrozen 4 (.sec n)
              [word written.entries.length, e.seq, word ((b.trigger.map Cause.code).getD 0)]))))

/-- An incomplete frame is discarded; a complete one whose count does not follow restarts every history and queues SAMPLE
GAP; a loss timer's expiry and frame silence take sections to LOST, whose action TRIP raises MEAS_LOSS. -/
def Obligations.FramesLostAndMissing : Prop :=
  ∀ (s : State) (n : Sec) (p : List Byte) (left : Nat),
    let f := s.fpus[n]
    let lost (cause : LossCause) (f : Fpu) : Fpu :=
      { f with state := .lost, lossTimer := none, loss := some (cause, s.clock), tracker := .quiet }
    let gone : State := { s with
      fpus := s.fpus.set n (lost .channels f)
      notices := s.noticed .measLost 5 (.sec n)
        [0, word (match f.protection.lossAction with | .trip => 0 | .block => 1), f.lastSeq] }
    (p.length < 38 → exec (.sampleFrameIncomplete p) s = .next s) ∧
    (∀ c : Byte, 38 ≤ p.length → p.getD 36 0 &&& p.getD 37 0 = 0 → s.port.prevCount = some c → c + 1 ≠ p.getD 0 0 →
      exec (.sampleFrame p) s = .next { s with
        port := { prevCount := some (p.getD 0 0), frameTimer := some 2 }, draws := s.draws + 1
        fpus := s.fpus.map fun f => { f with history := [], tracker := .quiet }
        notices := s.noticed .sampleGap 3 .port [(c + 1).setWidth 16, (p.getD 0 0).setWidth 16] }) ∧
    (f.state ≠ .lost → f.lossTimer = some left →
      f.protection.lossAction = .block ∨ s.secs[n].state ∉ [.closed, .reclaim, .closing, .tripping] →
      exec (.lossTimerExpiry n) s = .next gone) ∧
    (f.state ≠ .lost → f.lossTimer = some left → f.protection.lossAction = .trip → s.secs[n].state = .closed →
      s.secs[n].feedback ≠ .opened → s.halted = false → s.caps[n].state ≠ .awaitTrip →
      let r := s.secs[n]
      let r' : Section := { r.standing .tripping with
        tripLine := true, opening := some r.settings.openLimit, trippingMs := 0, attempt := 0, manual := false
        limit := r.settings.tests, dead := r.settings.dead
        record := some
          { first := .measLoss, causes := [.measLoss], principal := .measLoss, complete := false, origin := .closed
            values := ⟨f.lastI, f.lastD, 0, f.acc >>> (8 : Nat), s.active n, f.lastSeq, s.clock⟩, openingTime := none } }
      exec (.lossTimerExpiry n) s = .next (State.reported n false { gone with secs := s.secs.set n r' })) ∧
    (∀ time : Nat, s.port.frameTimer = some time →
      ∃ t, exec .frameSilence s = .next t ∧ t.port = { prevCount := none, frameTimer := none } ∧
        t.draws = s.draws + 1 ∧ (∀ m : Sec, s.fpus[m].state ≠ .lost → t.fpus[m] = lost .frames s.fpus[m]) ∧
        (∀ m : Sec, s.fpus[m].state = .lost → t.fpus[m] = s.fpus[m] ∧ t.secs[m] = s.secs[m]) ∧
        (∀ m : Sec, s.fpus[m].protection.lossAction = .block → t.secs[m] = s.secs[m]) ∧
        (∀ m : Sec, s.fpus[m].state ≠ .lost → s.fpus[m].protection.lossAction = .trip → s.secs[m].state = .closed →
          s.secs[m].feedback ≠ .opened → t.secs[m].state = .tripping ∧
          ∃ tr, t.secs[m].record = some tr ∧ tr.causes = [.measLoss]) ∧
        t.gens = s.gens ∧ t.loop = s.loop ∧ t.link = s.link ∧ t.clock = s.clock ∧ t.arb = s.arb ∧
        t.vt.slots = s.vt.slots ∧ t.busTrip = s.busTrip ∧ t.halted = s.halted)
end

