-- ==== Sys2Proof/Laws/State.lean ====
section
/-!
SUPPORT. The small lemmas of the State: each field under each update of Machine/Ops.lean, and entries of an updated
vector.
-/

namespace Sys2Proof.Machine

variable (s : State)

/-! ### Entries of an updated vector -/

/-- An entry of a vector with the entry at `i` changed; in the form to which simp brings `v[j]`. -/
@[simp] theorem updateAt_get {α : Type} {m : Nat} (v : Vector α m) (i j : Fin m) (f : α → α) :
    (updateAt v i f)[j.val] = if j = i then f v[i.val] else v[j.val] := by
  unfold updateAt
  rw [Vector.getElem_set]
  simp only [Fin.ext_iff, eq_comm]
  rfl

theorem updateAt_same {α : Type} {m : Nat} (v : Vector α m) (i : Fin m) (f : α → α) :
    (updateAt v i f)[i] = f v[i] := by simp

theorem updateAt_other {α : Type} {m : Nat} (v : Vector α m) {i j : Fin m} (h : j ≠ i) (f : α → α) :
    (updateAt v i f)[j] = v[j] := by simp [h]

/-! ### modFpu -/

@[simp] theorem State.modFpu_port (n : Sec) (f : Fpu → Fpu) : (s.modFpu n f).port = s.port := rfl
@[simp] theorem State.modFpu_fpus (n : Sec) (f : Fpu → Fpu) : (s.modFpu n f).fpus = updateAt s.fpus n f := rfl
@[simp] theorem State.modFpu_gens (n : Sec) (f : Fpu → Fpu) : (s.modFpu n f).gens = s.gens := rfl
@[simp] theorem State.modFpu_caps (n : Sec) (f : Fpu → Fpu) : (s.modFpu n f).caps = s.caps := rfl
@[simp] theorem State.modFpu_secs (n : Sec) (f : Fpu → Fpu) : (s.modFpu n f).secs = s.secs := rfl
@[simp] theorem State.modFpu_busTrip (n : Sec) (f : Fpu → Fpu) : (s.modFpu n f).busTrip = s.busTrip := rfl
@[simp] theorem State.modFpu_halted (n : Sec) (f : Fpu → Fpu) : (s.modFpu n f).halted = s.halted := rfl
@[simp] theorem State.modFpu_backup (n : Sec) (f : Fpu → Fpu) : (s.modFpu n f).backup = s.backup := rfl
@[simp] theorem State.modFpu_arb (n : Sec) (f : Fpu → Fpu) : (s.modFpu n f).arb = s.arb := rfl
@[simp] theorem State.modFpu_vt (n : Sec) (f : Fpu → Fpu) : (s.modFpu n f).vt = s.vt := rfl
@[simp] theorem State.modFpu_sws (n : Sec) (f : Fpu → Fpu) : (s.modFpu n f).sws = s.sws := rfl
@[simp] theorem State.modFpu_loop (n : Sec) (f : Fpu → Fpu) : (s.modFpu n f).loop = s.loop := rfl
@[simp] theorem State.modFpu_notices (n : Sec) (f : Fpu → Fpu) : (s.modFpu n f).notices = s.notices := rfl
@[simp] theorem State.modFpu_link (n : Sec) (f : Fpu → Fpu) : (s.modFpu n f).link = s.link := rfl
@[simp] theorem State.modFpu_clock (n : Sec) (f : Fpu → Fpu) : (s.modFpu n f).clock = s.clock := rfl
@[simp] theorem State.modFpu_draws (n : Sec) (f : Fpu → Fpu) : (s.modFpu n f).draws = s.draws := rfl
@[simp] theorem State.modFpu_pending (n : Sec) (f : Fpu → Fpu) : (s.modFpu n f).pending = s.pending := rfl

/-! ### modGen -/

@[simp] theorem State.modGen_port (g : Gen) (f : Generator → Generator) : (s.modGen g f).port = s.port := rfl
@[simp] theorem State.modGen_fpus (g : Gen) (f : Generator → Generator) : (s.modGen g f).fpus = s.fpus := rfl
@[simp] theorem State.modGen_gens (g : Gen) (f : Generator → Generator) : (s.modGen g f).gens = updateAt s.gens g f := rfl
@[simp] theorem State.modGen_caps (g : Gen) (f : Generator → Generator) : (s.modGen g f).caps = s.caps := rfl
@[simp] theorem State.modGen_secs (g : Gen) (f : Generator → Generator) : (s.modGen g f).secs = s.secs := rfl
@[simp] theorem State.modGen_busTrip (g : Gen) (f : Generator → Generator) : (s.modGen g f).busTrip = s.busTrip := rfl
@[simp] theorem State.modGen_halted (g : Gen) (f : Generator → Generator) : (s.modGen g f).halted = s.halted := rfl
@[simp] theorem State.modGen_backup (g : Gen) (f : Generator → Generator) : (s.modGen g f).backup = s.backup := rfl
@[simp] theorem State.modGen_arb (g : Gen) (f : Generator → Generator) : (s.modGen g f).arb = s.arb := rfl
@[simp] theorem State.modGen_vt (g : Gen) (f : Generator → Generator) : (s.modGen g f).vt = s.vt := rfl
@[simp] theorem State.modGen_sws (g : Gen) (f : Generator → Generator) : (s.modGen g f).sws = s.sws := rfl
@[simp] theorem State.modGen_loop (g : Gen) (f : Generator → Generator) : (s.modGen g f).loop = s.loop := rfl
@[simp] theorem State.modGen_notices (g : Gen) (f : Generator → Generator) : (s.modGen g f).notices = s.notices := rfl
@[simp] theorem State.modGen_link (g : Gen) (f : Generator → Generator) : (s.modGen g f).link = s.link := rfl
@[simp] theorem State.modGen_clock (g : Gen) (f : Generator → Generator) : (s.modGen g f).clock = s.clock := rfl
@[simp] theorem State.modGen_draws (g : Gen) (f : Generator → Generator) : (s.modGen g f).draws = s.draws := rfl
@[simp] theorem State.modGen_pending (g : Gen) (f : Generator → Generator) : (s.modGen g f).pending = s.pending := rfl

/-! ### modCap -/

@[simp] theorem State.modCap_port (n : Sec) (f : Capture → Capture) : (s.modCap n f).port = s.port := rfl
@[simp] theorem State.modCap_fpus (n : Sec) (f : Capture → Capture) : (s.modCap n f).fpus = s.fpus := rfl
@[simp] theorem State.modCap_gens (n : Sec) (f : Capture → Capture) : (s.modCap n f).gens = s.gens := rfl
@[simp] theorem State.modCap_caps (n : Sec) (f : Capture → Capture) : (s.modCap n f).caps = updateAt s.caps n f := rfl
@[simp] theorem State.modCap_secs (n : Sec) (f : Capture → Capture) : (s.modCap n f).secs = s.secs := rfl
@[simp] theorem State.modCap_busTrip (n : Sec) (f : Capture → Capture) : (s.modCap n f).busTrip = s.busTrip := rfl
@[simp] theorem State.modCap_halted (n : Sec) (f : Capture → Capture) : (s.modCap n f).halted = s.halted := rfl
@[simp] theorem State.modCap_backup (n : Sec) (f : Capture → Capture) : (s.modCap n f).backup = s.backup := rfl
@[simp] theorem State.modCap_arb (n : Sec) (f : Capture → Capture) : (s.modCap n f).arb = s.arb := rfl
@[simp] theorem State.modCap_vt (n : Sec) (f : Capture → Capture) : (s.modCap n f).vt = s.vt := rfl
@[simp] theorem State.modCap_sws (n : Sec) (f : Capture → Capture) : (s.modCap n f).sws = s.sws := rfl
@[simp] theorem State.modCap_loop (n : Sec) (f : Capture → Capture) : (s.modCap n f).loop = s.loop := rfl
@[simp] theorem State.modCap_notices (n : Sec) (f : Capture → Capture) : (s.modCap n f).notices = s.notices := rfl
@[simp] theorem State.modCap_link (n : Sec) (f : Capture → Capture) : (s.modCap n f).link = s.link := rfl
@[simp] theorem State.modCap_clock (n : Sec) (f : Capture → Capture) : (s.modCap n f).clock = s.clock := rfl
@[simp] theorem State.modCap_draws (n : Sec) (f : Capture → Capture) : (s.modCap n f).draws = s.draws := rfl
@[simp] theorem State.modCap_pending (n : Sec) (f : Capture → Capture) : (s.modCap n f).pending = s.pending := rfl

/-! ### modSec -/

@[simp] theorem State.modSec_port (n : Sec) (f : Section → Section) : (s.modSec n f).port = s.port := rfl
@[simp] theorem State.modSec_fpus (n : Sec) (f : Section → Section) : (s.modSec n f).fpus = s.fpus := rfl
@[simp] theorem State.modSec_gens (n : Sec) (f : Section → Section) : (s.modSec n f).gens = s.gens := rfl
@[simp] theorem State.modSec_caps (n : Sec) (f : Section → Section) : (s.modSec n f).caps = s.caps := rfl
@[simp] theorem State.modSec_secs (n : Sec) (f : Section → Section) : (s.modSec n f).secs = updateAt s.secs n f := rfl
@[simp] theorem State.modSec_busTrip (n : Sec) (f : Section → Section) : (s.modSec n f).busTrip = s.busTrip := rfl
@[simp] theorem State.modSec_halted (n : Sec) (f : Section → Section) : (s.modSec n f).halted = s.halted := rfl
@[simp] theorem State.modSec_backup (n : Sec) (f : Section → Section) : (s.modSec n f).backup = s.backup := rfl
@[simp] theorem State.modSec_arb (n : Sec) (f : Section → Section) : (s.modSec n f).arb = s.arb := rfl
@[simp] theorem State.modSec_vt (n : Sec) (f : Section → Section) : (s.modSec n f).vt = s.vt := rfl
@[simp] theorem State.modSec_sws (n : Sec) (f : Section → Section) : (s.modSec n f).sws = s.sws := rfl
@[simp] theorem State.modSec_loop (n : Sec) (f : Section → Section) : (s.modSec n f).loop = s.loop := rfl
@[simp] theorem State.modSec_notices (n : Sec) (f : Section → Section) : (s.modSec n f).notices = s.notices := rfl
@[simp] theorem State.modSec_link (n : Sec) (f : Section → Section) : (s.modSec n f).link = s.link := rfl
@[simp] theorem State.modSec_clock (n : Sec) (f : Section → Section) : (s.modSec n f).clock = s.clock := rfl
@[simp] theorem State.modSec_draws (n : Sec) (f : Section → Section) : (s.modSec n f).draws = s.draws := rfl
@[simp] theorem State.modSec_pending (n : Sec) (f : Section → Section) : (s.modSec n f).pending = s.pending := rfl

/-! ### modSw -/

@[simp] theorem State.modSw_port (k : Sw) (f : SwitchPoint → SwitchPoint) : (s.modSw k f).port = s.port := rfl
@[simp] theorem State.modSw_fpus (k : Sw) (f : SwitchPoint → SwitchPoint) : (s.modSw k f).fpus = s.fpus := rfl
@[simp] theorem State.modSw_gens (k : Sw) (f : SwitchPoint → SwitchPoint) : (s.modSw k f).gens = s.gens := rfl
@[simp] theorem State.modSw_caps (k : Sw) (f : SwitchPoint → SwitchPoint) : (s.modSw k f).caps = s.caps := rfl
@[simp] theorem State.modSw_secs (k : Sw) (f : SwitchPoint → SwitchPoint) : (s.modSw k f).secs = s.secs := rfl
@[simp] theorem State.modSw_busTrip (k : Sw) (f : SwitchPoint → SwitchPoint) : (s.modSw k f).busTrip = s.busTrip := rfl
@[simp] theorem State.modSw_halted (k : Sw) (f : SwitchPoint → SwitchPoint) : (s.modSw k f).halted = s.halted := rfl
@[simp] theorem State.modSw_backup (k : Sw) (f : SwitchPoint → SwitchPoint) : (s.modSw k f).backup = s.backup := rfl
@[simp] theorem State.modSw_arb (k : Sw) (f : SwitchPoint → SwitchPoint) : (s.modSw k f).arb = s.arb := rfl
@[simp] theorem State.modSw_vt (k : Sw) (f : SwitchPoint → SwitchPoint) : (s.modSw k f).vt = s.vt := rfl
@[simp] theorem State.modSw_sws (k : Sw) (f : SwitchPoint → SwitchPoint) : (s.modSw k f).sws = updateAt s.sws k f := rfl
@[simp] theorem State.modSw_loop (k : Sw) (f : SwitchPoint → SwitchPoint) : (s.modSw k f).loop = s.loop := rfl
@[simp] theorem State.modSw_notices (k : Sw) (f : SwitchPoint → SwitchPoint) : (s.modSw k f).notices = s.notices := rfl
@[simp] theorem State.modSw_link (k : Sw) (f : SwitchPoint → SwitchPoint) : (s.modSw k f).link = s.link := rfl
@[simp] theorem State.modSw_clock (k : Sw) (f : SwitchPoint → SwitchPoint) : (s.modSw k f).clock = s.clock := rfl
@[simp] theorem State.modSw_draws (k : Sw) (f : SwitchPoint → SwitchPoint) : (s.modSw k f).draws = s.draws := rfl
@[simp] theorem State.modSw_pending (k : Sw) (f : SwitchPoint → SwitchPoint) : (s.modSw k f).pending = s.pending := rfl

/-! ### modArb -/

@[simp] theorem State.modArb_port (f : Arbiter → Arbiter) : (s.modArb f).port = s.port := rfl
@[simp] theorem State.modArb_fpus (f : Arbiter → Arbiter) : (s.modArb f).fpus = s.fpus := rfl
@[simp] theorem State.modArb_gens (f : Arbiter → Arbiter) : (s.modArb f).gens = s.gens := rfl
@[simp] theorem State.modArb_caps (f : Arbiter → Arbiter) : (s.modArb f).caps = s.caps := rfl
@[simp] theorem State.modArb_secs (f : Arbiter → Arbiter) : (s.modArb f).secs = s.secs := rfl
@[simp] theorem State.modArb_busTrip (f : Arbiter → Arbiter) : (s.modArb f).busTrip = s.busTrip := rfl
@[simp] theorem State.modArb_halted (f : Arbiter → Arbiter) : (s.modArb f).halted = s.halted := rfl
@[simp] theorem State.modArb_backup (f : Arbiter → Arbiter) : (s.modArb f).backup = s.backup := rfl
@[simp] theorem State.modArb_arb (f : Arbiter → Arbiter) : (s.modArb f).arb = f s.arb := rfl
@[simp] theorem State.modArb_vt (f : Arbiter → Arbiter) : (s.modArb f).vt = s.vt := rfl
@[simp] theorem State.modArb_sws (f : Arbiter → Arbiter) : (s.modArb f).sws = s.sws := rfl
@[simp] theorem State.modArb_loop (f : Arbiter → Arbiter) : (s.modArb f).loop = s.loop := rfl
@[simp] theorem State.modArb_notices (f : Arbiter → Arbiter) : (s.modArb f).notices = s.notices := rfl
@[simp] theorem State.modArb_link (f : Arbiter → Arbiter) : (s.modArb f).link = s.link := rfl
@[simp] theorem State.modArb_clock (f : Arbiter → Arbiter) : (s.modArb f).clock = s.clock := rfl
@[simp] theorem State.modArb_draws (f : Arbiter → Arbiter) : (s.modArb f).draws = s.draws := rfl
@[simp] theorem State.modArb_pending (f : Arbiter → Arbiter) : (s.modArb f).pending = s.pending := rfl

/-! ### modVt -/

@[simp] theorem State.modVt_port (f : VehicleTable → VehicleTable) : (s.modVt f).port = s.port := rfl
@[simp] theorem State.modVt_fpus (f : VehicleTable → VehicleTable) : (s.modVt f).fpus = s.fpus := rfl
@[simp] theorem State.modVt_gens (f : VehicleTable → VehicleTable) : (s.modVt f).gens = s.gens := rfl
@[simp] theorem State.modVt_caps (f : VehicleTable → VehicleTable) : (s.modVt f).caps = s.caps := rfl
@[simp] theorem State.modVt_secs (f : VehicleTable → VehicleTable) : (s.modVt f).secs = s.secs := rfl
@[simp] theorem State.modVt_busTrip (f : VehicleTable → VehicleTable) : (s.modVt f).busTrip = s.busTrip := rfl
@[simp] theorem State.modVt_halted (f : VehicleTable → VehicleTable) : (s.modVt f).halted = s.halted := rfl
@[simp] theorem State.modVt_backup (f : VehicleTable → VehicleTable) : (s.modVt f).backup = s.backup := rfl
@[simp] theorem State.modVt_arb (f : VehicleTable → VehicleTable) : (s.modVt f).arb = s.arb := rfl
@[simp] theorem State.modVt_vt (f : VehicleTable → VehicleTable) : (s.modVt f).vt = f s.vt := rfl
@[simp] theorem State.modVt_sws (f : VehicleTable → VehicleTable) : (s.modVt f).sws = s.sws := rfl
@[simp] theorem State.modVt_loop (f : VehicleTable → VehicleTable) : (s.modVt f).loop = s.loop := rfl
@[simp] theorem State.modVt_notices (f : VehicleTable → VehicleTable) : (s.modVt f).notices = s.notices := rfl
@[simp] theorem State.modVt_link (f : VehicleTable → VehicleTable) : (s.modVt f).link = s.link := rfl
@[simp] theorem State.modVt_clock (f : VehicleTable → VehicleTable) : (s.modVt f).clock = s.clock := rfl
@[simp] theorem State.modVt_draws (f : VehicleTable → VehicleTable) : (s.modVt f).draws = s.draws := rfl
@[simp] theorem State.modVt_pending (f : VehicleTable → VehicleTable) : (s.modVt f).pending = s.pending := rfl

/-! ### modLoop -/

@[simp] theorem State.modLoop_port (f : Loop → Loop) : (s.modLoop f).port = s.port := rfl
@[simp] theorem State.modLoop_fpus (f : Loop → Loop) : (s.modLoop f).fpus = s.fpus := rfl
@[simp] theorem State.modLoop_gens (f : Loop → Loop) : (s.modLoop f).gens = s.gens := rfl
@[simp] theorem State.modLoop_caps (f : Loop → Loop) : (s.modLoop f).caps = s.caps := rfl
@[simp] theorem State.modLoop_secs (f : Loop → Loop) : (s.modLoop f).secs = s.secs := rfl
@[simp] theorem State.modLoop_busTrip (f : Loop → Loop) : (s.modLoop f).busTrip = s.busTrip := rfl
@[simp] theorem State.modLoop_halted (f : Loop → Loop) : (s.modLoop f).halted = s.halted := rfl
@[simp] theorem State.modLoop_backup (f : Loop → Loop) : (s.modLoop f).backup = s.backup := rfl
@[simp] theorem State.modLoop_arb (f : Loop → Loop) : (s.modLoop f).arb = s.arb := rfl
@[simp] theorem State.modLoop_vt (f : Loop → Loop) : (s.modLoop f).vt = s.vt := rfl
@[simp] theorem State.modLoop_sws (f : Loop → Loop) : (s.modLoop f).sws = s.sws := rfl
@[simp] theorem State.modLoop_loop (f : Loop → Loop) : (s.modLoop f).loop = f s.loop := rfl
@[simp] theorem State.modLoop_notices (f : Loop → Loop) : (s.modLoop f).notices = s.notices := rfl
@[simp] theorem State.modLoop_link (f : Loop → Loop) : (s.modLoop f).link = s.link := rfl
@[simp] theorem State.modLoop_clock (f : Loop → Loop) : (s.modLoop f).clock = s.clock := rfl
@[simp] theorem State.modLoop_draws (f : Loop → Loop) : (s.modLoop f).draws = s.draws := rfl
@[simp] theorem State.modLoop_pending (f : Loop → Loop) : (s.modLoop f).pending = s.pending := rfl

/-! ### modLink -/

@[simp] theorem State.modLink_port (f : Link → Link) : (s.modLink f).port = s.port := rfl
@[simp] theorem State.modLink_fpus (f : Link → Link) : (s.modLink f).fpus = s.fpus := rfl
@[simp] theorem State.modLink_gens (f : Link → Link) : (s.modLink f).gens = s.gens := rfl
@[simp] theorem State.modLink_caps (f : Link → Link) : (s.modLink f).caps = s.caps := rfl
@[simp] theorem State.modLink_secs (f : Link → Link) : (s.modLink f).secs = s.secs := rfl
@[simp] theorem State.modLink_busTrip (f : Link → Link) : (s.modLink f).busTrip = s.busTrip := rfl
@[simp] theorem State.modLink_halted (f : Link → Link) : (s.modLink f).halted = s.halted := rfl
@[simp] theorem State.modLink_backup (f : Link → Link) : (s.modLink f).backup = s.backup := rfl
@[simp] theorem State.modLink_arb (f : Link → Link) : (s.modLink f).arb = s.arb := rfl
@[simp] theorem State.modLink_vt (f : Link → Link) : (s.modLink f).vt = s.vt := rfl
@[simp] theorem State.modLink_sws (f : Link → Link) : (s.modLink f).sws = s.sws := rfl
@[simp] theorem State.modLink_loop (f : Link → Link) : (s.modLink f).loop = s.loop := rfl
@[simp] theorem State.modLink_notices (f : Link → Link) : (s.modLink f).notices = s.notices := rfl
@[simp] theorem State.modLink_link (f : Link → Link) : (s.modLink f).link = f s.link := rfl
@[simp] theorem State.modLink_clock (f : Link → Link) : (s.modLink f).clock = s.clock := rfl
@[simp] theorem State.modLink_draws (f : Link → Link) : (s.modLink f).draws = s.draws := rfl
@[simp] theorem State.modLink_pending (f : Link → Link) : (s.modLink f).pending = s.pending := rfl

/-! ### modNotices -/

@[simp] theorem State.modNotices_port (f : NoticeQueue → NoticeQueue) : (s.modNotices f).port = s.port := rfl
@[simp] theorem State.modNotices_fpus (f : NoticeQueue → NoticeQueue) : (s.modNotices f).fpus = s.fpus := rfl
@[simp] theorem State.modNotices_gens (f : NoticeQueue → NoticeQueue) : (s.modNotices f).gens = s.gens := rfl
@[simp] theorem State.modNotices_caps (f : NoticeQueue → NoticeQueue) : (s.modNotices f).caps = s.caps := rfl
@[simp] theorem State.modNotices_secs (f : NoticeQueue → NoticeQueue) : (s.modNotices f).secs = s.secs := rfl
@[simp] theorem State.modNotices_busTrip (f : NoticeQueue → NoticeQueue) : (s.modNotices f).busTrip = s.busTrip := rfl
@[simp] theorem State.modNotices_halted (f : NoticeQueue → NoticeQueue) : (s.modNotices f).halted = s.halted := rfl
@[simp] theorem State.modNotices_backup (f : NoticeQueue → NoticeQueue) : (s.modNotices f).backup = s.backup := rfl
@[simp] theorem State.modNotices_arb (f : NoticeQueue → NoticeQueue) : (s.modNotices f).arb = s.arb := rfl
@[simp] theorem State.modNotices_vt (f : NoticeQueue → NoticeQueue) : (s.modNotices f).vt = s.vt := rfl
@[simp] theorem State.modNotices_sws (f : NoticeQueue → NoticeQueue) : (s.modNotices f).sws = s.sws := rfl
@[simp] theorem State.modNotices_loop (f : NoticeQueue → NoticeQueue) : (s.modNotices f).loop = s.loop := rfl
@[simp] theorem State.modNotices_notices (f : NoticeQueue → NoticeQueue) : (s.modNotices f).notices = f s.notices := rfl
@[simp] theorem State.modNotices_link (f : NoticeQueue → NoticeQueue) : (s.modNotices f).link = s.link := rfl
@[simp] theorem State.modNotices_clock (f : NoticeQueue → NoticeQueue) : (s.modNotices f).clock = s.clock := rfl
@[simp] theorem State.modNotices_draws (f : NoticeQueue → NoticeQueue) : (s.modNotices f).draws = s.draws := rfl
@[simp] theorem State.modNotices_pending (f : NoticeQueue → NoticeQueue) : (s.modNotices f).pending = s.pending := rfl

/-! ### modStation -/

@[simp] theorem State.modStation_port (a : Sta) (f : Station → Station) : (s.modStation a f).port = s.port := rfl
@[simp] theorem State.modStation_fpus (a : Sta) (f : Station → Station) : (s.modStation a f).fpus = s.fpus := rfl
@[simp] theorem State.modStation_gens (a : Sta) (f : Station → Station) : (s.modStation a f).gens = s.gens := rfl
@[simp] theorem State.modStation_caps (a : Sta) (f : Station → Station) : (s.modStation a f).caps = s.caps := rfl
@[simp] theorem State.modStation_secs (a : Sta) (f : Station → Station) : (s.modStation a f).secs = s.secs := rfl
@[simp] theorem State.modStation_busTrip (a : Sta) (f : Station → Station) : (s.modStation a f).busTrip = s.busTrip := rfl
@[simp] theorem State.modStation_halted (a : Sta) (f : Station → Station) : (s.modStation a f).halted = s.halted := rfl
@[simp] theorem State.modStation_backup (a : Sta) (f : Station → Station) : (s.modStation a f).backup = s.backup := rfl
@[simp] theorem State.modStation_arb (a : Sta) (f : Station → Station) : (s.modStation a f).arb = s.arb := rfl
@[simp] theorem State.modStation_vt (a : Sta) (f : Station → Station) : (s.modStation a f).vt = s.vt := rfl
@[simp] theorem State.modStation_sws (a : Sta) (f : Station → Station) : (s.modStation a f).sws = s.sws := rfl
@[simp] theorem State.modStation_loop (a : Sta) (f : Station → Station) : (s.modStation a f).loop = { s.loop with stations := updateAt s.loop.stations a f } := rfl
@[simp] theorem State.modStation_notices (a : Sta) (f : Station → Station) : (s.modStation a f).notices = s.notices := rfl
@[simp] theorem State.modStation_link (a : Sta) (f : Station → Station) : (s.modStation a f).link = s.link := rfl
@[simp] theorem State.modStation_clock (a : Sta) (f : Station → Station) : (s.modStation a f).clock = s.clock := rfl
@[simp] theorem State.modStation_draws (a : Sta) (f : Station → Station) : (s.modStation a f).draws = s.draws := rfl
@[simp] theorem State.modStation_pending (a : Sta) (f : Station → Station) : (s.modStation a f).pending = s.pending := rfl

/-! ### modSlot -/

@[simp] theorem State.modSlot_port (i : Slot) (f : Vehicle → Vehicle) : (s.modSlot i f).port = s.port := rfl
@[simp] theorem State.modSlot_fpus (i : Slot) (f : Vehicle → Vehicle) : (s.modSlot i f).fpus = s.fpus := rfl
@[simp] theorem State.modSlot_gens (i : Slot) (f : Vehicle → Vehicle) : (s.modSlot i f).gens = s.gens := rfl
@[simp] theorem State.modSlot_caps (i : Slot) (f : Vehicle → Vehicle) : (s.modSlot i f).caps = s.caps := rfl
@[simp] theorem State.modSlot_secs (i : Slot) (f : Vehicle → Vehicle) : (s.modSlot i f).secs = s.secs := rfl
@[simp] theorem State.modSlot_busTrip (i : Slot) (f : Vehicle → Vehicle) : (s.modSlot i f).busTrip = s.busTrip := rfl
@[simp] theorem State.modSlot_halted (i : Slot) (f : Vehicle → Vehicle) : (s.modSlot i f).halted = s.halted := rfl
@[simp] theorem State.modSlot_backup (i : Slot) (f : Vehicle → Vehicle) : (s.modSlot i f).backup = s.backup := rfl
@[simp] theorem State.modSlot_arb (i : Slot) (f : Vehicle → Vehicle) : (s.modSlot i f).arb = s.arb := rfl
@[simp] theorem State.modSlot_vt (i : Slot) (f : Vehicle → Vehicle) : (s.modSlot i f).vt = { s.vt with slots := updateAt s.vt.slots i (Option.map f) } := rfl
@[simp] theorem State.modSlot_sws (i : Slot) (f : Vehicle → Vehicle) : (s.modSlot i f).sws = s.sws := rfl
@[simp] theorem State.modSlot_loop (i : Slot) (f : Vehicle → Vehicle) : (s.modSlot i f).loop = s.loop := rfl
@[simp] theorem State.modSlot_notices (i : Slot) (f : Vehicle → Vehicle) : (s.modSlot i f).notices = s.notices := rfl
@[simp] theorem State.modSlot_link (i : Slot) (f : Vehicle → Vehicle) : (s.modSlot i f).link = s.link := rfl
@[simp] theorem State.modSlot_clock (i : Slot) (f : Vehicle → Vehicle) : (s.modSlot i f).clock = s.clock := rfl
@[simp] theorem State.modSlot_draws (i : Slot) (f : Vehicle → Vehicle) : (s.modSlot i f).draws = s.draws := rfl
@[simp] theorem State.modSlot_pending (i : Slot) (f : Vehicle → Vehicle) : (s.modSlot i f).pending = s.pending := rfl

/-! ### drawn -/

@[simp] theorem State.drawn_port : (s.drawn).port = s.port := rfl
@[simp] theorem State.drawn_fpus : (s.drawn).fpus = s.fpus := rfl
@[simp] theorem State.drawn_gens : (s.drawn).gens = s.gens := rfl
@[simp] theorem State.drawn_caps : (s.drawn).caps = s.caps := rfl
@[simp] theorem State.drawn_secs : (s.drawn).secs = s.secs := rfl
@[simp] theorem State.drawn_busTrip : (s.drawn).busTrip = s.busTrip := rfl
@[simp] theorem State.drawn_halted : (s.drawn).halted = s.halted := rfl
@[simp] theorem State.drawn_backup : (s.drawn).backup = s.backup := rfl
@[simp] theorem State.drawn_arb : (s.drawn).arb = s.arb := rfl
@[simp] theorem State.drawn_vt : (s.drawn).vt = s.vt := rfl
@[simp] theorem State.drawn_sws : (s.drawn).sws = s.sws := rfl
@[simp] theorem State.drawn_loop : (s.drawn).loop = s.loop := rfl
@[simp] theorem State.drawn_notices : (s.drawn).notices = s.notices := rfl
@[simp] theorem State.drawn_link : (s.drawn).link = s.link := rfl
@[simp] theorem State.drawn_clock : (s.drawn).clock = s.clock := rfl
@[simp] theorem State.drawn_draws : (s.drawn).draws = s.draws + 1 := rfl
@[simp] theorem State.drawn_pending : (s.drawn).pending = s.pending := rfl

end Sys2Proof.Machine
end

