-- ==== Sys2Proof/Laws/Ops.lean ====
section
/-!
SUPPORT. What each shared operation of Machine/Ops.lean and Machine/Answer.lean can do, said once: queuing a notice,
taking the blocks in turn, taking a request and naming a thing.
-/

namespace Sys2Proof.Machine

variable (s : State)

/-! ### Queuing a notice -/

@[simp] theorem queueNotice_port (kind : NoticeKind) (p : Nat) (src : Source) (ws : List Half) :
    (queueNotice kind p src ws s).port = s.port := rfl
@[simp] theorem queueNotice_fpus (kind : NoticeKind) (p : Nat) (src : Source) (ws : List Half) :
    (queueNotice kind p src ws s).fpus = s.fpus := rfl
@[simp] theorem queueNotice_gens (kind : NoticeKind) (p : Nat) (src : Source) (ws : List Half) :
    (queueNotice kind p src ws s).gens = s.gens := rfl
@[simp] theorem queueNotice_caps (kind : NoticeKind) (p : Nat) (src : Source) (ws : List Half) :
    (queueNotice kind p src ws s).caps = s.caps := rfl
@[simp] theorem queueNotice_secs (kind : NoticeKind) (p : Nat) (src : Source) (ws : List Half) :
    (queueNotice kind p src ws s).secs = s.secs := rfl
@[simp] theorem queueNotice_busTrip (kind : NoticeKind) (p : Nat) (src : Source) (ws : List Half) :
    (queueNotice kind p src ws s).busTrip = s.busTrip := rfl
@[simp] theorem queueNotice_halted (kind : NoticeKind) (p : Nat) (src : Source) (ws : List Half) :
    (queueNotice kind p src ws s).halted = s.halted := rfl
@[simp] theorem queueNotice_backup (kind : NoticeKind) (p : Nat) (src : Source) (ws : List Half) :
    (queueNotice kind p src ws s).backup = s.backup := rfl
@[simp] theorem queueNotice_arb (kind : NoticeKind) (p : Nat) (src : Source) (ws : List Half) :
    (queueNotice kind p src ws s).arb = s.arb := rfl
@[simp] theorem queueNotice_vt (kind : NoticeKind) (p : Nat) (src : Source) (ws : List Half) :
    (queueNotice kind p src ws s).vt = s.vt := rfl
@[simp] theorem queueNotice_sws (kind : NoticeKind) (p : Nat) (src : Source) (ws : List Half) :
    (queueNotice kind p src ws s).sws = s.sws := rfl
@[simp] theorem queueNotice_loop (kind : NoticeKind) (p : Nat) (src : Source) (ws : List Half) :
    (queueNotice kind p src ws s).loop = s.loop := rfl
@[simp] theorem queueNotice_notices (kind : NoticeKind) (p : Nat) (src : Source) (ws : List Half) :
    (queueNotice kind p src ws s).notices = s.notices.take s.clock kind p src ws := rfl
@[simp] theorem queueNotice_link (kind : NoticeKind) (p : Nat) (src : Source) (ws : List Half) :
    (queueNotice kind p src ws s).link = s.link := rfl
@[simp] theorem queueNotice_clock (kind : NoticeKind) (p : Nat) (src : Source) (ws : List Half) :
    (queueNotice kind p src ws s).clock = s.clock := rfl
@[simp] theorem queueNotice_draws (kind : NoticeKind) (p : Nat) (src : Source) (ws : List Half) :
    (queueNotice kind p src ws s).draws = s.draws := rfl
@[simp] theorem queueNotice_pending (kind : NoticeKind) (p : Nat) (src : Source) (ws : List Half) :
    (queueNotice kind p src ws s).pending = s.pending := rfl

/-- The Notice Queue takes a notice in one of three ways (R165, R166, R167). -/
theorem NoticeQueue.take_cases (q : NoticeQueue) (time : ClockValue) (kind : NoticeKind) (p : Nat) (src : Source)
    (ws : List Half) :
    (q.overflow = false ∧ q.records.length < 47 ∧ q.take time kind p src ws = q.store time kind p src ws) ∨
    (q.overflow = false ∧ 47 ≤ q.records.length ∧ q.take time kind p src ws =
      { q.store time .overflow 6 .link [word kind.code, word p, 1, word p] with overflow := true }) ∨
    (q.overflow = true ∧ q.take time kind p src ws =
      { q with records := modifyNewest (fun r => { r with words := countDropped p r.words }) q.records }) := by
  unfold NoticeQueue.take
  by_cases ho : q.overflow = true
  · simp [ho]
  · by_cases hl : q.records.length < 47
    · simp [ho, hl]
    · simp [ho, hl]; omega

/-- A change of the newest element keeps the length. -/
@[simp] theorem modifyNewest_length {α : Type} (f : α → α) (l : List α) : (modifyNewest f l).length = l.length := by
  induction l with
  | nil => rfl
  | cons x xs ih =>
    cases xs with
    | nil => rfl
    | cons y ys => simpa [modifyNewest] using ih

/-! ### Blocks taken in turn -/

@[simp] theorem forEach_nil {ι : Type} (f : ι → State → State) : forEach [] f s = s := rfl

@[simp] theorem forEach_cons {ι : Type} (i : ι) (l : List ι) (f : ι → State → State) :
    forEach (i :: l) f s = forEach l f (f i s) := rfl

/-- What each of the turns keeps, the whole keeps. -/
theorem forEach_keeps {ι : Type} {P : State → Prop} {f : ι → State → State} (l : List ι)
    (h : ∀ i ∈ l, ∀ s, P s → P (f i s)) : ∀ s, P s → P (forEach l f s) := by
  induction l with
  | nil => exact fun s hs => hs
  | cons i l ih =>
    intro s hs
    exact ih (fun j hj => h j (by simp [hj])) _ (h i (by simp) s hs)

theorem insertByRank_perm (rank : Nat → Nat) (i : Fin 8) (l : List (Fin 8)) :
    (insertByRank rank i l).Perm (i :: l) := by
  induction l with
  | nil => exact .refl _
  | cons j js ih =>
    unfold insertByRank
    split
    · exact .refl _
    · exact (ih.cons j).trans (.swap i j js)

/-- The drawn order takes each of the eight blocks once. -/
theorem orderByRank_perm (rank : Nat → Nat) : (orderByRank rank).Perm (List.finRange 8) := by
  unfold orderByRank
  generalize List.finRange 8 = l
  induction l with
  | nil => exact .refl _
  | cons i l ih => exact (insertByRank_perm rank i _).trans (ih.cons i)

theorem State.mem_order (n : Fin 8) : n ∈ s.order := by
  unfold State.order
  exact (orderByRank_perm _).mem_iff.mpr (List.mem_finRange n)

theorem State.order_nodup : s.order.Nodup :=
  (orderByRank_perm _).nodup_iff.mpr (List.nodup_finRange 8)

theorem State.mem_generatorOrder (n : Sec) (g : Gen) : g ∈ s.generatorOrder n := by
  unfold State.generatorOrder
  exact (orderByRank_perm _).mem_iff.mpr (List.mem_finRange g)

theorem State.generatorOrder_nodup (n : Sec) : (s.generatorOrder n).Nodup :=
  (orderByRank_perm _).nodup_iff.mpr (List.nodup_finRange 8)

/-! ### Taking a request (R177, R178, R182) -/

variable (kind : Byte) (sizeOk duringHalt : Bool) (owner : State → Answer)

/-- While a reply is in progress a request is discarded (R177). -/
theorem takeRequest_discarded (h : s.link.reply.isSome = true) :
    takeRequest kind sizeOk duringHalt owner s = hunting s := by
  unfold takeRequest
  simp [Link.toHunting, hunting, State.modLink, h]

/-- In the start period a request is answered BUSY (R178 check 1). -/
theorem takeRequest_busy (hr : s.link.reply = none) (hp : s.link.startPeriod.isSome = true) :
    takeRequest kind sizeOk duringHalt owner s = answered kind .busy [] s := by
  unfold takeRequest
  simp [Link.toHunting, answered, reply, State.modLink, hr, hp]

/-- A payload of the wrong size is answered BAD LENGTH (R178 check 3). -/
theorem takeRequest_badLength (h : Reachable s) :
    takeRequest kind false duringHalt owner s = answered kind .badLength [] s := by
  obtain ⟨hr, hp⟩ := h
  unfold takeRequest
  simp [Link.toHunting, answered, reply, State.modLink, hr, hp]

/-- A request refused during a halt is answered HALTED (R178 check 4). -/
theorem takeRequest_halted (h : Reachable s) (hh : s.halted = true) :
    takeRequest kind true false owner s = answered kind .halted [] s := by
  obtain ⟨hr, hp⟩ := h
  unfold takeRequest
  simp [Link.toHunting, answered, reply, State.modLink, hr, hp, hh]

/-- A request that passes the Link Controller's checks is its block's: the reply shows what the block decides. -/
theorem takeRequest_owner (h : Reachable s) (hh : s.halted = true → duringHalt = true) :
    takeRequest kind true duringHalt owner s =
      reply kind (owner (hunting s)).status (owner (hunting s)).fields (owner (hunting s)).state := by
  obtain ⟨hr, hp⟩ := h
  unfold takeRequest
  cases hd : duringHalt <;> cases hs : s.halted <;>
    simp_all [Link.toHunting, hunting, State.modLink]

/-- A payload of its kind's size passes check 3. -/
theorem takeFixed_sized (size : Nat) (p : List Byte) (h : p.length = size) :
    takeFixed kind size duringHalt p owner s = takeRequest kind true duringHalt owner s := by
  simp [takeFixed, h]

theorem takeFixed_badLength (size : Nat) (p : List Byte) (h : p.length ≠ size) (hs : Reachable s) :
    takeFixed kind size duringHalt p owner s = answered kind .badLength [] s := by
  have : (p.length == size) = false := by simp [h]
  rw [takeFixed, this, takeRequest_badLength s kind duringHalt owner hs]

/-! ### The LOOP DIRECTION line (R151, R158) -/

/-- It stands at transmit exactly while a request goes out. -/
theorem Loop.direction_transmit (l : Loop) :
    l.direction = .transmit ↔ ∃ e, l.exchange = some e ∧ e.phase = .sending := by
  unfold Loop.direction
  cases l.exchange with
  | none => simp
  | some e => cases h : e.phase <;> simp [h]

@[simp] theorem beginExchange_direction (a : Sta) (c : LoopCommand) :
    (beginExchange a c s).loop.direction = .transmit := rfl

@[simp] theorem dropExchange_direction : (dropExchange s).loop.direction = .receive := rfl

@[simp] theorem loopSent_direction : (loopSent s).loop.direction = .receive := by
  unfold loopSent
  cases h : s.loop.exchange with
  | none => simp [Loop.direction, h]
  | some e => cases hp : e.phase <;> simp [Loop.direction, State.modLoop, h, hp]

/-! ### Naming a thing (R181) -/

@[simp] theorem indexOf_number {m : Nat} (i : Fin m) : indexOf m (number i) = some i := by
  unfold indexOf number
  rw [dif_pos (by omega)]
  rfl

theorem indexOf_eq_some {m k : Nat} (i : Fin m) : indexOf m k = some i ↔ k = number i := by
  unfold indexOf number
  by_cases h : 1 ≤ k ∧ k ≤ m
  · rw [dif_pos h]
    simp only [Option.some.injEq, Fin.ext_iff]
    omega
  · rw [dif_neg h]
    have := i.isLt
    constructor
    · intro h'; cases h'
    · intro h'; omega

theorem indexOf_eq_none {m k : Nat} : indexOf m k = none ↔ k = 0 ∨ m < k := by
  unfold indexOf
  by_cases h : 1 ≤ k ∧ k ≤ m
  · rw [dif_pos h]; constructor
    · intro h'; cases h'
    · omega
  · rw [dif_neg h]; simp; omega

theorem naming_named {m : Nat} (p : List Byte) (o : Fin m → State → Answer) (i : Fin m)
    (h : octetAt p 0 = number i) : naming m p o s = o i s := by
  simp [naming, h]

theorem naming_outside {m : Nat} (p : List Byte) (o : Fin m → State → Answer)
    (h : octetAt p 0 = 0 ∨ m < octetAt p 0) : naming m p o s = badArgument s := by
  simp [naming, indexOf_eq_none.mpr h]

end Sys2Proof.Machine
end

