-- ==== Sys2Proof/Laws/Joining.lean ====
section
/-!
SUPPORT. Joining the test list said once (R77, R78, R57, R81): what enterTestWait leaves is State.joining.
-/

namespace Sys2Proof.Machine

variable (s : State)

/-- With no circuit to be granted, the grant rule changes nothing. -/
theorem grantLoop_idle (fuel : Nat) (h : s.arb.freeCircuit = none ∨ s.arb.count ≤ s.arb.held) :
    grantLoop fuel s = s := by
  cases fuel with
  | zero => rfl
  | succ m =>
    unfold grantLoop
    split
    · rename_i n rest c hw hc
      rcases h with h | h
      · rw [h] at hc; cases hc
      · have : ¬ s.arb.held < s.arb.count := by omega
        simp [this]
    · rfl

/-- An empty list gets no grant. -/
theorem grantLoop_empty (fuel : Nat) (h : s.arb.waiting = []) : grantLoop fuel s = s := by
  cases fuel with
  | zero => rfl
  | succ m => unfold grantLoop; rw [h]

/-- Section `n`, its record being `r`, enters TEST_WAIT and joins the list. -/
theorem enterTestWait_eq (n : Sec) (r : Section) (hh : s.halted = false) (hn : n ∉ s.arb.waiting) (hg : GrantsOk s) :
    enterTestWait n { s with secs := s.secs.set n r } = s.joining n r := by
  have he : enter n .testWait { s with secs := s.secs.set n r } =
      { s with secs := s.secs.set n { r.standing .testWait with tripLine := true } } := by
    simp [enter, State.modSec, updateAt, Section.entered, Section.withLines, Section.standing, SecState.openLike,
      SecState.tripAtEntry, hh]
  unfold enterTestWait
  rw [he]
  unfold joinTestList State.joining
  simp only [State.modArb, hn, if_false]
  by_cases hc : s.arb.waiting = [] ∧ s.arb.held < s.arb.count
  · rw [if_pos hc]
    cases hf : s.arb.freeCircuit with
    | none =>
      unfold applyGrants
      exact grantLoop_idle _ _ (Or.inl hf)
    | some c =>
      have hf' : ({ s.arb with waiting := [n] } : Arbiter).freeCircuit = some c := hf
      have hd : ({ s.arb with waiting := [n] } : Arbiter).held < s.arb.count := hc.2
      unfold applyGrants
      simp only [hc.1, List.nil_append, List.length_singleton]
      unfold grantLoop
      simp only [hf', hd, hh, State.modArb, decide_true, Bool.not_false, Bool.and_self, if_true]
      rw [grantLoop_empty]
      · unfold takeGrant
        simp [State.modArb, State.modSec, enter, updateAt, Section.entered, Section.withLines, Section.standing,
          SecState.openLike, SecState.tripAtEntry]
        rfl
      · unfold takeGrant
        simp [State.modArb, State.modSec, enter, updateAt, Section.standing]
  · rw [if_neg hc]
    unfold applyGrants
    refine grantLoop_idle _ _ ?_
    rcases hg with h | h | h
    · right
      have : ¬ s.arb.held < s.arb.count := fun h' => hc ⟨h, h'⟩
      exact Nat.le_of_not_lt this
    · exact Or.inl h
    · exact Or.inr h

end Sys2Proof.Machine
end

