-- ==== Sys2Proof/Laws/PerInstr.lean ====
section
/-!
SUPPORT. What holds of every command as syntax: the octets a well-formed command carries from a line fit the longest
frame of the part's lines, 253 octets from the length octet on (R176).
-/

namespace Sys2Proof.Laws

/-- The octets of a payload, a frame or a reply that a command reads, none for an event that carries none. -/
def Operands.octets (i : Instr) : List Byte :=
  match i with
  | .coldReset _ _ => []
  | .sampleFrame octets => octets.take 38
  | .sampleFrameIncomplete octets => octets
  | .lossTimerExpiry _ => []
  | .frameSilence => []
  | .breakerFeedbackChange _ _ => []
  | .discrepancyTimerExpiry _ => []
  | .openingSupervisionExpiry _ => []
  | .deadTimerExpiry _ => []
  | .holdLimitExpiry _ => []
  | .holdTimerExpiry _ => []
  | .settleTimerExpiry _ => []
  | .closeSupervisionExpiry _ => []
  | .reclaimExpiry _ => []
  | .lostTimerExpiry _ => []
  | .forgetTimerExpiry _ => []
  | .poleTimerExpiry _ => []
  | .passageTimerExpiry _ => []
  | .driveSupervisionExpiry _ => []
  | .cycleTimerExpiry => []
  | .loopRequestSent => []
  | .startLimitExpiry => []
  | .gapLimitExpiry => []
  | .loopReplyComplete octets => octets
  | .hostGapTimeout => []
  | .frameAbandon _ => []
  | .frameDiscard octets => octets
  | .unknownKind _ payload => payload
  | .replySent => []
  | .startPeriodEnd => []
  | .setProtection payload => payload
  | .getProtection payload => payload
  | .rebaseFilter payload => payload
  | .getMeasurement payload => payload
  | .setCondition payload => payload
  | .getCondition payload => payload
  | .ackCondition payload => payload
  | .setCapture payload => payload
  | .getCapture payload => payload
  | .fetchCapture payload => payload
  | .setSection payload => payload
  | .getSectionSettings payload => payload
  | .setBackupTrip payload => payload
  | .getBackupTrip payload => payload
  | .getSection payload => payload
  | .closeSection payload => payload
  | .openSection payload => payload
  | .forceClose payload => payload
  | .clearLockout payload => payload
  | .isolate payload => payload
  | .deisolate payload => payload
  | .intertrip payload => payload
  | .holdReclose payload => payload
  | .extendHold payload => payload
  | .releaseHold payload => payload
  | .releaseBusTrip payload => payload
  | .setTestCircuits payload => payload
  | .getTestStatus payload => payload
  | .getTestResult payload => payload
  | .setVehicleTiming payload => payload
  | .getVehicleTiming payload => payload
  | .getVehicle payload => payload
  | .listVehicles payload => payload
  | .removeVehicle payload => payload
  | .clearFault payload => payload
  | .configureSwitch payload => payload
  | .setSwitch payload => payload
  | .pinSwitch payload => payload
  | .unpinSwitch payload => payload
  | .clearSwitchLock payload => payload
  | .getSwitch payload => payload
  | .setStation payload => payload
  | .removeStation payload => payload
  | .setCycleTime payload => payload
  | .getLoopStatus payload => payload
  | .loopSkip payload => payload
  | .loopReset payload => payload
  | .getStation payload => payload
  | .fetchNotices payload => payload
  | .setAttention payload => payload
  | .getNoticeStatus payload => payload
  | .setTime payload => payload
  | .getTime payload => payload
  | .restart payload => payload
  | .hostOctetReceived _ => []
  | .loopOctetReceived _ => []
  | .clockTick => []

/-- A well-formed command's octets fit the longest frame. -/
def Operands.Statement (i : Instr) : Prop := i.wf = true → (Operands.octets i).length ≤ 253

theorem payload_fits {p : List Byte} (h : payloadFits p = true) : p.length ≤ 253 :=
  (of_decide_eq_true h).trans (by decide)

theorem loopReply_fits {p : List Byte} (h : loopReplyWhole p = true) : p.length ≤ 253 := by
  cases p with
  | nil => exact Nat.zero_le _
  | cons n rest =>
    simp only [loopReplyWhole, Bool.and_eq_true, decide_eq_true_eq] at h
    simp only [List.length_cons]
    omega

theorem hostFrame_fits {p : List Byte} (h : hostFrameWhole p = true) : p.length ≤ 253 := by
  cases p with
  | nil => exact Nat.zero_le _
  | cons n rest =>
    simp only [hostFrameWhole, Bool.and_eq_true, decide_eq_true_eq] at h
    simp only [List.length_cons]
    omega

theorem Operands.coldReset (highRate : Bool) (contacts : Vector Contacts 8) : Operands.Statement (.coldReset highRate contacts) :=
  fun _ => Nat.zero_le _

theorem Operands.sampleFrame (octets : List Byte) : Operands.Statement (.sampleFrame octets) :=
  fun _ => (List.length_take_le _ _).trans (by decide)

theorem Operands.sampleFrameIncomplete (octets : List Byte) : Operands.Statement (.sampleFrameIncomplete octets) :=
  fun h => (of_decide_eq_true h).le.trans (by decide)

theorem Operands.lossTimerExpiry (n : Sec) : Operands.Statement (.lossTimerExpiry n) :=
  fun _ => Nat.zero_le _

theorem Operands.frameSilence : Operands.Statement .frameSilence :=
  fun _ => Nat.zero_le _

theorem Operands.breakerFeedbackChange (n : Sec) (contacts : Contacts) : Operands.Statement (.breakerFeedbackChange n contacts) :=
  fun _ => Nat.zero_le _

theorem Operands.discrepancyTimerExpiry (n : Sec) : Operands.Statement (.discrepancyTimerExpiry n) :=
  fun _ => Nat.zero_le _

theorem Operands.openingSupervisionExpiry (n : Sec) : Operands.Statement (.openingSupervisionExpiry n) :=
  fun _ => Nat.zero_le _

theorem Operands.deadTimerExpiry (n : Sec) : Operands.Statement (.deadTimerExpiry n) :=
  fun _ => Nat.zero_le _

theorem Operands.holdLimitExpiry (n : Sec) : Operands.Statement (.holdLimitExpiry n) :=
  fun _ => Nat.zero_le _

theorem Operands.holdTimerExpiry (n : Sec) : Operands.Statement (.holdTimerExpiry n) :=
  fun _ => Nat.zero_le _

theorem Operands.settleTimerExpiry (c : Circuit) : Operands.Statement (.settleTimerExpiry c) :=
  fun _ => Nat.zero_le _

theorem Operands.closeSupervisionExpiry (n : Sec) : Operands.Statement (.closeSupervisionExpiry n) :=
  fun _ => Nat.zero_le _

theorem Operands.reclaimExpiry (n : Sec) : Operands.Statement (.reclaimExpiry n) :=
  fun _ => Nat.zero_le _

theorem Operands.lostTimerExpiry (slot : Slot) : Operands.Statement (.lostTimerExpiry slot) :=
  fun _ => Nat.zero_le _

theorem Operands.forgetTimerExpiry (slot : Slot) : Operands.Statement (.forgetTimerExpiry slot) :=
  fun _ => Nat.zero_le _

theorem Operands.poleTimerExpiry (k : Sw) : Operands.Statement (.poleTimerExpiry k) :=
  fun _ => Nat.zero_le _

theorem Operands.passageTimerExpiry (k : Sw) : Operands.Statement (.passageTimerExpiry k) :=
  fun _ => Nat.zero_le _

theorem Operands.driveSupervisionExpiry (k : Sw) : Operands.Statement (.driveSupervisionExpiry k) :=
  fun _ => Nat.zero_le _

theorem Operands.cycleTimerExpiry : Operands.Statement .cycleTimerExpiry :=
  fun _ => Nat.zero_le _

theorem Operands.loopRequestSent : Operands.Statement .loopRequestSent :=
  fun _ => Nat.zero_le _

theorem Operands.startLimitExpiry : Operands.Statement .startLimitExpiry :=
  fun _ => Nat.zero_le _

theorem Operands.gapLimitExpiry : Operands.Statement .gapLimitExpiry :=
  fun _ => Nat.zero_le _

theorem Operands.loopReplyComplete (octets : List Byte) : Operands.Statement (.loopReplyComplete octets) :=
  fun h => loopReply_fits h

theorem Operands.hostGapTimeout : Operands.Statement .hostGapTimeout :=
  fun _ => Nat.zero_le _

theorem Operands.frameAbandon (octet : Byte) : Operands.Statement (.frameAbandon octet) :=
  fun _ => Nat.zero_le _

theorem Operands.frameDiscard (octets : List Byte) : Operands.Statement (.frameDiscard octets) :=
  fun h => hostFrame_fits h

theorem Operands.unknownKind (kind : Byte) (payload : List Byte) : Operands.Statement (.unknownKind kind payload) :=
  fun h => payload_fits (Bool.and_eq_true_iff.1 h).2

theorem Operands.replySent : Operands.Statement .replySent :=
  fun _ => Nat.zero_le _

theorem Operands.startPeriodEnd : Operands.Statement .startPeriodEnd :=
  fun _ => Nat.zero_le _

theorem Operands.setProtection (payload : List Byte) : Operands.Statement (.setProtection payload) :=
  fun h => payload_fits h

theorem Operands.getProtection (payload : List Byte) : Operands.Statement (.getProtection payload) :=
  fun h => payload_fits h

theorem Operands.rebaseFilter (payload : List Byte) : Operands.Statement (.rebaseFilter payload) :=
  fun h => payload_fits h

theorem Operands.getMeasurement (payload : List Byte) : Operands.Statement (.getMeasurement payload) :=
  fun h => payload_fits h

theorem Operands.setCondition (payload : List Byte) : Operands.Statement (.setCondition payload) :=
  fun h => payload_fits h

theorem Operands.getCondition (payload : List Byte) : Operands.Statement (.getCondition payload) :=
  fun h => payload_fits h

theorem Operands.ackCondition (payload : List Byte) : Operands.Statement (.ackCondition payload) :=
  fun h => payload_fits h

theorem Operands.setCapture (payload : List Byte) : Operands.Statement (.setCapture payload) :=
  fun h => payload_fits h

theorem Operands.getCapture (payload : List Byte) : Operands.Statement (.getCapture payload) :=
  fun h => payload_fits h

theorem Operands.fetchCapture (payload : List Byte) : Operands.Statement (.fetchCapture payload) :=
  fun h => payload_fits h

theorem Operands.setSection (payload : List Byte) : Operands.Statement (.setSection payload) :=
  fun h => payload_fits h

theorem Operands.getSectionSettings (payload : List Byte) : Operands.Statement (.getSectionSettings payload) :=
  fun h => payload_fits h

theorem Operands.setBackupTrip (payload : List Byte) : Operands.Statement (.setBackupTrip payload) :=
  fun h => payload_fits h

theorem Operands.getBackupTrip (payload : List Byte) : Operands.Statement (.getBackupTrip payload) :=
  fun h => payload_fits h

theorem Operands.getSection (payload : List Byte) : Operands.Statement (.getSection payload) :=
  fun h => payload_fits h

theorem Operands.closeSection (payload : List Byte) : Operands.Statement (.closeSection payload) :=
  fun h => payload_fits h

theorem Operands.openSection (payload : List Byte) : Operands.Statement (.openSection payload) :=
  fun h => payload_fits h

theorem Operands.forceClose (payload : List Byte) : Operands.Statement (.forceClose payload) :=
  fun h => payload_fits h

theorem Operands.clearLockout (payload : List Byte) : Operands.Statement (.clearLockout payload) :=
  fun h => payload_fits h

theorem Operands.isolate (payload : List Byte) : Operands.Statement (.isolate payload) :=
  fun h => payload_fits h

theorem Operands.deisolate (payload : List Byte) : Operands.Statement (.deisolate payload) :=
  fun h => payload_fits h

theorem Operands.intertrip (payload : List Byte) : Operands.Statement (.intertrip payload) :=
  fun h => payload_fits h

theorem Operands.holdReclose (payload : List Byte) : Operands.Statement (.holdReclose payload) :=
  fun h => payload_fits h

theorem Operands.extendHold (payload : List Byte) : Operands.Statement (.extendHold payload) :=
  fun h => payload_fits h

theorem Operands.releaseHold (payload : List Byte) : Operands.Statement (.releaseHold payload) :=
  fun h => payload_fits h

theorem Operands.releaseBusTrip (payload : List Byte) : Operands.Statement (.releaseBusTrip payload) :=
  fun h => payload_fits h

theorem Operands.setTestCircuits (payload : List Byte) : Operands.Statement (.setTestCircuits payload) :=
  fun h => payload_fits h

theorem Operands.getTestStatus (payload : List Byte) : Operands.Statement (.getTestStatus payload) :=
  fun h => payload_fits h

theorem Operands.getTestResult (payload : List Byte) : Operands.Statement (.getTestResult payload) :=
  fun h => payload_fits h

theorem Operands.setVehicleTiming (payload : List Byte) : Operands.Statement (.setVehicleTiming payload) :=
  fun h => payload_fits h

theorem Operands.getVehicleTiming (payload : List Byte) : Operands.Statement (.getVehicleTiming payload) :=
  fun h => payload_fits h

theorem Operands.getVehicle (payload : List Byte) : Operands.Statement (.getVehicle payload) :=
  fun h => payload_fits h

theorem Operands.listVehicles (payload : List Byte) : Operands.Statement (.listVehicles payload) :=
  fun h => payload_fits h

theorem Operands.removeVehicle (payload : List Byte) : Operands.Statement (.removeVehicle payload) :=
  fun h => payload_fits h

theorem Operands.clearFault (payload : List Byte) : Operands.Statement (.clearFault payload) :=
  fun h => payload_fits h

theorem Operands.configureSwitch (payload : List Byte) : Operands.Statement (.configureSwitch payload) :=
  fun h => payload_fits h

theorem Operands.setSwitch (payload : List Byte) : Operands.Statement (.setSwitch payload) :=
  fun h => payload_fits h

theorem Operands.pinSwitch (payload : List Byte) : Operands.Statement (.pinSwitch payload) :=
  fun h => payload_fits h

theorem Operands.unpinSwitch (payload : List Byte) : Operands.Statement (.unpinSwitch payload) :=
  fun h => payload_fits h

theorem Operands.clearSwitchLock (payload : List Byte) : Operands.Statement (.clearSwitchLock payload) :=
  fun h => payload_fits h

theorem Operands.getSwitch (payload : List Byte) : Operands.Statement (.getSwitch payload) :=
  fun h => payload_fits h

theorem Operands.setStation (payload : List Byte) : Operands.Statement (.setStation payload) :=
  fun h => payload_fits h

theorem Operands.removeStation (payload : List Byte) : Operands.Statement (.removeStation payload) :=
  fun h => payload_fits h

theorem Operands.setCycleTime (payload : List Byte) : Operands.Statement (.setCycleTime payload) :=
  fun h => payload_fits h

theorem Operands.getLoopStatus (payload : List Byte) : Operands.Statement (.getLoopStatus payload) :=
  fun h => payload_fits h

theorem Operands.loopSkip (payload : List Byte) : Operands.Statement (.loopSkip payload) :=
  fun h => payload_fits h

theorem Operands.loopReset (payload : List Byte) : Operands.Statement (.loopReset payload) :=
  fun h => payload_fits h

theorem Operands.getStation (payload : List Byte) : Operands.Statement (.getStation payload) :=
  fun h => payload_fits h

theorem Operands.fetchNotices (payload : List Byte) : Operands.Statement (.fetchNotices payload) :=
  fun h => payload_fits h

theorem Operands.setAttention (payload : List Byte) : Operands.Statement (.setAttention payload) :=
  fun h => payload_fits h

theorem Operands.getNoticeStatus (payload : List Byte) : Operands.Statement (.getNoticeStatus payload) :=
  fun h => payload_fits h

theorem Operands.setTime (payload : List Byte) : Operands.Statement (.setTime payload) :=
  fun h => payload_fits h

theorem Operands.getTime (payload : List Byte) : Operands.Statement (.getTime payload) :=
  fun h => payload_fits h

theorem Operands.restart (payload : List Byte) : Operands.Statement (.restart payload) :=
  fun h => payload_fits h

theorem Operands.hostOctetReceived (octet : Byte) : Operands.Statement (.hostOctetReceived octet) :=
  fun _ => Nat.zero_le _

theorem Operands.loopOctetReceived (octet : Byte) : Operands.Statement (.loopOctetReceived octet) :=
  fun _ => Nat.zero_le _

theorem Operands.clockTick : Operands.Statement .clockTick :=
  fun _ => Nat.zero_le _

end Sys2Proof.Laws
end

