-- ==== Sys2Proof/Laws/Power.lean ====
section
/-!
SUPPORT. A power report said once (R61, R94, R126): what reportPower leaves is State.reported.
-/

namespace Sys2Proof.Machine

variable (s : State)

/-- Each of the sixteen switch points changed by the same function in turn is all of them changed at once. -/
theorem forEach_modSw (f : SwitchPoint → SwitchPoint) (g : Sw → State → State)
    (h : ∀ k (s' : State), s'.halted = s.halted → g k s' = s'.modSw k f) :
    forEach (List.finRange 16) g s = { s with sws := s.sws.map f } := by
  have key : ∀ (l : List Sw) (s' : State), s'.halted = s.halted → l.Nodup →
      forEach l g s' = { s' with sws := Vector.ofFn fun k : Sw => if k ∈ l then f s'.sws[k] else s'.sws[k] } := by
    intro l
    induction l with
    | nil =>
      intro s' _ _
      have : (Vector.ofFn fun k : Sw => s'.sws[k]) = s'.sws := by ext i hi; simp
      simp only [forEach_nil, List.not_mem_nil, if_false]
      rw [this]
    | cons k l ih =>
      intro s' hs' hl
      rw [forEach_cons, h k s' hs', ih (s'.modSw k f) hs' (List.nodup_cons.mp hl).2]
      have hk : k ∉ l := (List.nodup_cons.mp hl).1
      simp only [State.modSw]
      congr 1
      ext i hi
      simp only [Vector.getElem_ofFn, Fin.getElem_fin]
      have hu := updateAt_get s'.sws k ⟨i, hi⟩ f
      simp only at hu
      simp only [hu, List.mem_cons]
      by_cases hik : (⟨i, hi⟩ : Sw) = k
      · subst hik; simp [hk]
      · simp [hik]
  rw [key _ s rfl (List.nodup_finRange 16)]
  congr 1
  ext i hi
  simp

/-- A switch point's power report queues nothing (R126): no vehicle becomes the head. -/
theorem swPower_eq (powered : Bool) (k : Sw) :
    swPower powered k s = s.modSw k fun w => SwitchPoint.serve s.halted (SwitchPoint.takePower powered w) := by
  have hq : ∀ (h : Bool) (w : SwitchPoint), (w.serve h).queue = w.queue := by
    intro h w; unfold SwitchPoint.serve
    split
    · rfl
    · split <;> rfl
  have hp : ∀ w : SwitchPoint, (w.takePower powered).queue = w.queue := by
    intro w; unfold SwitchPoint.takePower SwitchPoint.cancelDrive
    dsimp only; split <;> rfl
  unfold swPower swEvent
  have hs : (s.modSw k (SwitchPoint.takePower powered)).modSw k
      (SwitchPoint.serve (s.modSw k (SwitchPoint.takePower powered)).halted) =
      s.modSw k fun w => SwitchPoint.serve s.halted (SwitchPoint.takePower powered w) := by
    simp [State.modSw, updateAt]
  change pinnedMismatch k s.sws[k].queue.head? false ((s.modSw k (SwitchPoint.takePower powered)).modSw k
    (SwitchPoint.serve (s.modSw k (SwitchPoint.takePower powered)).halted)) = _
  rw [hs]
  unfold pinnedMismatch
  dsimp only
  have hw : (s.modSw k fun w => SwitchPoint.serve s.halted (SwitchPoint.takePower powered w)).sws[k].queue =
      s.sws[k].queue := by simp [hq, hp]
  rw [hw]
  split
  · rfl
  · rename_i e he
    rw [he]; simp

/-- A switch point after a power report, the serving rule applied: UNPOWERED leaves nothing to serve. -/
theorem SwitchPoint.serve_takePower (halted powered : Bool) (w : SwitchPoint) :
    (w.takePower powered).serve halted =
      if powered then ({ w with power := true } : SwitchPoint).serve halted
      else if w.position = .moving then
        { w with power := false, driveTimer := none, stage := .none, position := .unknown }
      else { w with power := false } := by
  cases powered
  · have hs : ∀ v : SwitchPoint, v.power = false → v.serve halted = v := by
      intro v hv
      unfold SwitchPoint.serve SwitchPoint.mayServe
      split
      · rfl
      · simp [hv]
    rw [hs]
    · by_cases hm : w.position = .moving <;> simp [SwitchPoint.takePower, SwitchPoint.cancelDrive, hm]
    · by_cases hm : w.position = .moving <;> simp [SwitchPoint.takePower, SwitchPoint.cancelDrive, hm]
  · simp [SwitchPoint.takePower]

/-- What a power report leaves. -/
theorem reportPower_eq (n : Sec) (powered : Bool) : reportPower n powered s = s.reported n powered := by
  have h := forEach_modSw s
    (fun w => if w.feeding = some n then (w.takePower powered).serve s.halted else w)
    (fun k s => if s.sws[k].feeding = some n then swPower powered k s else s) ?_
  · unfold reportPower
    rw [h]
    simp only [SwitchPoint.serve_takePower]
    rfl
  · intro k s' hs'
    by_cases hf : s'.sws[k].feeding = some n
    · rw [if_pos hf, swPower_eq]
      simp only [State.modSw, updateAt, hs', hf, if_true]
    · rw [if_neg hf]
      simp only [State.modSw, updateAt, hf, if_false]
      have : s'.sws.set k s'.sws[k] = s'.sws := by simp
      rw [this]

end Sys2Proof.Machine
end

