-- ==== Sys2Proof/Tests/Slice0.lean ====
section
/-!
SUPPORT. Small tests: what WellFormed refuses, the manual's worked examples one step at a time, and for every statement
with hypotheses a state and operands that meet them, clause by clause.
-/

namespace Sys2Proof.Machine.Tests

-- One theorem at a time: the kernel evaluations below, all waiting at once, would each hold a thread.
set_option Elab.async false

/-! ### Small states -/

/-- After the start period, every breaker closed. -/
def ready : State :=
  { State.cold false (Vector.replicate 8 ⟨false, true⟩) with link := { highRate := false, startPeriod := none } }

def halted : State := { ready with halted := true }

def withSec (r : Section) : State := { ready with secs := ready.secs.set 0 r }

def withFpu (f : Fpu) : State := { ready with fpus := ready.fpus.set 0 f }

def withSw (w : SwitchPoint) : State := { ready with sws := ready.sws.set 0 w }

def withVehicle (v : Vehicle) : State := { ready with vt := { ready.vt with slots := ready.vt.slots.set 0 (some v) } }

def withStation (r : Station) (e : Exchange) : State :=
  { ready with loop := { ready.loop with stations := ready.loop.stations.set 2 r, running := true, pollPos := 3, exchange := some e } }

/-- Vehicle 7, in section 1. -/
def seven : Vehicle :=
  { number := 7, active := true, sec := some 0, leak := false, dewired := false, lastStation := 2, lastSeen := 5
    lostTimer := some 0, forgetTimer := some 0, overdue := false, queue := none, occupied := none, deferred := none }

def awaiting (c : LoopCommand) : Exchange :=
  { station := 2, command := c, rate := .fast, taken := false, phase := .awaiting 1 }

def sample : TripRecord :=
  { first := .instant, causes := [.instant], principal := .instant, values := ⟨0, 0, 0, 0, 0, 0, 0⟩, complete := true
    origin := .closed }

theorem withSec_sec (r : Section) : (withSec r).secs[(0 : Sec)] = r := by simp [withSec]
theorem withFpu_fpu (f : Fpu) : (withFpu f).fpus[(0 : Sec)] = f := rfl
theorem withSw_sw (w : SwitchPoint) : (withSw w).sws[(0 : Sw)] = w := rfl
theorem withVehicle_slot (v : Vehicle) : (withVehicle v).vt.slots[(0 : Slot)] = some v := rfl
theorem ready_withSec (r : Section) : Ready (withSec r) := ⟨rfl, rfl, rfl⟩
theorem ready_withSw (w : SwitchPoint) : Ready (withSw w) := ⟨rfl, rfl, rfl⟩
theorem ready_withVehicle (v : Vehicle) : Ready (withVehicle v) := ⟨rfl, rfl, rfl⟩

theorem tableOk_single (v : Vehicle) (h : 1 ≤ v.number) (h' : v.number ≤ 9999) : TableOk (withVehicle v) := by
  have at_slot : ∀ (i : Slot) (w : Vehicle), (withVehicle v).vt.slots[i] = some w → i = 0 ∧ w = v := by
    intro i w hw
    by_cases h0 : i = 0
    · subst h0
      exact ⟨rfl, by simpa [withVehicle, eq_comm] using hw⟩
    · have hne : (0 : Nat) ≠ i.val := fun e => h0 (Fin.ext e.symm)
      simp [withVehicle, ready, State.cold, hne] at hw
  refine ⟨?_, ?_⟩
  · intro i j x y hx hy _
    rw [(at_slot i x hx).1, (at_slot j y hy).1]
  · intro i x hx
    obtain ⟨_, rfl⟩ := at_slot i x hx
    exact ⟨h, h'⟩

/-! ### WellFormed refuses -/

theorem test_wf_short_frame : Instr.wf (.sampleFrame (List.replicate 37 0)) = false := by decide
theorem test_wf_whole_incomplete_frame : Instr.wf (.sampleFrameIncomplete (List.replicate 38 0)) = false := by decide
theorem test_wf_reply_too_long : Instr.wf (.loopReplyComplete (65 :: List.replicate 64 0)) = false := by decide
theorem test_wf_reply_of_another_length : Instr.wf (.loopReplyComplete [7, 1, 0, 0, 0, 0]) = false := by decide
theorem test_wf_reply_empty : Instr.wf (.loopReplyComplete []) = false := by decide
theorem test_wf_length_that_goes_on : Instr.wf (.frameAbandon 250) = false := by decide
theorem test_wf_frame_too_short : Instr.wf (.frameDiscard [2, 1, 1, 0]) = false := by decide
theorem test_wf_frame_of_length_zero : Instr.wf (.frameDiscard [0, 0, 0]) = false := by decide
theorem test_wf_frame_empty : Instr.wf (.frameDiscard []) = false := by decide
theorem test_wf_known_kind : Instr.wf (.unknownKind 0x4F []) = false := by decide
theorem test_wf_long_payload : Instr.wf (.getTime (List.replicate 250 0)) = false := by decide +kernel
theorem test_wf_long_unknown : Instr.wf (.unknownKind 5 (List.replicate 250 0)) = false := by decide +kernel

/-! ### The manual's worked examples, and its check values -/

/-- R186: the nine digits give 0x29B1. -/
theorem test_crc_check_value :
    crc16 [0x31, 0x32, 0x33, 0x34, 0x35, 0x36, 0x37, 0x38, 0x39] = 0x29B1 := by decide +kernel

/-- Chapter 1, a step trip with two active vehicles: arrival 5 starts the event. -/
theorem test_step_event_starts :
    let f : Fpu := { protection := { window := 4 }, history := [1200, 1000, 1000, 1000, 1000] }
    (f.judge 1500 0 2).fpu.tracker = .rising 1000 3800 2 2 ∧ (f.judge 1500 0 2).step = false := by decide +kernel

/-- The same example: arrival 11 raises STEP. -/
theorem test_step_raised :
    let f : Fpu :=
      { protection := { window := 4 }, tracker := .rising 1000 3800 2 7
        history := [4400, 3700, 3000, 2400, 1900, 1500, 1200, 1000, 1000, 1000, 1000] }
    let j := f.judge 4900 0 2
    j.step = true ∧ j.delta = 3900 ∧ j.entry.rise = 2500 ∧ j.entry.rising = false ∧ j.nActive = 2 := by decide +kernel

/-- The same example with twenty vehicles: the threshold is the ceiling. -/
theorem test_threshold_at_the_ceiling : heldThreshold {} 20 = 8000 := by decide

/-- Chapter 1, a rise that is load: arrival 9 ends the event. -/
theorem test_rise_that_is_load :
    let f : Fpu :=
      { protection := { window := 4 }, tracker := .rising 1000 3800 2 5
        history := [1700, 1700, 1700, 1600, 1000, 1000, 1000, 1000, 1000] }
    (f.judge 1700 0 2).fpu.tracker = .quiet ∧ (f.judge 1700 0 2).step = false := by decide +kernel

/-- Chapter 1, the filter at the shortest time constant. -/
theorem test_filter_steps :
    filterStep 4 100 0 = 1600 ∧ filterStep 4 100 1600 = 3100 ∧ filterStep 4 (-3) 0 = -48 ∧
    (3100 : Int) >>> (8 : Nat) = 12 ∧ (-48 : Int) >>> (8 : Nat) = -1 := by decide +kernel

/-- Chapter 1, a sustained trip: arrivals c and e. -/
theorem test_sustained :
    let f : Fpu := { protection := { duration := 3 }, acc := 1536000, sustained := 2 }
    (f.judge 6000 0 0).sustained = true ∧
    ({ f with sustained := 3 }.judge 0 0 0).fpu.acc = 1534500 ∧
    ({ f with sustained := 3 }.judge 0 0 0).sustained = true := by decide +kernel

/-- Chapter 2, onset and release: arrivals 5, 7, 8, 9 and 11. -/
theorem test_onset_and_release :
    let c : Condition := { sec := 1, onset := 2, release := 1 }
    GenState.next c true .off = (.onset 0, false) ∧ GenState.next c true (.onset 1) = (.on, true) ∧
    GenState.next c false .on = (.release 0, false) ∧ GenState.next c true (.release 0) = (.on, false) ∧
    GenState.next c false (.release 0) = (.off, false) := by decide

/-- Chapter 4, classification: no vehicles, four vehicles, twenty vehicles. -/
theorem test_classification :
    loadResistance 20 2200 2600 = 1100 ∧ loadResistance 20 520 2600 = 50 ∧ loadResistance 20 2600 2600 = 65535 ∧
    clearanceLevel 500 (expectedResistance 2000 0) = 500 ∧ clearanceLevel 500 (expectedResistance 2000 4) = 375 ∧
    clearanceLevel 500 (expectedResistance 2000 20) = 75 ∧
    classify 1100 500 100 = .clear ∧ classify 50 500 100 = .fault ∧ classify 480 375 100 = .clear ∧
    classify 200 375 100 = .inconclusive ∧ classify 60 375 100 = .fault ∧ classify 1100 75 100 = .inconclusive := by
  decide

/-- Chapter 4, the averaging of the eight section voltages. -/
theorem test_mean : mean [2198, 2201, 2200, 2203, 2199, 2200, 2202, 2199] = 2200 := by decide

/-- Chapter 7, the start limit at MEDIUM and SLOW with relax 1. -/
theorem test_start_limit : startLimit .medium 1 = 6 ∧ startLimit .slow 1 = 16 := by decide

/-- Chapter 6, a frog moved under a pole: the ENTRY. -/
theorem test_frog_moved_under_a_pole :
    let t := swEntry 0 (withSw { position := .moving, target := .turnout, stage := .sent, driveTimer := some 2400
                                 queue := [⟨120, .turnout⟩], feeding := some 0 })
    t.sws[0].position = .unknown ∧ t.sws[0].lock = .dewired ∧ t.sws[0].poles = 1 ∧ t.sws[0].occupant = some 120 ∧
    t.secs[0].holds.switchLock = true ∧ t.notices.records.map (·.words) = [[120, 0, 1]] := by decide +kernel

/-- Chapter 8, overflow during a disturbance: the DEWIRE, then the two notices dropped. -/
theorem test_overflow :
    let r : Notice := { entry := 0, kind := .switchMoved, priority := 1, time := 0, source := .switch 0, words := [] }
    let q : NoticeQueue := { records := List.replicate 47 r, counter := 1047 }
    let q := q.take 0 .dewire 6 (.switch 0) []
    let q' := (q.take 0 .vehicleFault 5 (.vehicle 7) []).take 0 .reclosed 2 (.sec 0) []
    q.records.length = 48 ∧ q.overflow = true ∧ q.attn = true ∧ q.counter = 1048 ∧
    q'.records.getLast?.map (·.words) = some [word NoticeKind.dewire.code, 6, 3, 6] ∧
    (q'.fetched 8).records.length = 40 ∧ (q'.fetched 8).overflow = false := by decide +kernel

/-- No row of the table gives bits, so no word spells a command. -/
theorem test_no_word_spells_a_command : decodeTableWord 32 0 = none ∧ (ready.withFetchWord 32 0).pending = [] := by
  decide

/-- R47: the four readings of two contacts. -/
theorem test_readings :
    Feedback.ofContacts ⟨true, false⟩ = .opened ∧ Feedback.ofContacts ⟨false, true⟩ = .closed ∧
    Feedback.ofContacts ⟨false, false⟩ = .travel ∧ Feedback.ofContacts ⟨true, true⟩ = .discrepant := by decide

/-- R186: a 16-bit current word's low 15 bits, sign-extended. -/
theorem test_currents : currentOf 0x3FFF = 16383 ∧ currentOf 0x4000 = -16384 ∧ currentOf 0xFFFF = -1 := by decide

/-- R177: the octets of a reply: a GET TIME reply's length, kind and status. -/
theorem test_reply_octets :
    (Reply.mk 0x49 .ok [.nat 4 0x01020304]).covered = [6, 0xC9, 0, 1, 2, 3, 4] := by decide

/-! ### Witnesses: each statement's hypotheses, clause by clause, are met by a concrete state

Each theorem bears the name of its statement. -/

theorem test_witness_StepTakesFrontCommand : State.reset.pending = [] := rfl

theorem bindingsOk_ready : BindingsOk ready := by
  intro a b k h _
  have unset : ready.loop.stations[a].role = .unset := by simp [ready, State.cold]
  exact nomatch unset.symm.trans h

/-- A part whose breakers read CLOSED, with a tick to take, meets every rule, and its step answers a next state. -/
theorem test_witness_kept_rules :
    (∃ t, step { ready with pending := [.clockTick] } = .next t) ∧
    NoticesOk ready.notices ∧ LinesOk ready ∧ FailureOk ready ∧ FrogsOk ready ∧ TestsOk ready ∧ GrantsOk ready ∧
    HoldsOk ready ∧ AttemptsOk ready ∧ FpusOk ready ∧ CapturesOk ready ∧ BindingsOk ready := by
  unfold NoticesOk LinesOk Section.LinesOk FailureOk FrogsOk PowerOk SwitchPoint.FrogOk TestsOk GrantsOk HoldsOk
    AttemptsOk Section.AttemptOk FpusOk Fpu.RangeOk CapturesOk Capture.RangeOk
  refine ⟨⟨_, rfl⟩, ?_, ?_, ?_, ?_, ?_, ?_, ?_, ?_, ?_, ?_, bindingsOk_ready⟩ <;> decide +kernel

theorem test_witness_QueueTableAndBindingRulesAreKept :
    QueuesOk ready ∧ TableOk (withVehicle seven) ∧ BindingsOk ready := by
  refine ⟨fun k => ?_, tableOk_single seven (by decide) (by decide), bindingsOk_ready⟩
  have h : ready.sws[k] = {} := by simp [ready, State.cold]
  rw [h]
  exact ⟨by decide, by decide, fun v hv => nomatch hv⟩

theorem test_witness_RequestFrameOctetsActAsTheirCommand :
    (List.replicate 249 (0 : Byte)).length ≤ 249 ∧ ready.link.receiver = .hunting := by decide +kernel

theorem test_witness_LoopReplyOctetsActAsTheReply :
    (withStation {} (awaiting .poll)).loop.exchange = some (awaiting .poll) ∧
    (awaiting .poll).phase = .awaiting 1 ∧ loopReplyWhole [6, 3, 0, 0, 0, 247] = true ∧ loopReplyWhole [0] = true := by
  decide +kernel

theorem test_witness_RequestChecksInTheirOrder :
    (answered 0x49 .ok [] ready).link.reply.isSome = true ∧
    (State.reset.link.reply = none ∧ State.reset.link.startPeriod.isSome = true) ∧
    (Reachable ready ∧ requestKinds.contains (BitVec.toNat (0x05 : Byte)) = false) ∧
    (requestKinds.contains (BitVec.toNat (0x01 : Byte)) = true ∧ kindSize 0x01 (List.replicate 21 0) ≠ some 21) ∧
    (Reachable halted ∧ kindSize 0x15 [1] = some 1 ∧ halted.halted = true ∧ haltKinds.contains 0x15 = false) ∧
    (kindSize 0x14 [8] = some 1 ∧ haltKinds.contains 0x14 = true) := by
  unfold Reachable
  decide +kernel

theorem test_witness_RequestChecksInTheirOrder_range :
    Ready ready ∧ kindSize 0x14 [0] = some 1 ∧ kindSize 0x14 [9] = some 1 ∧ kindSize 0x35 [0] = some 1 ∧
    kindSize 0x35 [17] = some 1 ∧ kindSize 0x3A [33] = some 1 ∧ (kindSize 0x2A [0, 0] = some 2 ∧ halfAt [0, 0] 0 = 0) ∧
    (kindSize 0x2A [39, 16] = some 2 ∧ halfAt [39, 16] 0 = 10000) ∧ kindSize 0x2B [9, 1] = some 2 ∧
    kindSize 0x2B [255, 0] = some 2 ∧ kindSize 0x2B [254, 65] = some 2 := by
  unfold Ready
  decide +kernel

theorem test_witness_ProtectionSectionAndTestReadsAnswer :
    Reachable halted ∧ octetAt [1] 0 = number (0 : Fin 8) ∧ octetAt [8] 0 = number (7 : Fin 8) := by
  unfold Reachable
  decide +kernel

theorem test_witness_ProtectionSectionAndTestReadsAnswer_section :
    Reachable ready ∧ ready.halted = false ∧ Reachable halted ∧ halted.halted = true ∧ octetAt [8] 0 = number (7 : Sec) := by
  unfold Reachable
  decide +kernel

theorem test_witness_ProtectionSectionAndTestReadsAnswer_test :
    (Reachable (withSec { lastTest := some ⟨.clear, .none, 2200, 2600, 1100, 0, 65535, 500, 0, 8, 9⟩ }) ∧
      (withSec { lastTest := some ⟨.clear, .none, 2200, 2600, 1100, 0, 65535, 500, 0, 8, 9⟩ }).secs[(0 : Sec)].lastTest =
        some ⟨.clear, .none, 2200, 2600, 1100, 0, 65535, 500, 0, 8, 9⟩ ∧ octetAt [1] 0 = number (0 : Sec)) ∧
    (Reachable ready ∧ ready.secs[(7 : Sec)].lastTest = none ∧ octetAt [8] 0 = number (7 : Sec)) ∧
    octetAt [0] 0 = 0 ∧ 8 < octetAt [9] 0 := by
  unfold Reachable
  decide +kernel

theorem test_witness_VehicleSwitchAndLoopReadsAnswer :
    Reachable (withVehicle seven) ∧ TableOk (withVehicle seven) ∧ (withVehicle seven).vt.slots[(0 : Slot)] = some seven ∧
    halfAt [0, 7] 0 = seven.number ∧
    (∀ (i : Slot), (withVehicle seven).vt.slots[i].all fun v => v.number ≠ halfAt [39, 15] 0) ∧
    halfAt [39, 15] 0 = 9999 ∧ octetAt [0, 64] 1 = number (63 : Slot) ∧ octetAt [255, 1] 0 = 255 ∧
    octetAt [8, 1] 0 = number (7 : Sec) := by
  refine ⟨by unfold Reachable; decide +kernel, tableOk_single seven (by decide) (by decide), ?_⟩
  decide +kernel

theorem test_witness_VehicleSwitchAndLoopReadsAnswer_switch :
    Reachable (withStation {} (awaiting .poll)) ∧ octetAt [16] 0 = number (15 : Sw) ∧ octetAt [32] 0 = number (31 : Sta) ∧
    (awaiting .poll).station = 2 := by
  unfold Reachable
  decide +kernel

theorem test_witness_ProtectionIsSetAndTheFilterRebased :
    Ready ready ∧ octetAt [8] 0 = number (7 : Sec) ∧ 1 < octetAt (8 :: List.replicate 20 0 ++ [2]) 21 ∧
    octetAt (8 :: List.replicate 20 0 ++ [1]) 21 ≤ 1 ∧ (withFpu { state := .measuring }).fpus[(0 : Sec)].state = .measuring ∧
    Ready (withFpu { state := .measuring }) ∧ ready.fpus[(7 : Sec)].state ≠ .measuring := by
  unfold Ready
  decide +kernel

/-- A SET CONDITION payload of one input; the last octet of the list is the parameter's low one. -/
def conditionPayload (sec all latch actions code : Byte) : List Byte :=
  [8, sec, all, 0, 2, 0, 1, latch, actions, 1, code, 11, 184]

theorem test_witness_ConditionRequestsReturnToOff :
    Ready ready ∧ octetAt (conditionPayload 8 1 1 7 0) 0 = number (7 : Gen) ∧
    kindSize 0x08 (conditionPayload 8 1 1 7 0) = some 13 ∧ octetAt (conditionPayload 8 1 1 7 0) 1 = number (7 : Sec) ∧
    comparatorOf (octetAt (conditionPayload 8 1 1 7 0) 10) (halfAt (conditionPayload 8 1 1 7 0) 11)
      (signedAt (conditionPayload 8 1 1 7 0) 11) = some (.iAbove 3000) ∧
    (octetAt (conditionPayload 0 1 1 7 0) 1 = 0 ∧ 8 < octetAt (conditionPayload 9 1 1 7 0) 1 ∧
      1 < octetAt (conditionPayload 8 2 1 7 0) 2 ∧ 1 < octetAt (conditionPayload 8 1 2 7 0) 7 ∧
      7 < octetAt (conditionPayload 8 1 1 8 0) 8 ∧ 7 < octetAt (conditionPayload 8 1 1 7 8) 10) ∧
    (updateAt ready.gens 7 fun g => { g with out := .latched })[(7 : Gen)].out = .latched ∧
    ready.gens[(7 : Gen)].out ≠ .latched := by
  unfold Ready
  decide +kernel

theorem test_witness_CaptureIsSetAndFetched :
    Ready ready ∧ Reachable halted ∧ octetAt [1, 4, 0, 0, 0, 8] 0 = number (0 : Sec) ∧
    octetAt [1, 4, 0, 0, 0, 8] 1 = CaptureMode.onCondition.code ∧ octetAt [1, 4, 0, 0, 0, 8] 5 = number (7 : Gen) ∧
    octetAt [8, 255] 0 = number (7 : Sec) := by
  unfold Ready Reachable
  decide +kernel

theorem test_witness_CloseSectionBeginsAManualSequence :
    (Ready (withSec {}) ∧ TestsOk (withSec {}) ∧ GrantsOk (withSec {}) ∧ (withSec {}).secs[(0 : Sec)].state = .opened ∧
      (withSec {}).secs[(0 : Sec)].feedback = .opened ∧
      (withSec {}).secs[(0 : Sec)].holds = ⟨false, false, false, false, false⟩) ∧
    (withSec { holds := ⟨true, false, false, false, false⟩ }).secs[(0 : Sec)].holds.timer = true ∧
    (ready.secs[(7 : Sec)].state ≠ .opened ∧ octetAt [8] 0 = number (7 : Sec)) := by
  unfold Ready TestsOk GrantsOk
  decide +kernel

/-- Section 1 tests on circuit 1. -/
def testing (pairs : List (Nat × Nat)) : State :=
  { withSec { state := .lineTest, attempt := 1, tripLine := true, testLine := true } with
    arb := { holders := #v[some 0, none], contexts := #v[some ⟨0, 300, pairs⟩, none] } }

/-- Section 1 waits for a circuit, section 2 tests on circuit 1. -/
def queued : State :=
  let s := withSec { state := .testWait, tripLine := true }
  { s with
    secs := s.secs.set 1 { state := .lineTest, attempt := 1, tripLine := true, testLine := true }
    arb := { holders := #v[some 1, none], contexts := #v[some ⟨1, 300, []⟩, none], waiting := [0] } }

theorem test_witness_OpenSectionEndsASequence :
    (Ready (withSec { state := .deadTime }) ∧ (withSec { state := .deadTime }).secs[(0 : Sec)].state = .deadTime) ∧
    (Ready queued ∧ queued.secs[(0 : Sec)].state = .testWait) ∧
    (Ready (testing []) ∧ TestsOk (testing []) ∧ (testing []).secs[(0 : Sec)].state = .lineTest ∧
      (testing []).arb.holders[(0 : Circuit)] = some 0 ∧ (testing []).arb.waiting = []) ∧
    (withSec { state := .breakerFail }).secs[(0 : Sec)].state = .breakerFail := by
  unfold Ready TestsOk
  decide +kernel

theorem test_witness_HostTripRequestsStartOrJoinATrip :
    (Ready ready ∧ ready.secs[(7 : Sec)].state = .closed ∧ ready.secs[(7 : Sec)].feedback ≠ .opened ∧
      ready.caps[(7 : Sec)].state ≠ .awaitTrip ∧ octetAt [8] 0 = number (7 : Sec)) ∧
    ((withSec { state := .tripping, record := some sample }).secs[(0 : Sec)].state = .tripping ∧
      (withSec { state := .tripping, record := some sample }).secs[(0 : Sec)].record = some sample) ∧
    (withSec {}).secs[(0 : Sec)].state ∉ [SecState.closed, .reclaim, .closing, .tripping] := by
  unfold Ready
  decide +kernel

theorem test_witness_ForceCloseAndLockoutRequestsMoveTheSection :
    (Ready (withSec { state := .held, attempt := 1 }) ∧
      (withSec { state := .held, attempt := 1 }).secs[(0 : Sec)].state = .held ∧
      (withSec { state := .held, attempt := 1 }).secs[(0 : Sec)].feedback = .opened) ∧
    (withSec { state := .held, holds := { dewired := true } }).secs[(0 : Sec)].holds.dewired = true ∧
    (withSec { state := .held, holds := { switchLock := true } }).secs[(0 : Sec)].holds.switchLock = true ∧
    ready.secs[(7 : Sec)].state ≠ .held ∧
    (withSec { state := .lockout }).secs[(0 : Sec)].state ∈ [SecState.lockout] ∧
    (withSec {}).secs[(0 : Sec)].state ∈ [SecState.opened, .lockout] ∧
    (withSec { state := .isolated }).secs[(0 : Sec)].state ∈ [SecState.isolated] ∧
    ready.secs[(0 : Sec)].state ∉ [SecState.opened, .lockout] := by
  unfold Ready
  decide +kernel

/-- A section in DEAD_TIME, held by the hold TIMER alone. -/
def heldByTimer : Section :=
  { state := .deadTime, held := true, heldSince := some 3, holdTimer := some 0, holds := { timer := true }
    holdLimit := some 9, tripLine := true }

theorem test_witness_HoldTimerSetsTheTimerHold :
    (Ready ready ∧ octetAt [8, 0, 0, 0, 1] 0 = number (7 : Sec) ∧ ready.secs[(7 : Sec)].holdTimer = none) ∧
    (Ready (withSec heldByTimer) ∧ (withSec heldByTimer).secs[(0 : Sec)].holdTimer = some 0) ∧
    (TestsOk (withSec heldByTimer) ∧ GrantsOk (withSec heldByTimer) ∧
      (withSec heldByTimer).secs[(0 : Sec)].state = .deadTime ∧ (withSec heldByTimer).secs[(0 : Sec)].held = true ∧
      { (withSec heldByTimer).secs[(0 : Sec)].holds with timer := false } = ⟨false, false, false, false, false⟩) ∧
    ready.secs[(7 : Sec)].state ≠ .deadTime := by
  unfold Ready TestsOk GrantsOk
  decide +kernel

theorem test_witness_SetSectionStoresTheClampedRecord :
    (Ready ready ∧ octetAt (8 :: List.replicate 33 0) 0 = number (7 : Sec) ∧
      octetAt (8 :: List.replicate 33 0) 24 ≤ 1 ∧ 1 < octetAt (8 :: List.replicate 33 2) 24 ∧
      ready.secs[(7 : Sec)].state ≠ .deadTime) ∧
    (Ready (withSec { heldByTimer with holds := { leak := true } }) ∧
      TestsOk (withSec { heldByTimer with holds := { leak := true } }) ∧
      GrantsOk (withSec { heldByTimer with holds := { leak := true } }) ∧
      (withSec { heldByTimer with holds := { leak := true } }).leaking 0 = 0 ∧
      (withSec { heldByTimer with holds := { leak := true } }).dewired 0 = 0) ∧
    octetAt [1] 0 ≤ 1 ∧ 1 < octetAt [2] 0 := by
  unfold Ready TestsOk GrantsOk
  decide +kernel

/-- A section in TRIPPING with these causes, its breaker not yet open. -/
def tripping (causes : List Cause) (attempt : Nat) : State :=
  withSec
    { state := .tripping, feedback := .closed, tripLine := true, opening := some 0, attempt := attempt
      record := some { sample with causes := causes } }

theorem test_witness_OpenReadingMovesTheSection :
    (tripping [.manual] 0).halted = false ∧ (tripping [.manual] 0).secs[(0 : Sec)].state = .tripping ∧
    (tripping [.manual] 0).secs[(0 : Sec)].record = some { sample with causes := [.manual] } ∧
    (tripping [.manual] 0).secs[(0 : Sec)].feedback ≠ .opened ∧
    (Cause.bus ∈ [Cause.instant, .bus] ∧ Cause.manual ∉ [Cause.instant, .bus]) ∧
    (tripping [.step] 2).secs[(0 : Sec)].limit ≤ (tripping [.step] 2).secs[(0 : Sec)].attempt ∧
    (tripping [.step] 1).secs[(0 : Sec)].attempt < (tripping [.step] 1).secs[(0 : Sec)].limit ∧
    (tripping [.step] 1).secs[(0 : Sec)].manual = false := by decide +kernel

theorem test_witness_OpenReadingMovesTheSection_elsewhere :
    ({ tripping [.manual] 0 with halted := true }.halted = true ∧
      (withSec { state := .reclaim, feedback := .closed, manual := true }).secs[(0 : Sec)].state = .reclaim) ∧
    (ready.secs[(7 : Sec)].state = .closed ∧ ready.secs[(7 : Sec)].feedback ≠ .opened ∧
      ready.caps[(7 : Sec)].state ≠ .awaitTrip ∧ 0 < ready.secs[(7 : Sec)].settings.tests) ∧
    ((withSec { state := .reclaim, feedback := .closed, attempt := 1 }).secs[(0 : Sec)].manual = false ∧
      (withSec { state := .reclaim, feedback := .closed, attempt := 1 }).secs[(0 : Sec)].attempt <
        (withSec { state := .reclaim, feedback := .closed, attempt := 1 }).secs[(0 : Sec)].limit) ∧
    (withSec { state := .lockout, feedback := .travel, tripLine := true }).secs[(0 : Sec)].feedback ≠ .opened ∧
    (withSec { state := .breakerFail, feedback := .closed }).secs[(0 : Sec)].feedback ≠ .opened := by decide +kernel

theorem test_witness_ClosedReadingReclosesOrIsALocalClose :
    ((withSec { state := .closing, closing := some 5 }).secs[(0 : Sec)].state = .closing ∧
      (withSec { state := .closing, closing := some 5 }).secs[(0 : Sec)].feedback ≠ .closed) ∧
    (withSec { feedback := .discrepant, discrepancy := some 0 }).secs[(0 : Sec)].discrepancy.isSome = true ∧
    (withSec {}).secs[(0 : Sec)].tripLine = false ∧
    (withSec { state := .lockout, feedback := .travel, tripLine := true }).secs[(0 : Sec)].tripLine = true ∧
    (tripping [] 0).secs[(0 : Sec)].state = .tripping ∧
    ((withSec heldByTimer).secs[(0 : Sec)].state = .deadTime ∧ (withSec heldByTimer).caps[(0 : Sec)].state ≠ .awaitTrip) ∧
    ready.secs[(7 : Sec)].feedback ≠ .travel ∧ ready.secs[(7 : Sec)].feedback ≠ .discrepant ∧
    ready.halted = false := by decide +kernel

theorem test_witness_ClosedReadingReclosesOrIsALocalClose_halt :
    { withSec { state := .isolated, tripLine := true } with halted := true }.halted = true ∧
    { withSec { state := .isolated, tripLine := true } with halted := true }.secs[(0 : Sec)].state = .isolated ∧
    { withSec { state := .breakerFail } with halted := true }.secs[(0 : Sec)].state = .breakerFail ∧
    { withSec { state := .breakerFail } with halted := true }.secs[(0 : Sec)].feedback ≠ .closed := by decide +kernel

theorem test_witness_SectionTimersExpire :
    ((withSec { state := .deadTime, deadTimer := some 0, holds := { noSupply := true } }).secs[(0 : Sec)].deadTimer = some 0 ∧
      TestsOk (withSec { state := .deadTime, deadTimer := some 0, holds := { noSupply := true } }) ∧
      GrantsOk (withSec { state := .deadTime, deadTimer := some 0, holds := { noSupply := true } })) ∧
    { (withSec { state := .deadTime, holds := { leak := true } }).secs[(0 : Sec)].holds with noSupply := false } ≠
      ⟨false, false, false, false, false⟩ ∧
    (withSec { state := .closing, closing := some 0 }).secs[(0 : Sec)].closing = some 0 ∧
    (withSec heldByTimer).secs[(0 : Sec)].holdLimit = some 9 ∧
    (withSec { state := .held, holdLimit := some 0 }).secs[(0 : Sec)].holdLimit = some 0 ∧
    (withSec { state := .reclaim, reclaim := some 0 }).secs[(0 : Sec)].reclaim = some 0 := by
  unfold TestsOk GrantsOk
  decide +kernel

theorem test_witness_OpeningSupervisionExpiryFailsTheBreaker :
    ((tripping [.step] 0).halted = false ∧ TestsOk (tripping [.step] 0) ∧
      (tripping [.step] 0).secs[(0 : Sec)].opening = some 0 ∧ (tripping [.step] 0).busTrip = false ∧
      (tripping [.step] 0).backup = true) ∧
    (TestsOk { tripping [.step] 0 with busTrip := true } ∧ { tripping [.step] 0 with backup := false }.backup = false) ∧
    (tripping [.step] 0).secs[(7 : Sec)].state ∈ [SecState.closed, .reclaim, .closing] := by
  unfold TestsOk
  refine ⟨⟨?_, ?_, ?_, ?_, ?_⟩, ⟨?_, ?_⟩, ?_⟩ <;> decide +kernel

/-- Section 1 is in BREAKER_FAIL, the bus trip standing. -/
def failed (reading : Feedback) : State :=
  { withSec { state := .breakerFail, feedback := reading, tripLine := true } with busTrip := true }

theorem test_witness_ReleaseBusTripEndsTheFailure :
    (Ready (failed .opened) ∧ (failed .opened).secs[(0 : Sec)].state = .breakerFail ∧
      (∀ m : Sec, (failed .opened).secs[m].state = .breakerFail → (0 : Sec) ≤ m ∧ (failed .opened).secs[m].feedback = .opened) ∧
      (failed .opened).notices.overflow = false ∧ (failed .opened).notices.records.length < 47) ∧
    (∀ m : Sec, ready.secs[m].state ≠ .breakerFail) ∧
    ((failed .closed).secs[(0 : Sec)].state = .breakerFail ∧ (failed .closed).secs[(0 : Sec)].feedback ≠ .opened) := by
  unfold Ready
  decide +kernel

theorem test_witness_SetTestCircuitsStoresTheCount :
    (Ready ready ∧ ready.arb.waiting = []) ∧
    (Ready queued ∧ queued.arb.waiting = [0] ∧ queued.arb.holders[0] = some 1 ∧ queued.arb.holders[1] = none ∧
      queued.secs[(0 : Sec)].state = .testWait ∧ 2 ≤ octetAt [2] 0) ∧
    max 1 (min (octetAt [1] 0) 2) ≤ queued.arb.held := by
  unfold Ready
  decide +kernel

/-- Eight equal pairs. -/
def pairs (us ub : Nat) : List (Nat × Nat) := List.replicate 8 (us, ub)

theorem test_witness_SettleExpiryClassifiesTheLine :
    (testing (pairs 2200 1600)).arb.contexts[(0 : Circuit)] = some ⟨0, 300, pairs 2200 1600⟩ ∧
    (pairs 2200 1600).length = 8 ∧ 1600 ≤ ((pairs 2200 1600).map (·.2)).sum / 8 ∧
    (decideTest 0 ⟨0, 300, pairs 2600 2600⟩ (testing [])).result = .clear ∧
    (decideTest 0 ⟨0, 300, pairs 520 2600⟩ (testing [])).result = .fault ∧
    (decideTest 0 ⟨0, 300, pairs 1300 2600⟩ (testing [])).result = .inconclusive ∧
    (decideTest 0 ⟨0, 300, pairs 1300 2600⟩ (withVehicle seven)).nPresent = 1 := by decide +kernel

theorem test_witness_SettleExpiryClassifiesTheLine_noSupply :
    (testing []).arb.contexts[(0 : Circuit)] = some ⟨0, 300, []⟩ ∧ (pairs 9 9).tail.length = 7 ∧
    (testing (pairs 2200 1599)).arb.contexts[(0 : Circuit)] = some ⟨0, 300, pairs 2200 1599⟩ ∧
    ((pairs 2200 1599).map (·.2)).sum / (pairs 2200 1599).length = 1599 := by decide +kernel

/-- A frame of count 0 with section 1's channels and the bus voltage, 2200 and 2600, vouched for or not. -/
def voltageFrame (vouched : Byte) : List Byte :=
  List.replicate 17 0 ++ [8, 152] ++ List.replicate 14 0 ++ [10, 40, 1, vouched, 1]

theorem test_witness_VoltagePairsAreTaken :
    38 ≤ (voltageFrame 1).length ∧ (testing []).arb.contexts[(0 : Circuit)] = some ⟨0, 300, []⟩ ∧
    (testing []).arb.contexts[(1 : Circuit)] = none ∧
    (((voltageFrame 1).getD 36 0 &&& (voltageFrame 1).getD 37 0).getLsbD 0 = true ∧ octetAt (voltageFrame 1) 35 % 2 = 1) ∧
    ((voltageFrame 0).getD 36 0 &&& (voltageFrame 0).getD 37 0).getLsbD 0 = false ∧
    (halfAt (voltageFrame 1) 17 % 4096, halfAt (voltageFrame 1) 33 % 4096) = (2200, 2600) := by decide +kernel

theorem test_witness_TestResultMovesTheSection :
    (TestsOk (testing (pairs 2200 2600)) ∧ (testing (pairs 2200 2600)).halted = false ∧
      (testing (pairs 2200 2600)).arb.waiting = [] ∧ (testing (pairs 2200 2600)).secs[(0 : Sec)].feedback = .opened) ∧
    (decideTest 0 ⟨0, 300, pairs 2200 2600⟩ (testing (pairs 2200 2600))).result = .clear ∧
    (decideTest 0 ⟨0, 300, pairs 520 2600⟩ (testing (pairs 520 2600))).result = .fault ∧
    (testing (pairs 520 2600)).secs[(0 : Sec)].attempt < (testing (pairs 520 2600)).secs[(0 : Sec)].limit ∧
    (decideTest 0 ⟨0, 300, pairs 1300 2600⟩ (testing (pairs 1300 2600))).result = .inconclusive ∧
    (decideTest 0 ⟨0, 300, []⟩ (testing [])).result = .noSupply ∧ 1 ≤ (testing []).secs[(0 : Sec)].attempt := by
  unfold TestsOk
  decide +kernel

theorem test_witness_TestResultMovesTheSection_lockout :
    (decideTest 0 ⟨0, 300, pairs 520 2600⟩
      { testing (pairs 520 2600) with
        secs := (testing (pairs 520 2600)).secs.set 0 { state := .lineTest, attempt := 2 } }).result = .fault ∧
    (2 : Nat) ≤ ({ state := .lineTest, attempt := 2 } : Section).attempt := by decide +kernel

theorem test_witness_VehicleRequestsEditTheTable :
    Ready (withVehicle seven) ∧ TableOk (withVehicle seven) ∧ TableOk (withVehicle { seven with occupied := some 0 }) ∧
    (withVehicle seven).vt.slots[(0 : Slot)] = some seven ∧ halfAt [0, 7] 0 = seven.number ∧ seven.occupied = none ∧
    ({ seven with occupied := some 0 } : Vehicle).occupied.isSome = true ∧
    (halfAt [0, 7, 3] 0 = seven.number ∧ 1 ≤ octetAt [0, 7, 1] 2 ∧ octetAt [0, 7, 3] 2 ≤ 3) :=
  ⟨by unfold Ready; decide +kernel, tableOk_single _ (by decide) (by decide), tableOk_single _ (by decide) (by decide),
    by decide +kernel⟩

/-- R114 and R179: a refused REMOVE VEHICLE names no slot freed. -/
theorem test_remove_refused_for_an_occupant :
    (exec (.removeVehicle [0, 7]) (withVehicle { seven with occupied := some 0 }) = .next (answered 0x2C .refusedState
      [.nat 2 7, .nat 1 0] (withVehicle { seven with occupied := some 0 }))) := by
  rfl

/-- Vehicle 7 stands in the queue of switch point 1. -/
def inQueue : State :=
  { withVehicle { seven with queue := some 0 } with sws := ready.sws.set 0 { queue := [⟨7, .straight⟩] } }

theorem test_witness_LostAndForgetTimersExpire :
    TableOk (withVehicle seven) ∧
    ((withVehicle seven).vt.slots[(0 : Slot)] = some seven ∧ seven.active = true ∧ seven.lostTimer = some 0 ∧
      seven.queue = none) ∧
    (TableOk inQueue ∧ inQueue.vt.slots[(0 : Slot)] = some { seven with queue := some 0 } ∧
      inQueue.sws[(0 : Sw)].holds 7 = true ∧ inQueue.sws[(0 : Sw)].occupant ≠ some 7 ∧
      inQueue.sws[(0 : Sw)].lock ≠ .pinned ∧ seven.deferred = none ∧ seven.occupied ≠ some 0) ∧
    (seven.forgetTimer = some 0 ∧ ({ seven with active := false, dewired := true } : Vehicle).dewired = true) ∧
    (seven.occupied = none ∧ seven.dewired = false) :=
  ⟨tableOk_single _ (by decide) (by decide), by decide +kernel,
    ⟨tableOk_single _ (by decide) (by decide), by decide +kernel⟩, by decide +kernel⟩

/-- Station 3, a boundary from section 1 to section 2. -/
def boundary : Station := { role := .boundary (some 0) (some 1), state := .online, mark := some false }

/-- Its reply: a new mark, the telegram of vehicle 9999, which leaks and goes from side A to side B. -/
def telegramReply : List Byte := [11, 3, 131, 0, 1, 39, 15, 0, 1, 1, 54]

theorem test_witness_TelegramOfANewVehicleMakesARecord :
    let s := withStation boundary (awaiting .poll)
    s.loop.exchange = some (awaiting .poll) ∧ (awaiting .poll).phase ≠ .sending ∧
    s.loop.Spent ∧ boundary.mark ≠ some true ∧ telegramReply.length = 11 ∧
    octetSum telegramReply = 0 ∧ octetAt telegramReply 0 = 11 ∧ octetAt telegramReply 1 = number (2 : Sta) ∧
    octetAt telegramReply 2 = 131 ∧ octetAt telegramReply 4 = 1 ∧ halfAt telegramReply 5 = 9999 ∧
    octetAt telegramReply 7 ≤ 2 ∧ octetAt telegramReply 8 = 1 ∧ octetAt telegramReply 9 = 1 ∧
    s.vt.slots[(0 : Slot)] = none ∧ (∀ j : Slot, s.vt.slots[j] = none) ∧ ∀ k : Sw, s.sws[k].queue = [] := by
  unfold Loop.Spent Loop.PollsDone
  decide +kernel

/-- A frog that may be served: fed, powered, bound, ONLINE, STRAIGHT. -/
def fed : SwitchPoint :=
  { bound := some 2, station := .online, feeding := some 0, power := true, position := .straight }

theorem test_witness_ConfigureSwitchStoresTheRecord :
    (Ready (withSw fed) ∧ octetAt [1, 8, 1, 0, 0, 0, 0, 0, 0, 0, 0] 0 = number (0 : Sw) ∧
      octetAt [1, 8, 1, 0, 0, 0, 0, 0, 0, 0, 0] 1 = number (7 : Sec) ∧
      octetAt [1, 8, 1, 0, 0, 0, 0, 0, 0, 0, 0] 2 = Direction.turnout.code) ∧
    ({ fed with position := .moving } : SwitchPoint).position = .moving ∧ 0 < ({ fed with poles := 2 } : SwitchPoint).poles ∧
    (fed.position ≠ .moving ∧ fed.poles = 0 ∧ fed.lock ≠ .dewired) ∧
    (({ fed with lock := .dewired } : SwitchPoint).lock = .dewired ∧ fed.feeding ≠ some 7) := by
  unfold Ready
  decide +kernel

theorem test_witness_SwitchRequestsMoveTheLockAndTheFrog :
    (Ready (withSw fed) ∧ octetAt [1] 0 = number (0 : Sw) ∧ octetAt [1, 1] 1 = Direction.turnout.code ∧
      fed.queue = [] ∧ fed.poles = 0 ∧ fed.lock = .none ∧ fed.position ≠ .moving ∧ fed.feeding.isSome = true ∧
      fed.power = true ∧ fed.station = .online) ∧
    ({ fed with queue := [⟨7, .turnout⟩] } : SwitchPoint).queue ≠ [] ∧
    (fed.lock = .none ∧ fed.position = .straight) ∧ ({ fed with lock := .pinned } : SwitchPoint).lock = .pinned ∧
    ready.sws[(15 : Sw)].position = .unknown ∧ ({ fed with lock := .failed } : SwitchPoint).lock = .failed ∧
    ({ fed with lock := .dewired, feeding := none } : SwitchPoint).feeding = none ∧
    (({ fed with lock := .dewired } : SwitchPoint).lock = .dewired ∧ fed.feeding = some 0) ∧
    0 < ({ fed with lock := .dewired, poles := 1 } : SwitchPoint).poles := by
  unfold Ready
  decide +kernel

/-- Station 3 bound to switch point 1. -/
def bound : Station := { role := .switch (some 0), state := .online, mark := some false }

theorem test_witness_StationRequestsWriteTheTable :
    let s := withStation bound (awaiting .poll)
    (Ready s ∧ octetAt [32, 0, 1, 0, 4] 0 = number (31 : Sta) ∧ octetAt [32, 0, 1, 0, 4] 1 = 0 ∧
      octetAt [32, 0, 1, 0, 4] 2 = number (0 : Sw) ∧ (31 : Sta) ≠ 2 ∧ s.loop.stations[(2 : Sta)].role = .switch (some 0)) ∧
    (∀ b : Sta, s.loop.stations[b].role = .switch (some 0) → b = 2) ∧
    (octetAt [3, 1, 0, 8, 4] 1 = 1 ∧ octetAt [3, 1, 0, 8, 4] 2 = numberOr0 (none : Option Sec) ∧
      octetAt [3, 1, 0, 8, 4] 3 = numberOr0 (some (7 : Sec))) ∧
    s.loop.stations[(31 : Sta)].state = .unconfigured ∧ s.loop.stations[(2 : Sta)].state ≠ .unconfigured ∧
    octetAt [3, 0, 0, 0, 0] 2 = 0 := by
  unfold Ready
  decide +kernel

theorem test_witness_StationRequestsWriteTheTable_badArgument :
    1 < octetAt [3, 2, 0, 0, 0] 1 ∧ (octetAt [3, 0, 17, 0, 0] 1 = 0 ∧ 16 < octetAt [3, 0, 17, 0, 0] 2) ∧
    (octetAt [3, 1, 9, 8, 0] 1 = 1 ∧ 8 < octetAt [3, 1, 9, 8, 0] 2) ∧ 8 < octetAt [3, 1, 8, 9, 0] 3 := by decide

theorem test_witness_CyclesAndSkipsChooseTheNextExchange :
    let s := withStation bound (awaiting .census)
    (Ready ready ∧ ready.loop.exchange = none) ∧
    (Ready s ∧ s.loop.exchange = some (awaiting .census) ∧ { s.loop with pollPos := 2 }.PollsNext 2 ∧
      s.loop.cycleStarted.PollsNext 2) ∧
    (let l := (withStation { state := .lost } (awaiting .poll)).loop;
      l.PollsDone ∧ { l with censusDone := false }.CensusNext 2) ∧
    s.loop.Spent ∧
    (∀ b : Sta, ready.loop.stations[b].state = .unconfigured) ∧
    (ready.loop.cycleTimer = some 100 ∧ ready.loop.running = false ∧ s.loop.running = true) := by
  unfold Ready Loop.PollsNext Loop.Spent Loop.PollsDone Loop.CensusNext
  refine ⟨?_, ?_, ?_, ?_, ?_, ?_⟩ <;> decide +kernel

theorem test_witness_CyclesAndSkipsChooseTheNextExchange_late :
    (let l := { (withStation bound (awaiting .census)).loop with late := true, pollPos := 3 };
      l.exchange = some (awaiting .census) ∧ l.PollsDone ∧ l.censusDone = true ∧ l.late = true ∧ l.overrun = false ∧
      l.cycleStarted.PollsNext 2) ∧
    (let l := { (withStation { state := .disabled } (awaiting .poll)).loop with late := true };
      l.PollsDone ∧ l.late = true ∧ ∀ b : Sta, l.stations[b].state ≠ .online ∧ l.stations[b].state ≠ .census ∧
        l.stations[b].state ≠ .lost) := by
  unfold Loop.PollsDone Loop.PollsNext
  refine ⟨?_, ?_⟩ <;> decide +kernel

theorem test_witness_ExchangeStepsAndFailures :
    let s := withStation bound (awaiting .poll)
    s.loop.exchange = some (awaiting .poll) ∧
    ({ awaiting .poll with phase := .sending } : Exchange).phase = .sending ∧ (awaiting .poll).phase = .awaiting 1 ∧
    (2 ≤ BitVec.toNat (2 : Byte) ∧ BitVec.toNat (64 : Byte) ≤ 64 ∧ 64 < BitVec.toNat (65 : Byte)) ∧
    (([64] : List Byte).length + 1 < octetAt [64] 0 ∧ octetAt [64] 0 ≤ 64) ∧ s.loop.Spent ∧
    octetSum [6, 3, 0, 0, 0, 0] ≠ 0 ∧ (octetSum [6, 4, 0, 0, 0, 246] = 0 ∧ octetAt [6, 4, 0, 0, 0, 246] 1 ≠ number (2 : Sta)) ∧
    (awaiting .census).command = .census ∧ (bound.failures < 2 ∧ ({ bound with failures := 2 } : Station).failures = 2) := by
  unfold Loop.Spent Loop.PollsDone
  decide +kernel

/-- Replies that fail FORMAT: BETWEEN and an event of code 3, two events counted in six octets, position NONE. -/
theorem test_witness_ExchangeStepsAndFailures_format :
    (ReplyOf 2 [7, 3, 2, 0, 16, 3, 225] ∧ octetAt [7, 3, 2, 0, 16, 3, 225] 5 = 3) ∧
    (ReplyOf 2 [6, 3, 0, 0, 32, 215] ∧ octetAt [6, 3, 0, 0, 32, 215] 0 ≠ 6 + 2) ∧
    (ReplyOf 2 [6, 3, 3, 0, 0, 244] ∧ octetAt [6, 3, 3, 0, 0, 244] 2 % 4 = 3) := by
  unfold ReplyOf
  decide +kernel

/-- Station 3's exchange waits for a reply over a switch point that stands so, with vehicle 7 in the table. -/
def replying (w : SwitchPoint) (c : LoopCommand) : State :=
  { withVehicle seven with loop := (withStation bound (awaiting c)).loop, sws := ready.sws.set 0 w }

theorem test_witness_SwitchStationReplyActsOnTheSwitchPoint :
    (let s := replying { fed with position := .moving, stage := .pending, carried := true } (.drive .turnout);
      s.loop.exchange = some (awaiting (.drive .turnout)) ∧ s.loop.Spent ∧
      s.loop.stations[(2 : Sta)].role = .switch (some 0) ∧ s.sws[(0 : Sw)].position = .moving ∧
      s.sws[(0 : Sw)].stage = .pending ∧ s.sws[(0 : Sw)].carried = true ∧ octetSum [6, 3, 130, 0, 0, 117] = 0 ∧
      octetAt [6, 3, 130, 0, 0, 117] 1 = number (2 : Sta) ∧ octetAt [6, 3, 130, 0, 0, 117] 2 = 130) ∧
    (let s := replying { fed with position := .moving, stage := .sent, target := .turnout } .poll;
      s.loop.Spent ∧ s.sws[(0 : Sw)].stage = .sent ∧ s.sws[(0 : Sw)].target = .turnout ∧ s.sws[(0 : Sw)].queue = [] ∧
      octetSum [6, 3, 1, 0, 0, 246] = 0 ∧ octetAt [6, 3, 1, 0, 0, 246] 2 = Direction.turnout.code + 0) ∧
    (let s := replying { fed with queue := [⟨7, .turnout⟩] } .poll;
      s.loop.Spent ∧ s.sws[(0 : Sw)].position = .straight ∧ s.sws[(0 : Sw)].poles = 0 ∧
      s.sws[(0 : Sw)].queue = [⟨seven.number, .turnout⟩] ∧ s.vt.slots[(0 : Slot)] = some seven ∧
      s.loop.stations[(2 : Sta)].mark ≠ some true ∧ octetSum [7, 3, 128, 0, 16, 1, 101] = 0 ∧
      octetAt [7, 3, 128, 0, 16, 1, 101] 4 = 16 ∧ octetAt [7, 3, 128, 0, 16, 1, 101] 5 = 1) ∧
    (replying fed .poll).sws[(0 : Sw)].queue = [] := by
  unfold Loop.Spent Loop.PollsDone
  decide +kernel

theorem test_witness_SwitchStationReplyActsOnTheSwitchPoint_table (w : SwitchPoint) (c : LoopCommand) :
    TableOk (replying w c) := tableOk_single seven (by decide) (by decide)

theorem test_witness_CensusReplyJudgesTheStation :
    (let s := replying { fed with station := .lost, lock := .noField, poles := 1, queue := [⟨7, .turnout⟩] } .census;
      s.loop.exchange = some (awaiting .census) ∧ (awaiting .census).phase ≠ .sending ∧ s.loop.Spent ∧
      s.loop.found = none ∧ s.loop.stations[(2 : Sta)].role = .switch (some 0) ∧ s.sws[(0 : Sw)].poles = 1) ∧
    (let o : List Byte := [6, 3, 130, 2, 0, 115];
      ReplyOf 2 o ∧ o.length = 6 ∧ octetAt o 4 = 0 ∧ octetAt o 2 = StationPosition.between.code + 16 * 0 + 128 ∧
      octetAt o 3 = 2) ∧
    (let o : List Byte := [6, 3, 19, 0, 0, 228];
      ReplyOf 2 o ∧ o.length = 6 ∧ octetAt o 4 = 0 ∧ octetAt o 2 = 3 + 16 * 1 + 0) ∧
    ((withStation boundary (awaiting .census)).loop.stations[(2 : Sta)].role = .boundary (some 0) (some 1) ∧
      (withStation { role := .switch none } (awaiting .census)).loop.stations[(2 : Sta)].role = .switch none) ∧
    ((replying { fed with poles := 2 } .census).sws[(0 : Sw)].queue = [] ∧
      (replying { fed with poles := 2 } .census).sws[(0 : Sw)].occupant = none) := by
  unfold ReplyOf Loop.Spent Loop.PollsDone
  refine ⟨?_, ?_, ?_, ?_, ?_⟩ <;> decide +kernel

/-- Two poles stood on the frog and one entry was kept: the census counts settle as R140's table says. -/
theorem test_census_resync :
    ∃ t, exec (.loopReplyComplete [6, 3, 130, 2, 0, 115])
        (replying { fed with station := .lost, lock := .noField, poles := 1, both := false } .census) = .next t ∧
      t.sws[(0 : Sw)].poles = 2 ∧ t.sws[(0 : Sw)].both = true ∧ t.sws[(0 : Sw)].lock = .none ∧
      t.sws[(0 : Sw)].position = .unknown ∧ t.loop.stations[(2 : Sta)].state = .online ∧
      t.notices.records.map (·.kind) = [.contactResync, .stationOnline] := ⟨_, rfl, by decide +kernel⟩

theorem test_witness_ContactEventsCountThePoles :
    (let s := replying { fed with poles := 1, occupant := some 7, queue := [⟨7, .straight⟩] } .poll;
      s.loop.exchange = some (awaiting .poll) ∧ (awaiting .poll).phase ≠ .sending ∧ s.loop.Spent ∧
      s.loop.stations[(2 : Sta)].role = .switch (some 0) ∧ s.loop.stations[(2 : Sta)].mark = some false ∧
      s.sws[(0 : Sw)].position = Direction.straight.position ∧ s.sws[(0 : Sw)].queue = [⟨seven.number, .straight⟩] ∧
      s.sws[(0 : Sw)].occupant = some seven.number ∧ s.sws[(0 : Sw)].lock ≠ .pinned ∧
      s.vt.slots[(0 : Slot)] = some seven ∧ seven.deferred = none) ∧
    (let o : List Byte := [7, 3, 128, 0, 16, 2, 100];
      ReplyOf 2 o ∧ o.length = 7 ∧ octetAt o 4 = 16 ∧ octetAt o 5 = 2 ∧
      octetAt o 2 = StationPosition.straight.code + 128) ∧
    (let o : List Byte := [7, 3, 2, 0, 16, 1, 227];
      ReplyOf 2 o ∧ o.length = 7 ∧ octetAt o 5 = 1 ∧ octetAt o 2 = StationPosition.between.code + 0) ∧
    (let o : List Byte := [6, 3, 1, 0, 0, 246];
      ReplyOf 2 o ∧ o.length = 6 ∧ octetAt o 4 = 0 ∧ octetAt o 2 = StationPosition.turnout.code + 0 ∧
      StationPosition.turnout.code ≠ Direction.straight.code) ∧
    ((fed.poles = 0 ∧ ({ fed with poles := 2 } : SwitchPoint).poles = 2) ∧
      ({ fed with poles := 1 } : SwitchPoint).occupant = none) ∧
    (let w : SwitchPoint := { fed with position := .moving, queue := [⟨7, .turnout⟩] };
      w.poles = 0 ∧ w.lock ≠ .dewired ∧ w.feeding = some 0) ∧
    (({ seven with deferred := some (1, none) } : Vehicle).deferred = some (1, none) ∧
      ((replying fed .poll).sws[(1 : Sw)].lock ≠ .pinned ∧ (replying fed .poll).sws[(1 : Sw)].holds 7 = false ∧
        (replying fed .poll).sws[(1 : Sw)].queue.length < 4)) := by
  unfold ReplyOf Loop.Spent Loop.PollsDone
  refine ⟨?_, ?_, ?_, ?_, ?_, ?_, ?_⟩ <;> decide +kernel

/-- The reply of station 3 that brings the approach of vehicle 7 towards the turnout, at position STRAIGHT. -/
def approachReply : List Byte := [11, 3, 128, 0, 1, 0, 7, 2, 0, 0, 104]

theorem test_witness_ApproachesAreQueuedAndServed :
    (let s := replying fed .poll;
      s.loop.exchange = some (awaiting .poll) ∧ (awaiting .poll).phase ≠ .sending ∧ s.loop.Spent ∧
      s.loop.stations[(2 : Sta)].role = .switch (some 0) ∧ s.loop.stations[(2 : Sta)].mark ≠ some true ∧
      ReplyOf 2 approachReply ∧ approachReply.length = 11 ∧
      octetAt approachReply 2 = Direction.straight.code + 128 ∧ octetAt approachReply 4 = 1 ∧
      halfAt approachReply 5 = seven.number ∧ octetAt approachReply 7 = routeCode (some .turnout) ∧
      s.sws[(0 : Sw)].position = Direction.straight.position ∧ s.sws[(0 : Sw)].serve s.halted = s.sws[(0 : Sw)] ∧
      s.vt.slots[(0 : Slot)] = some seven ∧ seven.active = true ∧ octetAt approachReply 8 = 0 ∧ seven.leak = false ∧
      seven.dewired = false ∧ seven.sec = s.sws[(0 : Sw)].feeding ∧ seven.queue = none ∧
      s.sws[(0 : Sw)].holds 7 = false) ∧
    (let q : List QueueEntry := [⟨1, .straight⟩, ⟨2, .straight⟩, ⟨3, .straight⟩, ⟨4, .straight⟩];
      4 ≤ q.length ∧ ({ fed with queue := q } : SwitchPoint).holds 7 = false ∧
      ({ fed with queue := q } : SwitchPoint).serve false = { fed with queue := q }) ∧
    ((inQueue.vt.slots[(0 : Slot)] = some { seven with queue := some 0 } ∧ inQueue.sws[(0 : Sw)].holds 7 = true) ∧
      inQueue.sws[(0 : Sw)].occupant ≠ some 7 ∧ inQueue.sws[(0 : Sw)].lock ≠ .pinned) ∧
    ({ seven with queue := some 1, occupied := some 1 } : Vehicle).occupied = some 1 ∧
    (let full : State := { replying fed .poll with vt := { slots := Vector.replicate 64 (some { seven with number := 8 }) } };
      (∀ i : Slot, full.vt.slots[i].isSome = true) ∧ (∀ i : Slot, full.vt.slots[i].all fun v => v.number ≠ 7) ∧
      (∀ j : Sw, full.sws[j].yields 7 = false ∧ full.sws[j].occupant ≠ some 7)) := by
  unfold ReplyOf Loop.Spent Loop.PollsDone
  refine ⟨?_, ?_, ?_, ?_, ?_⟩ <;> decide +kernel

/-- The approach alone: it stands at the head, and the serving rule makes a drive. -/
theorem test_approach_is_served :
    ∃ t, exec (.loopReplyComplete approachReply) (replying { fed with queue := [] } .poll) = .next t ∧
      t.sws[(0 : Sw)].queue = [⟨7, .turnout⟩] ∧ t.sws[(0 : Sw)].position = .moving ∧ t.sws[(0 : Sw)].target = .turnout ∧
      t.vt.slots[(0 : Slot)].map (·.queue) = some (some 0) := ⟨_, rfl, by decide +kernel⟩

theorem test_witness_SwitchTimersExpire :
    (let s := replying { fed with poleTimer := .running 0, occupant := some 7 } .poll;
      TableOk s ∧ s.sws[(0 : Sw)].poleTimer = .running 0 ∧ s.sws[(0 : Sw)].occupant = some seven.number ∧
      s.vt.slots[(0 : Slot)] = some seven ∧ seven.dewired = false ∧ s.sws[(0 : Sw)].feeding = some 0) ∧
    (withSw { fed with poleTimer := .running 0 }).sws[(0 : Sw)].occupant = none ∧
    (withSw { fed with passTimer := .running 0 }).sws[(0 : Sw)].passTimer = .running 0 ∧
    (let w := (withSw { fed with driveTimer := some 0 }).sws[(0 : Sw)];
      w.driveTimer = some 0 ∧ w.lock ≠ .dewired ∧ w.failed = 0) ∧
    (let w := (withSw { fed with driveTimer := some 0, failed := 1 }).sws[(0 : Sw)];
      w.driveTimer = some 0 ∧ w.lock ≠ .dewired ∧ w.failed ≠ 0) :=
  ⟨⟨tableOk_single seven (by decide) (by decide), by decide +kernel⟩, by decide +kernel⟩

/-- A queue whose overflow mark is set. -/
def overflowed : NoticeQueue :=
  { records := [⟨0, .overflow, 6, 0, .link, [1, 6, 65535, 6]⟩], counter := 1, overflow := true, attn := true }

theorem test_witness_notices :
    Reachable halted ∧ halted.notices.records = [] ∧ halted.notices.overflow = false ∧
    (overflowed.overflow = true ∧ overflowed.records ≠ [] ∧
      overflowed.records = [] ++ [⟨0, .overflow, 6, 0, .link, [1, 6, 65535, 6]⟩]) ∧
    ready.notices.records.length < 47 ∧
    47 ≤ ({ records := List.replicate 47 ⟨0, .halt, 7, 0, .link, []⟩ } : NoticeQueue).records.length := by
  unfold Reachable
  decide +kernel

theorem test_witness_ClockCountsAndIsSet :
    Reachable halted ∧ Reachable ready ∧ halted.halted = true ∧ ready.halted = false ∧
    wideAt [255, 255, 255, 255] 0 = 4294967295 := by
  unfold Reachable
  decide +kernel

theorem test_witness_ClockCountsAndIsSet_timers :
    (testing []).arb.contexts[(0 : Circuit)] = some ⟨0, 300, []⟩ ∧ (testing []).arb.contexts[(1 : Circuit)] = none ∧
    ((withStation bound (awaiting .poll)).loop.exchange = some (awaiting .poll) ∧ (awaiting .poll).phase = .awaiting 1) ∧
    ready.loop.exchange = none := by decide +kernel

theorem test_witness_LinkEventsMoveTheReceiver :
    ready.link.receiver = .hunting ∧ ({ ready.link with receiver := .length } : Link).receiver = .length ∧
    (1 ≤ BitVec.toNat (1 : Byte) ∧ BitVec.toNat (250 : Byte) ≤ 250 ∧ 250 < BitVec.toNat (251 : Byte)) ∧
    (([] : List Byte).length + 1 < 1 + 2) ∧ (Link.receiving .length ready.link).gapTimer = some 5 ∧
    (crc16 (([1, 0x49, 0, 0] : List Byte).take 2)).toNat ≠ halfAt [1, 0x49, 0, 0] 2 ∧
    ([1, 0x49] : List Byte).length ≠ octetAt [1, 0x49] 0 + 3 ∧
    (requestKinds.contains (BitVec.toNat (0xFF : Byte)) = false ∧ Reachable ready) ∧
    (State.reset.link.reply = none ∧ State.reset.link.startPeriod.isSome = true) ∧
    (answered 0x4F .ok [] ready).link.reply = some ⟨0x4F, .ok, []⟩ ∧
    (answered 0x49 .ok [] ready).link.reply = some ⟨0x49, .ok, []⟩ := by
  unfold Reachable
  decide +kernel

theorem test_witness_RestartResetsItsBlocks :
    Reachable ready ∧ ready.halted = false ∧ Reachable { failed .travel with halted := true } ∧
    (failed .travel).secs[(0 : Sec)].state = .breakerFail ∧
    ((failed .travel).secs[(7 : Sec)].state ≠ .breakerFail ∧ (failed .travel).secs[(7 : Sec)].feedback = .closed) ∧
    ((withSec {}).secs[(0 : Sec)].state ≠ .breakerFail ∧ (withSec {}).secs[(0 : Sec)].feedback = .opened) := by
  unfold Reachable
  decide +kernel

/-- A part in HALT whose switch point 1 has a drive still PENDING, fed from section 1. -/
def haltedDrive : State :=
  { withSw { fed with position := .moving, stage := .pending } with
    halted := true, vt := { ready.vt with power := Vector.replicate 8 true } }

theorem test_witness_RestartResetsItsBlocks_pending :
    Reachable haltedDrive ∧ haltedDrive.halted = true ∧ PowerOk haltedDrive ∧
    haltedDrive.sws[(0 : Sw)].stage = .pending := by
  unfold Reachable PowerOk
  decide +kernel

/-- A frame of count 0 with section 8's current and both its flags. -/
def frameOf (high low : Byte) : List Byte :=
  List.replicate 15 0 ++ [high, low] ++ List.replicate 18 0 ++ [0, 128, 128]

theorem test_witness_ArrivalComputesTheProtection :
    let s := { ready with fpus := ready.fpus.set 7 { state := .measuring }, port := { prevCount := some 255 } }
    38 ≤ (frameOf 0 50).length ∧ (frameOf 0 50).getD 36 0 &&& (frameOf 0 50).getD 37 0 = BitVec.twoPow 8 7 ∧
    octetAt (frameOf 0 50) 35 % 2 = 0 ∧ s.port.prevCount = some ((frameOf 0 50).getD 0 0 - 1) ∧
    s.fpus[(7 : Sec)].state = .measuring ∧ (∀ g : Gen, s.gens[g].setting.inputs = []) ∧
    s.caps[(7 : Sec)].state = .idle ∧ s.secs[(7 : Sec)].state = .closed ∧ s.secs[(7 : Sec)].feedback ≠ .opened ∧
    (BitVec.ofNat 15 (halfAt (frameOf 0 50) 15)).toInt = 50 ∧
    (BitVec.ofNat 15 (halfAt (frameOf 64 0) 15)).toInt = -16384 ∧
    (withSec {}).secs[(0 : Sec)].state ∉ [SecState.closed, .reclaim, .closing, .tripping] := by decide +kernel

/-- Section 8 before its arrival, its FPU and its buffer standing so. -/
def arriving (f : Fpu) (b : Capture) : State :=
  { ready with fpus := ready.fpus.set 7 f, caps := ready.caps.set 7 b, port := { prevCount := some 255 } }

theorem oneSet_arriving (f : Fpu) (b : Capture) : OneSet 7 (frameOf 0 50) (arriving f b) :=
  ⟨by decide, by decide, by decide, .inr rfl⟩

theorem test_witness_FirstArrivalEntersMeasuring :
    let f : Fpu := { state := .lost, loss := some (.frames, 3), lossTimer := none }
    (OneSet 7 (frameOf 0 50) (arriving f {}) ∧ OneSet 7 (frameOf 0 50) (arriving {} {})) ∧
    (let s := arriving f {};
      s.fpus[(7 : Sec)] = f ∧ f.state ≠ .measuring ∧ 1 ≤ f.protection.riseStart ∧ s.caps[(7 : Sec)].state = .idle ∧
      (∀ g : Gen, s.gens[g].setting.inputs = []) ∧ s.secs[(7 : Sec)].state = .closed ∧
      s.secs[(7 : Sec)].feedback ≠ .opened ∧ (BitVec.ofNat 15 (halfAt (frameOf 0 50) 15)).toInt = 50 ∧
      (50 : Int) < f.protection.level ∧ (50 : Int).natAbs < f.protection.instant ∧ f.protection.duration ≠ 0) ∧
    (arriving {} {}).fpus[(7 : Sec)].state = .starting ∧
    (withSec {}).secs[(0 : Sec)].state ∉ [SecState.closed, .reclaim, .closing, .tripping] ∧
    (BitVec.ofNat 15 (halfAt (frameOf 64 0) 15)).toInt = -16384 :=
  ⟨⟨oneSet_arriving _ _, oneSet_arriving _ _⟩, by decide +kernel⟩

/-- Section 8 before its arrival, generator 1 bound to it with this setting and output. -/
def judging (c : Condition) (out : GenState) : State :=
  { arriving { state := .measuring } {} with gens := ready.gens.set 0 { setting := c, out := out } }

theorem test_witness_GeneratorsAreEvaluatedAtAnArrival :
    let s := judging { sec := 7, inputs := [.iAbove 10], capture := true, trip := true, notice := true } (.onset 1)
    OneSet 7 (frameOf 0 50) s ∧
    (s.fpus[(7 : Sec)].state = .measuring ∧ s.caps[(7 : Sec)].state = .idle ∧ s.gens[(0 : Gen)].setting.sec = 7 ∧
      s.gens[(0 : Gen)].setting.inputs ≠ [] ∧ (∀ h : Gen, h ≠ 0 → s.gens[h].setting.inputs = [])) ∧
    (s.secs[(7 : Sec)].state ∈ [SecState.closed, .reclaim, .closing] ∧ s.secs[(7 : Sec)].feedback ≠ .opened) ∧
    (tripping [.step] 0).secs[(0 : Sec)].state = .tripping ∧
    (tripping [.step] 0).secs[(0 : Sec)].record = some { sample with causes := [.step] } :=
  ⟨oneSet_arriving { state := .measuring } {}, by decide +kernel⟩

theorem test_witness_CaptureEntryIsTakenByTheBuffersState :
    let f : Fpu := { state := .measuring }
    let e : CaptureEntry := ⟨1, 0, 0, 0, 0, false, false⟩
    let isolated (b : Capture) : State := { arriving f b with secs := ready.secs.set 7 { state := .isolated } }
    (∀ b : Capture, OneSet 7 (frameOf 0 50) (isolated b)) ∧
    ((isolated {}).fpus[(7 : Sec)].state = .measuring ∧
      (isolated {}).secs[(7 : Sec)].state ∉ [SecState.closed, .reclaim, .closing, .tripping] ∧
      (∀ g : Gen, (isolated {}).gens[g].setting.inputs = [])) ∧
    (isolated { state := .frozen }).caps[(7 : Sec)].state ∈ [CaptureState.idle, .full, .frozen] ∧
    (isolated { state := .ringing, decCount := 1 }).caps[(7 : Sec)].decCount ≠ 0 ∧
    (isolated { state := .gated }).caps[(7 : Sec)].gate = false ∧
    (isolated { state := .filling, entries := List.replicate 63 e }).caps[(7 : Sec)].entries.length + 1 = 64 ∧
    (isolated { state := .ringing, entries := List.replicate 64 e }).caps[(7 : Sec)].entries.length = 64 ∧
    (isolated { state := .gated, gate := true }).caps[(7 : Sec)].gate = true ∧
    2 ≤ (isolated { state := .postTrigger, remainder := 2 }).caps[(7 : Sec)].remainder ∧
    (isolated { state := .postTrigger, remainder := 1 }).caps[(7 : Sec)].remainder = 1 :=
  ⟨fun b => oneSet_arriving { state := .measuring } b, by decide +kernel⟩

theorem test_witness_FramesLostAndMissing :
    (List.replicate 37 (0 : Byte)).length < 38 ∧ 38 ≤ (List.replicate 38 (0 : Byte)).length ∧
    ((List.replicate 38 (0 : Byte)).getD 36 0 &&& (List.replicate 38 (0 : Byte)).getD 37 0 = 0 ∧
      (254 : Byte) + 1 ≠ (List.replicate 38 (0 : Byte)).getD 0 0) ∧
    (ready.fpus[(7 : Sec)].state ≠ .lost ∧ ready.fpus[(7 : Sec)].lossTimer = some 2 ∧
      ready.fpus[(7 : Sec)].protection.lossAction = .trip ∧ ready.secs[(7 : Sec)].state = .closed ∧
      ready.secs[(7 : Sec)].feedback ≠ .opened ∧ ready.halted = false ∧ ready.caps[(7 : Sec)].state ≠ .awaitTrip) ∧
    (withFpu { protection := { lossAction := .block } }).fpus[(0 : Sec)].protection.lossAction = .block ∧
    (withFpu { state := .lost, lossTimer := none }).fpus[(0 : Sec)].state = .lost ∧
    ready.port.frameTimer = some 2 := by decide +kernel
end Sys2Proof.Machine.Tests
end

section
/-!
The last test records (R87) under the operations of a section, and the decision of a line test (R83 to R86), said once;
from them, what a settle timer's expiry writes.
-/

namespace Sys2Proof.Machine

/-! ### The last test record of a section -/

/-- The last test record of section `m` (R87). Only the expiry of a settle timer writes it. -/
def State.testOf (m : Sec) (s : State) : Option TestRecord := s.secs[m].lastTest

section
variable (s : State) (m n : Sec)

/-- A change of a section's record that leaves its last test record alone leaves all of them alone. -/
@[simp] theorem State.modSec_testOf {f : Section → Section} (hf : ∀ r, (f r).lastTest = r.lastTest) :
    (s.modSec n f).testOf m = s.testOf m := by
  by_cases h : m = n
  · subst h; simp [State.testOf, hf]
  · simp [State.testOf, h]

@[simp] theorem State.modArb_testOf (f : Arbiter → Arbiter) : (s.modArb f).testOf m = s.testOf m := rfl

@[simp] theorem queueNotice_testOf (kind : NoticeKind) (p : Nat) (src : Source) (ws : List Half) :
    (queueNotice kind p src ws s).testOf m = s.testOf m := rfl

@[simp] theorem reportPower_testOf (powered : Bool) : (reportPower n powered s).testOf m = s.testOf m := by
  rw [reportPower_eq]; rfl

/-! Entering a state -/

@[simp] theorem enter_testOf (st : SecState) : (enter n st s).testOf m = s.testOf m :=
  s.modSec_testOf m n fun _ => rfl

@[simp] theorem reportChange_testOf (was : SecState) : (reportChange n was s).testOf m = s.testOf m := by
  unfold reportChange
  split
  · rfl
  · simp

@[simp] theorem enterLockout_testOf (why : LockoutReason) : (enterLockout n why s).testOf m = s.testOf m := by
  simp [enterLockout]

@[simp] theorem enterDead_testOf (k : Nat) : (enterDead n k s).testOf m = s.testOf m := by simp [enterDead]

@[simp] theorem enterHeld_testOf : (enterHeld n s).testOf m = s.testOf m := by simp [enterHeld]

@[simp] theorem reclosed_testOf : (reclosed n s).testOf m = s.testOf m := by simp [reclosed]

@[simp] theorem enterClosing_testOf : (enterClosing n s).testOf m = s.testOf m := by
  unfold enterClosing
  dsimp only
  split <;> simp

/-! The Test Arbiter's grants -/

@[simp] theorem takeGrant_testOf (c : Circuit) : (takeGrant n c s).testOf m = s.testOf m := by
  unfold takeGrant
  split
  · simp
  · rfl

@[simp] theorem grantLoop_testOf (fuel : Nat) : (grantLoop fuel s).testOf m = s.testOf m := by
  induction fuel generalizing s with
  | zero => rfl
  | succ fuel ih =>
    unfold grantLoop
    split
    · split
      · simp [ih]
      · rfl
    · rfl

@[simp] theorem releaseCircuit_testOf : (releaseCircuit n s).testOf m = s.testOf m := by
  unfold releaseCircuit
  split
  · rfl
  · simp [applyGrants]

/-- A result moves the section by its kind (R58, R88), and no last test record changes. -/
@[simp] theorem takeResult_testOf (result : TestResult) : (takeResult n result s).testOf m = s.testOf m := by
  unfold takeResult
  split
  · cases result with
    | clear => simp
    | fault => dsimp only; split <;> simp
    | inconclusive => simp
    | noSupply => simp
  · rfl

end

/-- The expiry leaves the decision as the section's last test record, wherever the result then moves the section (R87). -/
theorem settleExpired_testOf {c : Circuit} {s : State} {x : TestContext} (hx : s.arb.contexts[c] = some x) :
    (settleExpired c s).testOf x.sec = some (decideTest c x s) := by
  unfold settleExpired
  rw [hx]
  dsimp only
  rw [takeResult_testOf, queueNotice_testOf]
  simp [State.testOf]

/-! ### The decision (R83 to R86) -/

theorem loadResistance_of_le {ub us : Nat} (rt : Nat) (h : ub ≤ us) : loadResistance rt us ub = 65535 := if_pos h

theorem loadResistance_of_lt {us ub : Nat} (rt : Nat) (h : us < ub) :
    loadResistance rt us ub = min (10 * rt * us / (ub - us)) 65535 := by
  rw [loadResistance, if_neg (by omega), Nat.min_comm]

theorem expectedResistance_zero (rveh : Nat) : expectedResistance rveh 0 = 65535 := rfl

theorem expectedResistance_pos (rveh : Nat) {n : Nat} (h : 0 < n) : expectedResistance rveh n = rveh / n :=
  if_neg (by omega)

section
variable {rload rc rfault : Nat}

theorem classify_of_rc_le (h : rc ≤ rfault) : classify rload rc rfault = .inconclusive := if_pos h

theorem classify_of_rc_le_rload (h : rfault < rc) (hl : rc ≤ rload) : classify rload rc rfault = .clear := by
  rw [classify, if_neg (by omega), if_pos hl]

theorem classify_of_rload_lt_rfault (h : rfault < rc) (hl : rload < rc) (hf : rload < rfault) :
    classify rload rc rfault = .fault := by
  rw [classify, if_neg (by omega), if_neg (by omega), if_pos hf]

theorem classify_of_between (h : rfault < rc) (hl : rload < rc) (hf : rfault ≤ rload) :
    classify rload rc rfault = .inconclusive := by
  rw [classify, if_neg (by omega), if_neg (by omega), if_neg (by omega)]

end

/-- The part of the record that stands whatever the decision: the means over the pairs in the window, their count, the
circuit, the time and the count of vehicles (R87). -/
theorem decideTest_measured (c : Circuit) (x : TestContext) (s : State) :
    let d := decideTest c x s
    d.us = (x.pairs.map (·.1)).sum / x.pairs.length ∧ d.ub = (x.pairs.map (·.2)).sum / x.pairs.length ∧
      d.pairs = x.pairs.length ∧ d.circuit = c ∧ d.time = s.clock ∧ d.nPresent = s.present x.sec := by
  unfold decideTest
  dsimp only
  split
  · simp [mean]
  · split <;> simp [mean]

/-- The record says NO_SUPPLY for this reason, with an open line's load resistance and no levels (R83). -/
def TestRecord.NoSupply (why : NoSupplyReason) (d : TestRecord) : Prop :=
  d.result = .noSupply ∧ d.reason = why ∧ d.rload = 65535 ∧ d.rexp = 0 ∧ d.rc = 0

theorem decideTest_of_few_pairs (c : Circuit) {x : TestContext} (s : State) (h : x.pairs.length < 8) :
    (decideTest c x s).NoSupply .measurement := by
  rw [decideTest, if_pos h]
  exact ⟨rfl, rfl, rfl, rfl, rfl⟩

theorem decideTest_of_bus_low (c : Circuit) {x : TestContext} (s : State) (h : x.pairs.length = 8)
    (hb : (decideTest c x s).ub < 1600) : (decideTest c x s).NoSupply .busLow := by
  have hlow : mean (x.pairs.map (·.2)) < busLowLimit := by
    obtain ⟨-, hub, -⟩ := decideTest_measured c x s
    simpa [hub, mean, busLowLimit] using hb
  rw [decideTest, if_neg (by omega), if_pos hlow]
  exact ⟨rfl, rfl, rfl, rfl, rfl⟩

/-- Eight pairs over a live bus: the levels by R84 and R85, the result by R86. -/
theorem decideTest_of_supply (c : Circuit) {x : TestContext} (s : State) (h : x.pairs.length = 8)
    (hb : 1600 ≤ (decideTest c x s).ub) :
    let d := decideTest c x s
    let k := s.secs[x.sec].settings
    d.reason = .none ∧ d.rload = loadResistance k.resistor d.us d.ub ∧
      d.rexp = expectedResistance k.vehicle d.nPresent ∧ d.rc = clearanceLevel k.clearLevel d.rexp ∧
      d.result = classify d.rload d.rc k.faultLevel := by
  have hlive : ¬ mean (x.pairs.map (·.2)) < busLowLimit := by
    obtain ⟨-, hub, -⟩ := decideTest_measured c x s
    simpa [hub, mean, busLowLimit] using hb
  rw [decideTest, if_neg (by omega), if_neg hlive]
  exact ⟨rfl, rfl, rfl, rfl, rfl⟩

/-- Settles O34: the record that the expiry writes is the decision, and the decision is R83's for too few pairs or a low
bus, else R84's to R86's. -/
theorem settleExpiryClassifiesTheLine : Obligations.SettleExpiryClassifiesTheLine := by
  unfold Obligations.SettleExpiryClassifiesTheLine
  intro c s x hx _ us ub k
  obtain ⟨hus, hub, hpairs, hcircuit, htime, hpresent⟩ := decideTest_measured c x s
  refine ⟨settleExpired c s, decideTest c x s, rfl, settleExpired_testOf hx, hus, hub, hpairs, hcircuit, htime, hpresent,
    decideTest_of_few_pairs c s, fun h hlow => decideTest_of_bus_low c s h (hub ▸ hlow), fun h hlive => ?_⟩
  obtain ⟨hreason, hrload, hrexp, hrc, hresult⟩ := decideTest_of_supply c s h (hub ▸ hlive)
  rw [hus, hub] at hrload
  rw [hpresent] at hrexp
  rw [hresult]
  exact ⟨hreason,
    fun hle => hrload.trans (loadResistance_of_le _ hle),
    fun hlt => hrload.trans (loadResistance_of_lt _ hlt),
    fun h0 => by rw [hrexp, h0, expectedResistance_zero],
    fun h0 => hrexp.trans (expectedResistance_pos _ h0),
    hrc, classify_of_rc_le, classify_of_rc_le_rload, classify_of_rload_lt_rfault, classify_of_between⟩

end Sys2Proof.Machine
end

section
/-!
The cycle of a field loop that has no exchange to make (R146), said once for any loop; from it, the loop at cold reset and
the cycles that follow (R164).
-/

namespace Sys2Proof.Machine

/-! ### A loop with no exchange to make (R146) -/

section
variable {l : Loop} {s : State}

/-- No station is a candidate, for a poll or for the census. -/
def Loop.Idle (l : Loop) : Prop :=
  ∀ a : Sta, l.stations[a].state ≠ .online ∧ l.stations[a].state ≠ .census ∧ l.stations[a].state ≠ .lost

theorem Loop.idle_of_unconfigured (h : ∀ a : Sta, l.stations[a].state = .unconfigured) : l.Idle :=
  fun a => by rw [h a]; decide

/-- No poll is next exactly when the statements' `PollsDone` holds. -/
theorem Loop.nextPoll_eq_none_iff : l.nextPoll = none ↔ l.PollsDone := by
  simp [Loop.nextPoll, Loop.PollsDone, List.find?_eq_none]

theorem Station.wantsCensus_iff {r : Station} : r.wantsCensus = true ↔ r.state = .census ∨ r.state = .lost := by
  simp [Station.wantsCensus]

/-- The census wraps round the whole table, so its position has no bearing on whether there is a candidate. -/
theorem Loop.nextCensus_eq_none_iff :
    l.nextCensus = none ↔ ∀ a : Sta, ¬(l.stations[a].state = .census ∨ l.stations[a].state = .lost) := by
  unfold Loop.nextCensus
  split
  next a ha =>
    have hwants := List.find?_some ha
    rw [Bool.and_eq_true, Station.wantsCensus_iff] at hwants
    exact ⟨nofun, fun h => absurd hwants.2 (h a)⟩
  next => simp [List.find?_eq_none, Station.wantsCensus_iff]

theorem Loop.Idle.nextPoll (h : l.Idle) : l.nextPoll = none :=
  Loop.nextPoll_eq_none_iff.mpr fun a _ ha => absurd ha (h a).1

theorem Loop.Idle.nextCensus (h : l.Idle) : l.nextCensus = none :=
  Loop.nextCensus_eq_none_iff.mpr fun a => not_or.mpr (h a).2

/-- With no exchange to make, the census counts as done and the cycle's exchanges have ended (R146). -/
theorem tryExchange_of_idle (h : s.loop.Idle) (hc : s.loop.censusDone = false) :
    tryExchange s = (s.modLoop fun l => { l with censusDone := true }, false) := by
  simp [tryExchange, h.nextPoll, h.nextCensus, hc]

/-- The loop in the rest of a cycle that had no exchange to make (R146, R147). -/
def Loop.restedAtOnce (l : Loop) : Loop := { l.startCycle with censusDone := true }.rest

theorem newCycle_of_idle (h : s.loop.Idle) : newCycle s = s.modLoop Loop.restedAtOnce := by
  have hstart : (s.modLoop Loop.startCycle).loop.Idle := h
  rw [newCycle, tryExchange_of_idle hstart rfl]
  rfl

/-- A cycle timer that expires in the rest starts a cycle (R147). -/
theorem cycleExpired_of_resting (ht : s.loop.cycleTimer.isSome) (hr : s.loop.running = false) :
    cycleExpired s = newCycle s := by
  simp [cycleExpired, ht, hr]

end

/-! ### The loop at cold reset (R164) -/

@[simp] theorem coldReset_loop (highRate : Bool) (contacts : Vector Contacts 8) (s : State) :
    (coldReset highRate contacts s).loop = {} := rfl

theorem reset_loop_station (a : Sta) : ({} : Loop).stations[a] = {} := by simp

theorem reset_loop_idle : ({} : Loop).Idle :=
  Loop.idle_of_unconfigured fun a => by rw [reset_loop_station]

/-- A cycle timer that expires at cold reset, whatever it held, leaves the part as cold reset left it: the cycle that
starts ends in the values it started from. -/
theorem cycleExpired_coldReset (highRate : Bool) (contacts : Vector Contacts 8) (s : State) (left : Nat) :
    let t := coldReset highRate contacts s
    cycleExpired { t with loop := { t.loop with cycleTimer := some left } } = t := by
  intro t
  calc cycleExpired { t with loop := { t.loop with cycleTimer := some left } }
    _ = newCycle { t with loop := { t.loop with cycleTimer := some left } } := cycleExpired_of_resting rfl rfl
    _ = { t with loop := ({ t.loop with cycleTimer := some left } : Loop).restedAtOnce } :=
      newCycle_of_idle reset_loop_idle
    _ = t := rfl

/-- Settles O5: no station of the reset records is a candidate, so each cycle rests at once, in the reset values. -/
theorem coldResetLoopRests : Obligations.ColdResetLoopRests := by
  unfold Obligations.ColdResetLoopRests
  intro highRate contacts s
  refine ⟨coldReset highRate contacts s, rfl, fun a => ?_, rfl, rfl, rfl, rfl, rfl, rfl, rfl,
    fun left => congrArg Host.Outcome.next (cycleExpired_coldReset highRate contacts s left)⟩
  rw [coldReset_loop, reset_loop_station]
  exact ⟨rfl, rfl, rfl, rfl, rfl, rfl, rfl⟩

end Sys2Proof.Machine
end

section
/-!
The ATTN level and the highest priority stored of a Notice Queue (R170, R171), said once for any queue; from them, SET
ATTENTION.
-/

namespace Sys2Proof.Machine

/-! ### The ATTN line (R170) -/

theorem attnLevel_iff {mask : Nat} {records : List Notice} :
    attnLevel mask records = true ↔ ∃ r ∈ records, mask < r.priority := by
  simp [attnLevel]

/-! ### The highest priority stored (R171) -/

namespace NoticeQueue

variable (q : NoticeQueue)

theorem highest_eq_max? : q.highest = (q.records.map (·.priority)).max?.getD 0 := by
  rw [highest, ← List.foldl_map, List.foldl_max, Nat.zero_max]

theorem highest_of_empty (h : q.records = []) : q.highest = 0 := by
  rw [highest, h]; rfl

/-- In a queue that holds a record, `highest` is the greatest element of the priorities. -/
theorem highest_isMax (h : q.records ≠ []) :
    q.highest ∈ q.records.map (·.priority) ∧ ∀ p ∈ q.records.map (·.priority), p ≤ q.highest := by
  obtain ⟨m, hm⟩ : ∃ m, (q.records.map (·.priority)).max? = some m :=
    Option.ne_none_iff_exists'.mp (by simpa using h)
  rw [highest_eq_max?, hm]
  exact List.max?_eq_some_iff.mp hm

theorem exists_priority_eq_highest (h : q.records ≠ []) : ∃ r ∈ q.records, r.priority = q.highest :=
  List.mem_map.mp (q.highest_isMax h).1

theorem priority_le_highest {r : Notice} (h : r ∈ q.records) : r.priority ≤ q.highest :=
  (q.highest_isMax (List.ne_nil_of_mem h)).2 _ (List.mem_map_of_mem h)

/-- The queue after SET ATTENTION: the mask stored, ATTN by R170 (R171). -/
def masked (mask : Nat) : NoticeQueue := { q with mask, attn := attnLevel mask q.records }

end NoticeQueue

/-! ### SET ATTENTION (R171) -/

theorem clamp_zero (hi n : Nat) : clamp 0 hi n = min n hi := by
  rw [clamp, Nat.zero_max, Nat.min_comm]

theorem setAttention_eq (p : List Byte) (s : State) :
    setAttention p s =
      let q := s.notices.masked (min (octetAt p 0) 7)
      accept { s with notices := q } [.nat 1 q.mask, fieldMark q.attn, .nat 2 q.highest] := by
  rw [setAttention, clamp_zero]; rfl

/-- SET ATTENTION passes every check before its block's, in a halt too, and its block accepts it (R171, R178, R182). -/
theorem exec_setAttention {p : List Byte} {s : State} (hs : Reachable s) (hp : p.length = 1) :
    let q := s.notices.masked (min (octetAt p 0) 7)
    exec (.setAttention p) s =
      .next (answered 0x41 .ok [.nat 1 q.mask, fieldMark q.attn, .nat 2 q.highest] { s with notices := q }) := by
  intro q
  calc exec (.setAttention p) s
    _ = .next (takeFixed 0x41 1 true p (setAttention p) s) := rfl
    _ = .next (let a := setAttention p (hunting s); reply 0x41 a.status a.fields a.state) := by
      rw [takeFixed_sized s _ _ _ 1 p hp, takeRequest_owner s _ _ _ hs fun _ => rfl]
    _ = _ := by rw [setAttention_eq]; rfl

/-- Settles O50: the queue stored is `masked`, and its ATTN and highest priority are those of the records it kept. -/
theorem setAttentionSetsTheLine : Obligations.SetAttentionSetsTheLine := by
  unfold Obligations.SetAttentionSetsTheLine
  intro p s hs hp mask
  exact ⟨attnLevel mask s.notices.records, s.notices.highest, exec_setAttention hs hp, attnLevel_iff,
    fun _ => s.notices.priority_le_highest, s.notices.highest_of_empty, s.notices.exists_priority_eq_highest⟩

end Sys2Proof.Machine
end

section
/-!
A request that its block answers, said once for any kind (R177, R178, R180): the block decides over the state whose
receiver is back in HUNTING, and the reply shows what it decides.
-/

namespace Sys2Proof.Machine

theorem Ready.reachable {s : State} (h : Ready s) : Reachable s := ⟨h.1, h.2.1⟩

theorem Ready.halted_eq_false {s : State} (h : Ready s) : s.halted = false := h.2.2

section
variable {s t : State} {kind : Byte} {size : Nat} {p : List Byte} {owner : State → Answer} {status : Status}
  {fields : List ReplyField}

/-- A request that passes the checks before its block's, in a halt too where its kind is answered during one. -/
theorem takeFixed_answered {duringHalt : Bool} (hs : Reachable s) (hh : s.halted = true → duringHalt = true)
    (hp : p.length = size) (ho : owner (hunting s) = ⟨hunting t, status, fields⟩) :
    takeFixed kind size duringHalt p owner s = answered kind status fields t := by
  rw [takeFixed_sized s kind duringHalt owner size p hp, takeRequest_owner s kind duringHalt owner hs hh, ho]
  rfl

/-- A kind answered during a halt (R182). -/
theorem taken_in_halt (hs : Reachable s) (hp : p.length = size) (ho : owner (hunting s) = ⟨hunting t, status, fields⟩) :
    (.next (takeFixed kind size true p owner s) : Host.Outcome State Fault Refusal) =
      .next (answered kind status fields t) :=
  congrArg _ (takeFixed_answered hs (fun _ => rfl) hp ho)

/-- A kind refused during a halt (R182). -/
theorem taken_when_ready (hs : Ready s) (hp : p.length = size) (ho : owner (hunting s) = ⟨hunting t, status, fields⟩) :
    (.next (takeFixed kind size false p owner s) : Host.Outcome State Fault Refusal) =
      .next (answered kind status fields t) :=
  congrArg _ (takeFixed_answered hs.reachable (by simp [hs.halted_eq_false]) hp ho)

variable {m : Nat} {i : Fin m} {block : Fin m → State → Answer}

/-- One that names thing `i` among `m`, answered in a halt too (R181, R182). -/
theorem named_in_halt (hs : Reachable s) (hp : p.length = size) (hi : octetAt p 0 = number i)
    (ho : block i (hunting s) = ⟨hunting t, status, fields⟩) :
    (.next (takeFixed kind size true p (naming m p block) s) : Host.Outcome State Fault Refusal) =
      .next (answered kind status fields t) :=
  taken_in_halt hs hp ((naming_named _ p block i hi).trans ho)

/-- One that names thing `i` among `m`, refused during a halt (R181, R182). -/
theorem named_when_ready (hs : Ready s) (hp : p.length = size) (hi : octetAt p 0 = number i)
    (ho : block i (hunting s) = ⟨hunting t, status, fields⟩) :
    (.next (takeFixed kind size false p (naming m p block) s) : Host.Outcome State Fault Refusal) =
      .next (answered kind status fields t) :=
  taken_when_ready hs hp ((naming_named _ p block i hi).trans ho)

end

end Sys2Proof.Machine
end

section
/-!
The reads of protection, measurement, conditions, capture, sections and line tests: each block's fields over a state
that it leaves as it is.
-/

namespace Sys2Proof.Machine

/-! ### GET CONDITION (R34) -/

theorem exec_getCondition {s : State} {n : Gen} {p : List Byte} (hs : Reachable s) (hp : p.length = 1)
    (hn : octetAt p 0 = number n) :
    let g := s.gens[n]
    exec (.getCondition p) s = .next (answered 0x09 .ok
      (g.setting.fields ++ [.nat 1 g.out.code, fieldOpt 2 g.out.count, fieldMark (g.results.getD 0 false),
        fieldMark (g.results.getD 1 false), fieldMark (g.results.getD 2 false), fieldMark (g.results.getD 3 false),
        fieldMark g.combined]) s) := by
  refine named_in_halt hs hp hn ?_
  simp only [List.append_assoc]
  rfl

/-! ### GET SECTION (R68) -/

section
variable {s : State} {n : Sec} {p : List Byte}

theorem runningField_of_running (t : Timer) (h : s.halted = false) : runningField s t = fieldTimer t := by
  simp [runningField, h]

theorem runningField_of_halted (t : Timer) (h : s.halted = true) : runningField s t = .absent 4 := by
  simp [runningField, h]

/-- The part of GET SECTION's reply before the trip record. -/
def Section.stateFields (r : Section) : List ReplyField :=
  [.nat 1 r.state.code, fieldMark r.held, .nat 2 r.attempt, .nat 2 r.limit, .nat 4 r.dead.first, .nat 4 r.dead.second,
    .nat 4 r.dead.third, fieldMark r.manual]

/-- The part between the trip record and the section's timers. -/
def Section.lineFields (busTrip : Bool) (r : Section) : List ReplyField :=
  [.nat 2 r.holds.word, .nat 4 (r.holdTimer.getD 0), fieldOpt 4 (r.heldSince.map (·.toNat)), .nat 1 r.feedback.code,
    fieldMark r.asClosed, fieldMark r.tripLine, fieldMark r.closeLine, fieldMark r.testLine, fieldMark busTrip]

/-- The section's timers and the mark of a halt. -/
def State.timerFields (n : Sec) (s : State) : List ReplyField :=
  let r := s.secs[n]
  [r.opening, r.deadTimer, r.closing, r.reclaim, r.holdLimit, r.discrepancy].map (runningField s) ++
    [fieldMark s.halted]

theorem State.timerFields_of_running (h : s.halted = false) :
    s.timerFields n =
      let r := s.secs[n]
      [fieldTimer r.opening, fieldTimer r.deadTimer, fieldTimer r.closing, fieldTimer r.reclaim, fieldTimer r.holdLimit,
        fieldTimer r.discrepancy, fieldMark false] := by
  simp [State.timerFields, runningField_of_running, h]

theorem State.timerFields_of_halted (h : s.halted = true) :
    s.timerFields n = List.replicate 6 (.absent 4) ++ [fieldMark true] := by
  simp [State.timerFields, runningField_of_halted, h, List.replicate]

/-- The trip record takes 13 places whether there is one or not, so the parts after it have fixed places. -/
theorem recordFields_length (r : Option TripRecord) : (recordFields r).length = 13 := by
  cases r <;> rfl

/-- GET SECTION's reply. -/
def State.sectionFields (n : Sec) (s : State) : List ReplyField :=
  let r := s.secs[n]
  r.stateFields ++ (recordFields r.record ++ (r.lineFields s.busTrip ++ s.timerFields n))

theorem State.sectionFields_parts (n : Sec) (s : State) :
    let r := s.secs[n]
    let fields := s.sectionFields n
    fields.take 8 = r.stateFields ∧ (fields.drop 8).take 13 = recordFields r.record ∧
      (fields.drop 21).take 9 = r.lineFields s.busTrip ∧ fields.drop 30 = s.timerFields n := by
  intro r fields
  have hafter : fields.drop 21 = r.lineFields s.busTrip ++ s.timerFields n := by
    change ((recordFields r.record ++ (r.lineFields s.busTrip ++ s.timerFields n)).drop 13) = _
    exact List.drop_left' (recordFields_length _)
  refine ⟨rfl, List.take_left' (recordFields_length _), by rw [hafter]; rfl, ?_⟩
  rw [show 30 = 21 + 9 from rfl, ← List.drop_drop, hafter]
  rfl

theorem exec_getSection (hs : Reachable s) (hp : p.length = 1) (hn : octetAt p 0 = number n) :
    exec (.getSection p) s = .next (answered 0x14 .ok (s.sectionFields n) s) := by
  refine named_in_halt hs hp hn ?_
  simp only [List.append_assoc]
  rfl

end

/-! ### GET TEST RESULT (R90) -/

theorem exec_getTestResult {s : State} {n : Sec} {p : List Byte} (hs : Reachable s) (hp : p.length = 1)
    (hn : octetAt p 0 = number n) :
    exec (.getTestResult p) s = .next (answered 0x22 .ok (testFields s.secs[n].lastTest) s) :=
  named_in_halt hs hp hn rfl

/-- Settles O17: each read's block accepts it with its own fields over the state it was given; GET SECTION's reply is
cut at the places of its parts. -/
theorem protectionSectionAndTestReadsAnswer : Obligations.ProtectionSectionAndTestReadsAnswer := by
  unfold Obligations.ProtectionSectionAndTestReadsAnswer
  refine ⟨fun n p s hs hp hn => ?_, fun n p s hs hp hn => ?_,
    fun n p s hs hp => ⟨fun hn d hd => ?_, fun hn hd => ?_, fun hout => ?_, ?_⟩⟩
  · exact ⟨named_in_halt hs hp hn rfl, named_in_halt hs hp hn rfl, exec_getCondition hs hp hn,
      named_in_halt hs hp hn rfl⟩
  · obtain ⟨hstate, hrecord, hlines, htimers⟩ := s.sectionFields_parts n
    exact ⟨⟨s.sectionFields n, exec_getSection hs hp hn, hstate, hrecord, hlines,
        fun hh => htimers.trans (State.timerFields_of_running hh),
        fun hh => htimers.trans (State.timerFields_of_halted hh)⟩,
      named_in_halt hs hp hn rfl, taken_in_halt hs rfl rfl⟩
  · rw [exec_getTestResult hs hp hn, hd]; rfl
  · rw [exec_getTestResult hs hp hn, hd]; rfl
  · exact taken_in_halt hs hp (naming_outside _ p _ hout)
  · exact taken_in_halt hs rfl rfl

end Sys2Proof.Machine
end

section
/-!
SET PROTECTION and REBASE FILTER: the record that a payload carries, clamped (R10), and the accumulator set to a current
code's F (R19).
-/

namespace Sys2Proof.Machine

/-- The same range with the amount written first. -/
theorem clamp_eq (lo hi n : Nat) : clamp lo hi n = max lo (min n hi) := by rw [clamp, Nat.min_comm]

theorem octetAt_lt (p : List Byte) (k : Nat) : octetAt p k < 256 := (p.getD k 0).isLt

theorem halfAt_le (p : List Byte) (k : Nat) : halfAt p k ≤ 65535 := by
  have := octetAt_lt p k
  have := octetAt_lt p (k + 1)
  unfold halfAt
  omega

/-! ### The record a payload carries (R10) -/

section
variable {p : List Byte}

theorem lossActionOf_of_le {n : Nat} (h : n ≤ 1) : lossActionOf n = some (if n = 0 then .trip else .block) := by
  match n, h with
  | 0, _ => rfl
  | 1, _ => rfl

theorem lossActionOf_of_gt {n : Nat} (h : 1 < n) : lossActionOf n = none := by
  match n, h with
  | _ + 2, _ => rfl

theorem parseProtection_of_unknown (h : 1 < octetAt p 21) : parseProtection p = none := by
  rw [parseProtection, lossActionOf_of_gt h]

/-- The clamped record: the duration's upper bound is that of its two octets. -/
theorem parseProtection_of_known (h : octetAt p 21 ≤ 1) :
    let start := max 1 (min (halfAt p 4) 32767)
    let base := max 1 (min (halfAt p 8) 16383)
    parseProtection p = some
      { instant := max 1 (min (halfAt p 1) 16383), window := max 1 (min (octetAt p 3) 16), riseStart := start
        riseHold := min (halfAt p 6) start, stepBase := base, allowance := min (halfAt p 10) 2000
        stepCeil := max base (min (halfAt p 12) 16383), stepDuration := max 4 (min (halfAt p 14) 400)
        shift := max 4 (min (octetAt p 16) 14), level := min (halfAt p 17) 16383, duration := max 1 (halfAt p 19)
        lossAction := if octetAt p 21 = 0 then .trip else .block } := by
  have hduration : clamp 1 65535 (halfAt p 19) = max 1 (halfAt p 19) := by
    rw [clamp_eq, Nat.min_eq_left (halfAt_le p 19)]
  rw [parseProtection, lossActionOf_of_le h]
  simp only [hduration, clamp_eq, Nat.zero_max, Nat.min_comm (halfAt p 6)]

end

/-! ### The filtered current (R18, R19) -/

theorem filtered_of_rebased (i : Int) : (i * 256) >>> (8 : Nat) = i := by
  rw [Int.shiftRight_eq_div_pow]
  exact Int.mul_ediv_cancel i (by decide)

/-- Settles O19: the payload's record is the clamped one or none, and F of a rebased accumulator is the latest
current. -/
theorem protectionIsSetAndTheFilterRebased : Obligations.ProtectionIsSetAndTheFilterRebased := by
  unfold Obligations.ProtectionIsSetAndTheFilterRebased
  intro n p s hs hn
  refine ⟨fun hp hbad => ?_, fun hp hok => ?_, fun hp hm => ?_, fun hp hm => ?_⟩
  · refine named_when_ready hs hp hn ?_
    rw [parseProtection_of_unknown hbad]; rfl
  · refine named_when_ready hs hp hn ?_
    rw [parseProtection_of_known hok]; rfl
  · refine named_when_ready hs hp hn ?_
    refine (if_pos hm).trans ?_
    simp only [State.modFpu_fpus, updateAt_same, Fpu.filtered, filtered_of_rebased, Int.mul_comm 256]
    rfl
  · refine named_when_ready hs hp hn ?_
    exact if_neg hm

end Sys2Proof.Machine
end

section
/-!
SET CAPTURE and FETCH CAPTURE (R37, R43): a buffer restarted under a setting record, and the oldest entries taken from
it.
-/

namespace Sys2Proof.Machine

theorem captureModeOf_code (mode : CaptureMode) : captureModeOf mode.code = some mode := by
  cases mode <;> rfl

section
variable {n : Sec} {p : List Byte} {s : State}

/-- SET CAPTURE's reply shows the record and the state in which its mode begins (R37). -/
theorem exec_setCapture {mode : CaptureMode} {g : Gen} (hs : Ready s) (hp : p.length = 6) (hn : octetAt p 0 = number n)
    (hmode : octetAt p 1 = mode.code) (hg : octetAt p 5 = number g) :
    let c : CaptureSetting :=
      { mode, decimation := max 1 (min (octetAt p 2) 16), post := min (octetAt p 3) 63
        watermark := max 1 (min (octetAt p 4) 64), gen := g }
    exec (.setCapture p) s = .next (answered 0x0C .ok (c.fields ++ [.nat 1 mode.begins.code])
      (s.modCap n fun b => b.restarted (fun g => s.gens[g].gateOpen) c)) := by
  refine named_when_ready hs hp hn ?_
  rw [hmode, hg, captureModeOf_code, indexOf_number]
  simp only [State.modCap_caps, updateAt_same, clamp_eq, Nat.zero_max]
  rfl

/-- FETCH CAPTURE's reply counts the entries taken and those left (R43). -/
theorem exec_fetchCapture (hs : Reachable s) (hp : p.length = 2) (hn : octetAt p 0 = number n) :
    let b := s.caps[n]
    let count := max 1 (min (octetAt p 1) 16)
    let out := b.entries.take count
    exec (.fetchCapture p) s = .next (answered 0x0E .ok
      (out.flatMap CaptureEntry.fields ++
        [.nat 2 out.length, .nat 2 (b.entries.drop count).length, .nat 1 b.state.code, fieldMark b.overrun])
      (s.modCap n (Capture.fetched count))) := by
  refine named_in_halt hs hp hn ?_
  simp only [State.modCap_caps, updateAt_same, clamp_eq]
  rfl

end

/-- Settles O21: a restarted buffer stands in its mode's first state, and a fetch cuts the entries after as many as
asked and held. -/
theorem captureIsSetAndFetched : Obligations.CaptureIsSetAndFetched := by
  unfold Obligations.CaptureIsSetAndFetched
  intro n g mode p s hn b
  refine ⟨fun hs hp hmode hg => ?_, fun hs hp => ?_⟩
  · rw [exec_setCapture hs hp hn hmode hg]
    cases mode <;> rfl
  · intro count
    exact ⟨b.entries.take count, b.entries.drop count, (List.take_append_drop ..).symm, List.length_take ..,
        exec_fetchCapture hs hp hn⟩

end Sys2Proof.Machine
end

section
/-!
SET TEST CIRCUITS (R76): the grant rule over a list whose head may be granted a circuit, and the one grant that a raised
count makes.
-/

namespace Sys2Proof.Machine

/-! ### One grant (R78, R57, R81) -/

section
variable {s : State}

/-- The head of the list is granted circuit `c`, and the rule is applied again. -/
theorem grantLoop_grant {n : Sec} {rest : List Sec} {c : Circuit} (fuel : Nat) (hh : s.halted = false)
    (hw : s.arb.waiting = n :: rest) (hf : s.arb.freeCircuit = some c) (hc : s.arb.held < s.arb.count) :
    grantLoop (fuel + 1) s = grantLoop fuel
      (takeGrant n c (s.modArb fun a => { a with waiting := rest, holders := a.holders.set c (some n) })) := by
  rw [grantLoop, hw, hf]
  simp [hh, hc]

/-- A section in TEST_WAIT enters LINE_TEST on the circuit, and a context opens. -/
theorem takeGrant_of_testWait {n : Sec} {c : Circuit} (hh : s.halted = false) (hn : s.secs[n].state = .testWait) :
    takeGrant n c s =
      let r := s.secs[n]
      { s with
        secs := s.secs.set n { r.standing .lineTest with
          tripLine := true, testLine := true, attempt := if r.manual then r.attempt else r.attempt + 1 }
        arb := { s.arb with contexts := s.arb.contexts.set c (some ⟨n, r.settings.settle, []⟩) } } := by
  rw [takeGrant, if_pos hn]
  simp [enter, State.modSec, State.modArb, updateAt, Section.entered, Section.withLines, Section.standing,
    SecState.openLike, SecState.tripAtEntry, hh]

end

/-! ### Two circuits, the second free (R76, R78) -/

theorem Arbiter.holders_eq (a : Arbiter) : a.holders = #v[a.holders[0], a.holders[1]] := by
  ext i hi : 1
  match i, hi with
  | 0, _ => rfl
  | 1, _ => rfl

theorem Arbiter.held_eq (a : Arbiter) :
    a.held = [a.holders[0], a.holders[1]].countP (·.isSome) := by
  rw [Arbiter.held, a.holders_eq]; rfl

theorem Arbiter.freeCircuit_of_second_free {a : Arbiter} {m : Sec} (hc : a.count = 2) (h₀ : a.holders[0] = some m)
    (h₁ : a.holders[1] = none) : a.freeCircuit = some 1 := by
  have hpair : List.finRange 2 = [0, 1] := by decide
  simp [Arbiter.freeCircuit, hpair, hc, h₀, h₁, number]

section
variable {p : List Byte} {s : State}

/-- The rule gives circuit 2 to the head of the list, and then both circuits are held. -/
theorem applyGrants_second {n m : Sec} {rest : List Sec} (hh : s.halted = false) (hc : s.arb.count = 2)
    (hw : s.arb.waiting = n :: rest) (h₀ : s.arb.holders[0] = some m) (h₁ : s.arb.holders[1] = none)
    (hn : s.secs[n].state = .testWait) :
    applyGrants s =
      let r := s.secs[n]
      { s with
        secs := s.secs.set n { r.standing .lineTest with
          tripLine := true, testLine := true, attempt := if r.manual then r.attempt else r.attempt + 1 }
        arb := { s.arb with
          waiting := rest, holders := s.arb.holders.set 1 (some n)
          contexts := s.arb.contexts.set 1 (some ⟨n, r.settings.settle, []⟩) } } := by
  have hfree : s.arb.freeCircuit = some 1 := Arbiter.freeCircuit_of_second_free hc h₀ h₁
  have hheld : s.arb.held < s.arb.count := by
    simp [Arbiter.held_eq, h₀, h₁, hc]
  have hboth : ({ s.arb with holders := s.arb.holders.set 1 (some n) } : Arbiter).held = 2 := by
    simp [Arbiter.held_eq, h₀]
  rw [applyGrants, hw, List.length_cons, grantLoop_grant rest.length hh hw hfree hheld,
    takeGrant_of_testWait (s := s.modArb _) hh hn, grantLoop_idle]
  · rfl
  · exact .inr (hc.trans hboth.symm).le

theorem applyGrants_idle (h : s.arb.waiting = [] ∨ s.arb.count ≤ s.arb.held) : applyGrants s = s :=
  h.elim (grantLoop_empty s _) fun h => grantLoop_idle s _ (.inr h)

/-- The request stores the count and applies the rule (R76). -/
theorem setTestCircuits_eq {t : State}
    (h : applyGrants { s with arb := { s.arb with count := max 1 (min (octetAt p 0) 2) } } = t) :
    setTestCircuits p s = accept t (arbiterFields t.arb) := by
  rw [setTestCircuits, clamp_eq, ← h]
  rfl

end

/-- Settles O33: with an empty list, or as many circuits held as counted, the rule grants none; with two counted and the
second free it grants that one. -/
theorem setTestCircuitsStoresTheCount : Obligations.SetTestCircuitsStoresTheCount := by
  unfold Obligations.SetTestCircuitsStoresTheCount
  intro p s hs hp count fields
  have hfields : ∀ a : Arbiter, a.count = count → fields a = arbiterFields a := by
    intro a ha
    rw [arbiterFields, ha]
    rfl
  refine ⟨fun hidle => ?_, fun n m rest hw h₀ h₁ hn hraised => ?_⟩
  · exact taken_when_ready hs hp (setTestCircuits_eq (applyGrants_idle hidle))
  · intro a
    have hcount : count = 2 := by omega
    rw [hfields a hcount.symm]
    refine taken_when_ready hs hp (setTestCircuits_eq ?_)
    rw [show max 1 (min (octetAt p 0) 2) = 2 from hcount]
    exact applyGrants_second hs.halted_eq_false rfl hw h₀ h₁ hn

end Sys2Proof.Machine
end

section
/-!
The reads of vehicles, switch points, stations and the loop: looking up a vehicle by its number (R92), the listing that
LIST VEHICLES cuts its reply from (R113), and a station's exchange in flight (R163).
-/

namespace Sys2Proof.Machine

/-! ### Looking up a vehicle (R92) -/

section
variable {s : State}

theorem slotHolds_iff {num : Nat} {r : Option Vehicle} : slotHolds num r = true ↔ ∃ v, r = some v ∧ v.number = num := by
  cases r <;> simp [slotHolds]

/-- Numbers are unique in the table, so the slot found is the record's own. -/
theorem findVehicle_of_slot {i : Slot} {v : Vehicle} (ht : TableOk s) (hv : s.vt.slots[i] = some v) :
    s.findVehicle v.number = some i := by
  unfold State.findVehicle
  cases hfind : (List.finRange 64).find? fun j => slotHolds v.number s.vt.slots[j] with
  | none => exact absurd (slotHolds_iff.mpr ⟨v, hv, rfl⟩) (List.find?_eq_none.mp hfind i (List.mem_finRange i))
  | some j =>
    obtain ⟨w, hw, hnumber⟩ := slotHolds_iff.mp (List.find?_some (p := fun j => slotHolds v.number s.vt.slots[j]) hfind)
    rw [ht.1 j i w v hw hv hnumber]

theorem findVehicle_of_missing {num : Nat} (h : ∀ (i : Slot) (v : Vehicle), s.vt.slots[i] = some v → v.number ≠ num) :
    s.findVehicle num = none :=
  List.find?_eq_none.mpr fun i _ hi =>
    let ⟨v, hv, hnumber⟩ := slotHolds_iff.mp hi
    h i v hv hnumber

variable {p : List Byte} {missing : List ReplyField} {owner : Slot → Vehicle → State → Answer}

theorem namingVehicle_found {i : Slot} {v : Vehicle} (ht : TableOk s) (hv : s.vt.slots[i] = some v)
    (hp : halfAt p 0 = v.number) : namingVehicle p missing owner s = owner i v s := by
  obtain ⟨hpos, hle⟩ := ht.2 i v hv
  rw [namingVehicle, hp, if_neg (by omega), findVehicle_of_slot ht hv]
  simp only [hv]

theorem namingVehicle_missing (hpos : 1 ≤ halfAt p 0) (hle : halfAt p 0 ≤ 9999)
    (h : ∀ (i : Slot) (v : Vehicle), s.vt.slots[i] = some v → v.number ≠ halfAt p 0) :
    namingVehicle p missing owner s = refuseState s missing := by
  rw [namingVehicle, if_neg (by omega), findVehicle_of_missing h]

end

/-! ### LIST VEHICLES (R113) -/

section
variable {s : State} {sel : Selector} {start : Slot}

theorem Selector.selects_iff {v : Vehicle} : sel.selects v = true ↔ sel = .all ∨ sel = .of v.sec := by
  cases sel with
  | all => simp [Selector.selects]
  | of sec => simp [Selector.selects, eq_comm (a := sec)]

theorem selectorOf_section (m : Sec) : selectorOf (number m) = some (.of (some m)) := by
  revert m; decide

theorem State.mem_listing {i : Slot} {v : Vehicle} :
    (i, v) ∈ s.listing sel (number start) ↔ s.vt.slots[i] = some v ∧ start ≤ i ∧ (sel = .all ∨ sel = .of v.sec) := by
  have hstart : number start ≤ number i ↔ start ≤ i := Nat.add_le_add_iff_right
  simp [State.listing, hstart, ← Selector.selects_iff, and_left_comm]

/-- The listing goes through the slots in their order. -/
theorem State.listing_sorted (s : State) (sel : Selector) (start : Nat) :
    ((s.listing sel start).map (·.1)).Pairwise (· < ·) := by
  rw [List.pairwise_map, State.listing, List.pairwise_filterMap]
  refine (List.pairwise_lt_finRange 64).imp fun {i j} hij b hb b' hb' => ?_
  simp only [Option.ite_none_left_eq_some, Option.map_eq_some_iff] at hb hb'
  obtain ⟨-, v, -, rfl⟩ := hb
  obtain ⟨-, v', -, rfl⟩ := hb'
  exact hij

/-- A record as LIST VEHICLES shows it. -/
def listedFields (r : Slot × Vehicle) : List ReplyField :=
  [.nat 2 r.2.number, .nat 1 (number r.1), .nat 1 (if r.2.active then 0 else 1), .nat 1 (numberOr0 r.2.sec),
    .nat 2 (faultWord r.2.leak r.2.dewired)]

/-- The four counts of a selected section, none for section 0 or for every record. -/
def Selector.countFields (s : State) : Selector → List ReplyField
  | .of (some m) => [.nat 2 (s.present m), .nat 2 (s.active m), .nat 2 (s.leaking m), .nat 2 (s.dewired m)]
  | .of none => []
  | .all => []

theorem exec_listVehicles {p : List Byte} (hs : Reachable s) (hp : p.length = 2)
    (hsel : selectorOf (octetAt p 0) = some sel) (hstart : octetAt p 1 = number start) :
    let shown := (s.listing sel (number start)).take 32
    let rest := (s.listing sel (number start)).drop 32
    exec (.listVehicles p) s = .next (answered 0x2B .ok
      (shown.flatMap listedFields ++ [.nat 1 (continuation shown rest)] ++ sel.countFields s) s) := by
  refine taken_in_halt hs hp ?_
  rw [listVehicles, hsel, hstart, indexOf_number]
  cases sel with
  | all => rfl
  | of sec => cases sec <;> rfl

end

/-! ### GET STATION (R163) -/

section
variable {l : Loop} {a : Sta}

theorem addressedFields_of_addressed {e : Exchange} (he : l.exchange = some e) (ha : e.station = a) :
    addressedFields a l = [fieldMark true, .exchangePhase e.phase.index] := by
  simp [addressedFields, he, ha]

theorem addressedFields_of_other (h : ∀ e, l.exchange = some e → e.station ≠ a) :
    addressedFields a l = [fieldMark false, .absent 1] := by
  unfold addressedFields
  split
  next => rfl
  next e he => exact if_neg (h e he)

end

/-- Settles O18: a vehicle is found by its number or is missing, a list is cut after its first 32 records, and the other
reads show their blocks as they stand. -/
theorem vehicleSwitchAndLoopReadsAnswer : Obligations.VehicleSwitchAndLoopReadsAnswer := by
  unfold Obligations.VehicleSwitchAndLoopReadsAnswer
  refine ⟨fun s hs => ⟨fun p i v hp hnumber _ _ ht hv => ?_, fun p hp hpos hle hmissing => ?_,
    fun p sel start hp hstart hsel => ?_, ?_⟩, fun s hs => ⟨fun k p hp hk => ?_, fun a p hp ha => ?_, ?_⟩⟩
  · exact taken_in_halt hs hp (namingVehicle_found (s := hunting s) ht hv hnumber)
  · exact taken_in_halt hs hp (namingVehicle_missing (s := hunting s) hpos hle hmissing)
  · have hselector : selectorOf (octetAt p 0) = some sel := by
      obtain ⟨h0, rfl⟩ | ⟨h255, rfl⟩ | ⟨m, hm, rfl⟩ := hsel
      · rw [h0]; rfl
      · rw [h255]; rfl
      · rw [hm, selectorOf_section]
    refine ⟨(s.listing sel (number start)).take 32, (s.listing sel (number start)).drop 32, fun i v => ?_, ?_, ?_,
      fun hrest => ?_, (exec_listVehicles hs hp hselector hstart).trans ?_⟩
    · rw [List.take_append_drop, State.mem_listing]
    · rw [List.take_append_drop]; exact s.listing_sorted sel _
    · exact List.length_take_le _ _
    · have hlong := List.drop_eq_nil_iff.not.mp hrest
      exact List.length_take_of_le (by omega)
    · cases sel with
      | all => rfl
      | of sec => cases sec <;> rfl
  · exact taken_in_halt hs rfl rfl
  · exact named_in_halt hs hp hk rfl
  · exact ⟨addressedFields a s.loop, named_in_halt hs hp ha rfl, fun e => addressedFields_of_addressed,
      addressedFields_of_other⟩
  · exact taken_in_halt hs rfl rfl

end Sys2Proof.Machine
end

section
/-!
An exchange that fails (R151 to R153, R156, R187): the replies that their checks refuse, the rest that follows when the
cycle's exchanges have ended, and the loss of a station after the third failed poll.
-/

namespace Sys2Proof.Machine

/-! ### Replies that fail a check (R152, R187) -/

section
variable {o : List Byte}

theorem octetAt_append_zero (b : Byte) (h : 0 < octetAt o 0) : octetAt (o ++ [b]) 0 = octetAt o 0 := by
  cases o with
  | nil => exact absurd h (by decide)
  | cons => rfl

/-- One code that names no contact event refuses them all. -/
theorem contactsOf_of_unknown {ns : List Nat} {n : Nat} (hn : n ∈ ns) (h : n ≠ 1 ∧ n ≠ 2) : contactsOf ns = none := by
  induction hn with
  | head ns =>
    have hnone : contactOf n = none := by
      unfold contactOf
      split
      · exact absurd rfl h.1
      · exact absurd rfl h.2
      · rfl
    rw [contactsOf, hnone]
  | tail m _ ih =>
    rw [contactsOf, ih]
    cases contactOf m <;> rfl

/-- The octets break the FORMAT check of R187, the position and the poles read by `kind`. -/
def Misformed (census : Prop) (kind : Nat) (o : List Byte) : Prop :=
  let events := octetAt o 4 / 16
  let telegrams := octetAt o 4 % 4
  let position := octetAt o 2 % 4
  octetAt o 0 < 6 ∨ 8 < events ∨ 2 < telegrams ∨ octetAt o 0 ≠ 6 + events + 5 * telegrams ∨ census ∧ 1 < kind ∨
    kind = 1 ∧ position ≠ 3 ∨ kind = 0 ∧ position = 3 ∨ census ∧ kind = 0 ∧ 2 < octetAt o 3 ∨
    ∃ j, j < events ∧ octetAt o (5 + j) ≠ 1 ∧ octetAt o (5 + j) ≠ 2

theorem parseLoopBody_of_misformed {census : Bool} {kind : Nat} (h : Misformed (census = true) kind o) :
    parseLoopBody census kind o = none := by
  unfold parseLoopBody
  dsimp only
  split
  · rfl
  split
  · rfl
  split
  · rfl
  split
  · rfl
  next hlengths hkind hposition hpoles =>
    obtain ⟨j, hj, hcode⟩ : ∃ j, j < octetAt o 4 / 16 ∧ octetAt o (5 + j) ≠ 1 ∧ octetAt o (5 + j) ≠ 2 := by
      obtain h | h | h | h | h | h | h | h | h := h
      · exact absurd (.inl h) hlengths
      · exact absurd (.inr (.inr (.inl h))) hlengths
      · exact absurd (.inr (.inr (.inr (.inl h)))) hlengths
      · exact absurd (.inr (.inr (.inr (.inr h)))) hlengths
      · exact absurd h hkind
      · exact absurd (.inl h) hposition
      · exact absurd (.inr ⟨by omega, h.2⟩) hposition
      · exact absurd h hpoles
      · exact h
    have hmem : octetAt o (5 + j) ∈ (List.range (octetAt o 4 / 16)).map fun k => octetAt o (5 + k) :=
      List.mem_map_of_mem (List.mem_range.mpr hj)
    rw [contactsOf_of_unknown hmem hcode]

variable {a : Sta} {census : Bool} {recordKind : Nat}

theorem parseLoopReply_check (h : octetSum o ≠ 0) : parseLoopReply a census recordKind o = .error .check :=
  if_pos h

theorem parseLoopReply_address (h : octetSum o = 0) (ha : octetAt o 1 ≠ number a) :
    parseLoopReply a census recordKind o = .error .address := by
  rw [parseLoopReply, if_neg (not_not_intro h), if_pos (.inr ha)]

/-- A reply that carries the station's address has at least the two octets that the address check asks for. -/
theorem two_le_length_of_address (h : octetAt o 1 = number a) : 2 ≤ o.length := by
  by_contra hshort
  have hzero : octetAt o 1 = 0 := by
    rw [octetAt, List.getD_eq_default _ _ (by omega)]; rfl
  rw [hzero, number] at h
  omega

theorem parseLoopReply_format (h : octetSum o = 0) (ha : octetAt o 1 = number a)
    (hf : Misformed (census = true) (if census then octetAt o 2 / 16 % 4 else recordKind) o) :
    parseLoopReply a census recordKind o = .error .format := by
  have hlength := two_le_length_of_address ha
  rw [parseLoopReply, if_neg (not_not_intro h), if_neg (by omega), parseLoopBody_of_misformed hf]

end

/-! ### What the loop hears in each phase (R151, R152) -/

section
variable {s : State} {e : Exchange} {o : List Byte} {cause : LoopFailure}

theorem startLimitExpired_awaiting {limit : Nat} (he : s.loop.exchange = some e) (hp : e.phase = .awaiting limit) :
    startLimitExpired s = exchangeFailed e .timeout s := by
  simp only [startLimitExpired, he, hp]

theorem gapLimitExpired_receiving {gap : Nat} {got : List Byte} (he : s.loop.exchange = some e)
    (hp : e.phase = .receiving gap got) : gapLimitExpired s = exchangeFailed e .gap s := by
  simp only [gapLimitExpired, he, hp]

theorem loopOctet_sending (he : s.loop.exchange = some e) (hp : e.phase = .sending) (b : Byte) : loopOctet b s = s := by
  simp only [loopOctet, he, hp]

theorem loopOctet_awaiting {limit : Nat} (he : s.loop.exchange = some e) (hp : e.phase = .awaiting limit) (b : Byte) :
    loopOctet b s = loopReceived e [b] s := by
  simp only [loopOctet, he, hp]

theorem loopOctet_receiving {gap : Nat} {got : List Byte} (he : s.loop.exchange = some e)
    (hp : e.phase = .receiving gap got) (b : Byte) : loopOctet b s = loopReceived e (got ++ [b]) s := by
  simp only [loopOctet, he, hp]

theorem loopReceived_too_long (h : 64 < octetAt o 0) : loopReceived e o s = exchangeFailed e .format s := if_pos h

/-- Fewer octets than declared: the gap limit starts anew (R151). -/
theorem loopReceived_partial (hle : octetAt o 0 ≤ 64) (hmore : o.length < octetAt o 0) :
    loopReceived e o s = { s with loop := { s.loop with
      exchange := some { e with phase := .receiving (40 * (s.loop.stations[e.station].relax + 1)) o } } } := by
  have hincomplete : loopComplete o = false := by
    rw [loopComplete, decide_eq_false (by omega)]
  rw [loopReceived, if_neg (by omega), hincomplete]
  rfl

theorem loopSent_sending (he : s.loop.exchange = some e) (hp : e.phase = .sending) :
    loopSent s = { s with loop := { s.loop with
      exchange := some { e with phase := .awaiting (startLimit e.rate s.loop.stations[e.station].relax) } } } := by
  simp only [loopSent, he, hp]
  rfl

theorem loopCompleted_listening (he : s.loop.exchange = some e) (hp : e.phase ≠ .sending) :
    loopCompleted o s = judgeReply e o s := by
  rw [loopCompleted, he]
  cases hphase : e.phase with
  | sending => exact absurd hphase hp
  | awaiting => simp only [hphase]
  | receiving => simp only [hphase]

/-- A whole reply that its checks refuse fails the exchange by the check's cause. -/
theorem exec_loopReplyComplete_failing (he : s.loop.exchange = some e) (hp : e.phase ≠ .sending)
    (h : parseLoopReply e.station (decide (e.command = .census))
      (s.loop.stations[e.station].role.kindCode.getD 0) o = .error cause) :
    exec (.loopReplyComplete o) s = .next (exchangeFailed e cause s) := by
  refine congrArg Host.Outcome.next ((loopCompleted_listening he hp).trans ?_)
  simp only [judgeReply, h]

end

/-! ### The rest after the last exchange (R147) -/

section
variable {s : State} {l : Loop}

theorem nextExchange_of_spent (h : s.loop.Spent) : nextExchange s = s.modLoop Loop.rest := by
  obtain ⟨hpolls, hcensus, hlate⟩ := h
  have htry : tryExchange s = (s, false) := by
    simp [tryExchange, Loop.nextPoll_eq_none_iff.mpr hpolls, hcensus]
  simp [nextExchange, htry, endCycle, hlate]

/-- Another record at station `a`, ONLINE only if the old one was, leaves no station to poll. -/
theorem Loop.Spent.set_station {a : Sta} {r : Station} (h : l.Spent)
    (hr : r.state = .online → l.stations[a].state = .online) :
    ({ l with stations := l.stations.set a r, exchange := none } : Loop).Spent := by
  obtain ⟨hpolls, hcensus, hlate⟩ := h
  refine ⟨fun c hpos honline => hpolls c hpos ?_, hcensus, hlate⟩
  by_cases hca : c = a
  · subst hca; exact hr (by simpa using honline)
  · have hne : a.val ≠ c.val := fun hv => hca (Fin.ext hv.symm)
    simpa [hne] using honline

end

/-! ### A switch point whose station leaves the loop (R139, R145) -/

section
variable {s : State} {k : Sw} {w : SwitchPoint} {st : StationState}

@[simp] theorem SwitchPoint.takeState_station : (w.takeState st).station = st := by
  unfold SwitchPoint.takeState
  split <;> rfl

@[simp] theorem SwitchPoint.takeState_queue : (w.takeState st).queue = w.queue := by
  unfold SwitchPoint.takeState
  split <;> rfl

theorem SwitchPoint.serve_of_offline (halted : Bool) (h : w.station ≠ .online) : w.serve halted = w := by
  unfold SwitchPoint.serve
  split
  · rfl
  · simp [SwitchPoint.mayServe, h]

theorem pinnedMismatch_of_same_head {before : Option QueueEntry} (h : s.sws[k].queue.head? = before) :
    pinnedMismatch k before false s = s := by
  subst h
  unfold pinnedMismatch
  dsimp only
  split
  · rfl
  next head hhead => rw [hhead]; simp

/-- Nothing is served over an absent station, and no vehicle becomes the head. -/
theorem swStation_eq (h : st ≠ .online) : swStation k st s = s.modSw k (SwitchPoint.takeState st) := by
  have hserve : (s.modSw k (SwitchPoint.takeState st)).modSw k (SwitchPoint.serve s.halted) =
      s.modSw k (SwitchPoint.takeState st) := by
    simp [State.modSw, updateAt, SwitchPoint.serve_of_offline, h]
  unfold swStation swEvent
  dsimp only [State.modSw_halted]
  rw [hserve]
  exact pinnedMismatch_of_same_head (by simp)

/-- The switch points once a station of this role has told its own that it is in `st`, not ONLINE. -/
def Role.told (st : StationState) (role : Role) (sws : Vector SwitchPoint 16) : Vector SwitchPoint 16 :=
  match role.switchPoint with
  | none => sws
  | some k => updateAt sws k (SwitchPoint.takeState st)

theorem tellStation_eq {a : Sta} (h : st ≠ .online) :
    tellStation a st s = { s with sws := s.loop.stations[a].role.told st s.sws } := by
  unfold tellStation Role.told
  cases s.loop.stations[a].role.switchPoint with
  | none => rfl
  | some k => exact swStation_eq h

/-- What the loss of the station leaves of a switch point (R139). -/
theorem SwitchPoint.takeState_lost :
    w.takeState .lost =
      if w.station = .online then
        { w with
          station := .lost, driveTimer := none, stage := .none, position := .unknown
          lock := if w.lock = .none ∨ w.lock = .pinned then .noField else w.lock
          poleTimer := w.poleTimer.suspend, passTimer := w.passTimer.suspend }
      else { w with station := .lost } := by
  rw [SwitchPoint.takeState, SwitchPoint.loseStation]
  cases w.lock <;> rfl

end

/-! ### A failed exchange (R153, R156) -/

section
variable {s : State} {e : Exchange} {cause : LoopFailure}

/-- A failed census steps the rate. -/
theorem exchangeFailed_census (hs : s.loop.Spent) (hc : e.command = .census) :
    let r := s.loop.stations[e.station]
    exchangeFailed e cause s =
      { s with loop := s.loop.restingWith e.station { r with lastFailure := cause, rate := r.rate.next } } := by
  unfold exchangeFailed
  simp only [hc]
  rw [nextExchange_of_spent]
  · rfl
  · exact hs.set_station id

theorem exchangeFailed_poll (hc : e.command ≠ .census) :
    exchangeFailed e cause s = nextExchange (pollFailed e.station cause (dropExchange s)) := by
  unfold exchangeFailed
  cases h : e.command with
  | census => exact absurd h hc
  | poll => rfl
  | drive => rfl

theorem set_updateAt {α : Type} {m : Nat} (v : Vector α m) (i : Fin m) (f : α → α) (x : α) :
    (updateAt v i f).set i x = v.set i x :=
  Vector.set_set ..

theorem State.modStation_congr {a : Sta} {f g : Station → Station} (h : f s.loop.stations[a] = g s.loop.stations[a]) :
    s.modStation a f = s.modStation a g := by
  simp only [State.modStation, State.modLoop, updateAt, h]

theorem pollFailed_counted {a : Sta} (hf : s.loop.stations[a].failures < 2) :
    pollFailed a cause s = s.modStation a fun r => { r with lastFailure := cause, failures := r.failures + 1 } := by
  have hmin : min 3 (s.loop.stations[a].failures + 1) = s.loop.stations[a].failures + 1 := by omega
  have hcount : s.modStation a (fun r => { r with failures := min 3 (r.failures + 1), lastFailure := cause }) =
      s.modStation a fun r => { r with lastFailure := cause, failures := r.failures + 1 } :=
    State.modStation_congr (by simp only [hmin])
  rw [pollFailed, hcount]
  refine if_neg ?_
  simp only [State.modStation_loop, updateAt_same]
  omega

theorem pollFailed_third {a : Sta} (hf : s.loop.stations[a].failures = 2) :
    pollFailed a cause s = stationLost a (s.modStation a fun r => { r with lastFailure := cause, failures := 3 }) := by
  have hcount : s.modStation a (fun r => { r with failures := min 3 (r.failures + 1), lastFailure := cause }) =
      s.modStation a fun r => { r with lastFailure := cause, failures := 3 } :=
    State.modStation_congr (by simp only [hf]; rfl)
  rw [pollFailed, hcount]
  refine if_pos ?_
  simp only [State.modStation_loop, updateAt_same]

/-- The loss of a station (R145, R153): its switch point is told, and STATION LOST is queued. -/
theorem stationLost_eq (a : Sta) (s : State) :
    stationLost a s =
      let r := s.loop.stations[a]
      { s with
        loop := { s.loop with stations := s.loop.stations.set a { r with state := .lost } }
        sws := r.role.told .lost s.sws
        notices := s.noticed .stationLost 5 (.station (number a))
          [r.kindWord, word r.rate.code, word r.lastFailure.code] } := by
  unfold stationLost
  simp only [tellStation_eq (st := .lost) (by decide), State.modStation_loop, updateAt_same]
  rfl

/-- A failed poll counts. -/
theorem exchangeFailed_counted (hs : s.loop.Spent) (hc : e.command ≠ .census)
    (hf : s.loop.stations[e.station].failures < 2) :
    let r := s.loop.stations[e.station]
    exchangeFailed e cause s =
      { s with loop := s.loop.restingWith e.station { r with lastFailure := cause, failures := r.failures + 1 } } := by
  intro r
  have hcount : pollFailed e.station cause (dropExchange s) = { s with loop := { s.loop with
      stations := s.loop.stations.set e.station { r with lastFailure := cause, failures := r.failures + 1 }
      exchange := none } } := by
    rw [pollFailed_counted (s := dropExchange s) hf]
    rfl
  rw [exchangeFailed_poll hc, hcount, nextExchange_of_spent]
  · rfl
  · exact hs.set_station id

/-- The third failed poll loses the station: its switch point is told, and STATION LOST is queued. -/
theorem exchangeFailed_third (hs : s.loop.Spent) (hc : e.command ≠ .census)
    (hf : s.loop.stations[e.station].failures = 2) :
    let r := s.loop.stations[e.station]
    exchangeFailed e cause s =
      { s with
        loop := s.loop.restingWith e.station { r with lastFailure := cause, failures := 3, state := .lost }
        sws := r.role.told .lost s.sws
        notices := s.noticed .stationLost 5 (.station (number e.station))
          [r.kindWord, word r.rate.code, word cause.code] } := by
  intro r
  have hlost : pollFailed e.station cause (dropExchange s) =
      { s with
        loop := { s.loop with
          stations := s.loop.stations.set e.station { r with lastFailure := cause, failures := 3, state := .lost }
          exchange := none }
        sws := r.role.told .lost s.sws
        notices := s.noticed .stationLost 5 (.station (number e.station))
          [r.kindWord, word r.rate.code, word cause.code] } := by
    rw [pollFailed_third (s := dropExchange s) hf, stationLost_eq]
    simp only [State.modStation_loop, updateAt_same, set_updateAt]
    rfl
  rw [exchangeFailed_poll hc, hlost, nextExchange_of_spent]
  · rfl
  · exact hs.set_station nofun

end

/-- Settles O45: each of the ways to fail is the failure of the exchange by its cause, and what a failure leaves is the
census's step of the rate, a counted failure, or the loss of the station. -/
theorem exchangeStepsAndFailures : Obligations.ExchangeStepsAndFailures := by
  unfold Obligations.ExchangeStepsAndFailures
  intro s e c he l r phased ended census misformed
  refine ⟨fun l' => l'.direction_transmit, fun hp => ⟨?_, fun b => ?_⟩, fun limit b hp hlow hhigh => ?_,
    fun gap got b hp hmore hlen => ?_, fun cause hs hcause => ?_⟩
  · exact congrArg Host.Outcome.next (loopSent_sending he hp)
  · exact congrArg Host.Outcome.next (loopOctet_sending he hp b)
  · refine congrArg Host.Outcome.next ((loopOctet_awaiting he hp b).trans (loopReceived_partial ?_ ?_))
    · exact hhigh
    · exact hlow
  · have hfirst : octetAt (got ++ [b]) 0 = octetAt got 0 := octetAt_append_zero b (by omega)
    refine congrArg Host.Outcome.next ((loopOctet_receiving he hp b).trans (loopReceived_partial ?_ ?_))
    · rwa [hfirst]
    · rwa [hfirst, List.length_append]
  · have hfails : exec c s = .next (exchangeFailed e cause s) := by
      obtain ⟨rfl, ⟨limit, hp⟩, rfl⟩ | ⟨rfl, ⟨gap, got, hp⟩, rfl⟩ | ⟨⟨limit, b, rfl, hp, hlong⟩, rfl⟩ |
        ⟨⟨o, rfl, hp, hsum⟩, rfl⟩ | ⟨⟨o, rfl, hp, hsum, haddress⟩, rfl⟩ |
        ⟨⟨o, rfl, hp, ⟨hsum, -, haddress⟩, hformat⟩, rfl⟩ := hcause
      · exact congrArg Host.Outcome.next (startLimitExpired_awaiting he hp)
      · exact congrArg Host.Outcome.next (gapLimitExpired_receiving he hp)
      · exact congrArg Host.Outcome.next ((loopOctet_awaiting he hp b).trans (loopReceived_too_long hlong))
      · exact exec_loopReplyComplete_failing he hp (parseLoopReply_check hsum)
      · exact exec_loopReplyComplete_failing he hp (parseLoopReply_address hsum haddress)
      · refine exec_loopReplyComplete_failing he hp (parseLoopReply_format hsum haddress ?_)
        have hkind : (if census then octetAt o 2 / 16 % 4 else r.role.kindCode.getD 0) =
            if census then octetAt o 2 / 16 % 4 else match r.role with | .boundary _ _ => 1 | _ => 0 := by
          cases r.role <;> rfl
        simp only [decide_eq_true_eq]
        rw [hkind]
        exact hformat
    rw [hfails]
    refine ⟨fun hc => ?_, fun hc hf => ?_, fun hc hf => ?_⟩
    · exact congrArg Host.Outcome.next (exchangeFailed_census hs hc)
    · exact congrArg Host.Outcome.next (exchangeFailed_counted hs hc hf)
    · refine congrArg Host.Outcome.next ((exchangeFailed_third hs hc hf).trans ?_)
      rw [Station.kindWord, Role.told]
      cases r.role with
      | unset => rfl
      | boundary => rfl
      | switch bound =>
        cases bound with
        | none => rfl
        | some k =>
          simp only [Role.switchPoint, updateAt, SwitchPoint.takeState_lost]
          rfl

end Sys2Proof.Machine
end

section
/-!
What every step keeps, set up once for all the rules of Safety.lean: the rules as values, what a rule asks of a change of
one record, and the changes of one block's records that keep every rule.
-/

namespace Sys2Proof.Machine

/-! ### Changes of one entry of a vector -/

section
variable {α : Type} {m : Nat} {v : Vector α m} {i : Fin m} {f g : α → α}

theorem updateAt_congr (h : f v[i] = g v[i]) : updateAt v i f = updateAt v i g := by rw [updateAt, updateAt, h]

theorem updateAt_eq_self (h : f v[i] = v[i]) : updateAt v i f = v := by rw [updateAt, h]; simp

theorem updateAt_updateAt : updateAt (updateAt v i f) i g = updateAt v i fun x => g (f x) := by simp [updateAt]

end

/-! ### The rules -/

/-- The states that a halted part knows none of (R72 step 4). -/
def SecState.inSequence : SecState → Bool
  | .deadTime => true | .testWait => true | .lineTest => true | .held => true | .closing => true
  | .closed => false | .tripping => false | .reclaim => false | .opened => false | .lockout => false
  | .isolated => false | .breakerFail => false

/-- The arbiter's record agrees with the states of the sections (R76 to R80). -/
def Arbiter.Agrees (a : Arbiter) (st : Sec → SecState) : Prop :=
  (a.count = 1 ∨ a.count = 2) ∧ a.waiting.Nodup ∧ (∀ n : Sec, n ∈ a.waiting ↔ st n = .testWait) ∧
  (∀ n : Sec, (∃ c : Circuit, a.holders[c] = some n) ↔ st n = .lineTest) ∧
  (∀ (c d : Circuit) (n : Sec), a.holders[c] = some n → a.holders[d] = some n → c = d) ∧
  ∀ c : Circuit, (a.contexts[c]).map (·.sec) = a.holders[c]

/-- The states of the sections, those of the section `but`, if any, taken as OPEN. -/
def State.statesBut (but : Option Sec) (s : State) (n : Sec) : SecState :=
  if but = some n then .opened else s.secs[n].state

theorem State.statesBut_congr {but : Option Sec} {s t : State} (h : ∀ m : Sec, t.secs[m].state = s.secs[m].state) :
    t.statesBut but = s.statesBut but := funext fun m => by rw [State.statesBut, State.statesBut, h m]

/-- The rules of Safety.lean, some cut into parts that hold or fail at different moments of a step. Of the Test Arbiter's,
`tests` is its record's agreement with the sections, with the rule about grants where that is asked for, and `resting p`
says that a halt finds no sequencing section in `p`. Of the holds', `facts p` is the Vehicle Table's part for the sections
of `p`, `locks p` the switch points', `timers` the hold timer's. `records c` is no rule of Safety.lean but goes with them:
the records of the Vehicle Table stand in their slots with the numbers, sections and faults of `c`. `pending` says that no command touches the queue of those
that wait. -/
inductive Rule where
  | pending (q : List Instr)
  | notices
  | lines
  | failure
  | frogs
  | queues
  | tests (grants : Bool)
  | resting (p : Sec → SecState → Bool)
  | attempts
  | facts (p : Sec → Bool)
  | locks (p : Sec → Bool)
  | timers
  | fpus
  | captures
  | table
  | records (c : Slot → Option (Nat × Option Sec × Bool × Bool))
  | bindings

/-- The part of a vehicle's record that the rules speak of. -/
def Vehicle.facts (v : Vehicle) : Nat × Option Sec × Bool × Bool := (v.number, v.sec, v.leak, v.dewired)

def Rule.Holds (r : Rule) (s : State) : Prop :=
  match r with
  | .pending q => s.pending = q
  | .notices => NoticesOk s.notices
  | .lines => LinesOk s
  | .failure => FailureOk s
  | .frogs => FrogsOk s
  | .queues => QueuesOk s
  | .tests grants => s.arb.Agrees (s.statesBut none) ∧ 
      (grants = true → GrantsOk s ∧ (s.halted = true → s.arb.waiting = []))
  | .resting p => s.halted = true → ∀ n : Sec, s.secs[n].state.inSequence = true → p n s.secs[n].state = false
  | .attempts => AttemptsOk s
  | .facts p => ∀ n : Sec, p n = true →
      (s.secs[n].holds.leak = true ↔ 0 < s.leaking n ∧ s.secs[n].settings.leakHold = true) ∧
      (s.secs[n].holds.dewired = true ↔ 0 < s.dewired n)
  | .locks p => ∀ n : Sec, p n = true →
      (s.secs[n].holds.switchLock = true ↔ ∃ k : Sw, s.sws[k].feeding = some n ∧ s.sws[k].lock = .dewired)
  | .timers => ∀ n : Sec, s.secs[n].holds.timer = true ↔ s.secs[n].holdTimer.isSome = true
  | .fpus => FpusOk s
  | .captures => CapturesOk s
  | .table => TableOk s
  | .records c => ∀ i : Slot, (s.vt.slots[i]).map Vehicle.facts = c i
  | .bindings => BindingsOk s

/-- `t` keeps the rule if `s` does. -/
def Keeps (r : Rule) (s t : State) : Prop := r.Holds s → r.Holds t

/-- The rule is about the Test Arbiter, whose list and circuits change together with the sections. -/
def Rule.aboutTests : Rule → Bool
  | .tests _ => true
  | _ => false

/-- The rule is about what a halt knows nothing of. -/
def Rule.aboutRest : Rule → Bool
  | .resting _ => true
  | _ => false

variable {r : Rule} {s t u : State}

theorem Keeps.refl (s : State) : Keeps r s s := id

theorem Keeps.trans (h : Keeps r s t) (h' : Keeps r t u) : Keeps r s u := fun hs => h' (h hs)

theorem Keeps.ite {p : Prop} [Decidable p] (h : p → Keeps r s t) (h' : ¬ p → Keeps r s u) :
    Keeps r s (if p then t else u) := by
  split
  next hp => exact h hp
  next hp => exact h' hp

theorem keeps_forEach {ι : Type} {f : ι → State → State} (l : List ι) (h : ∀ i s, Keeps r s (f i s)) (s : State) :
    Keeps r s (forEach l f s) :=
  forEach_keeps l (fun i _ s => h i s) s

/-! ### Blocks that no rule speaks of -/

theorem modGen_keeps (g : Gen) (f : Generator → Generator) (s : State) : Keeps r s (s.modGen g f) := by
  cases r <;> exact id

theorem modLink_keeps (f : Link → Link) (s : State) : Keeps r s (s.modLink f) := by cases r <;> exact id

theorem drawn_keeps (s : State) : Keeps r s s.drawn := by cases r <;> exact id

theorem port_keeps (port : Port) (s : State) : Keeps r s { s with port } := by cases r <;> exact id

theorem clock_keeps (clock : ClockValue) (s : State) : Keeps r s { s with clock } := by cases r <;> exact id

theorem backup_keeps (backup : Bool) (s : State) : Keeps r s { s with backup } := by cases r <;> exact id

/-! ### Feeder Protection Units and Capture Buffers -/

theorem modFpu_keeps (n : Sec) (f : Fpu → Fpu) (h : s.fpus[n].RangeOk → (f s.fpus[n]).RangeOk) :
    Keeps r s (s.modFpu n f) := by
  cases r with
  | fpus =>
    intro hs m
    by_cases hm : m = n
    · subst hm; simpa using h (hs m)
    · simpa [hm] using hs m
  | _ => exact id

theorem modCap_keeps (n : Sec) (f : Capture → Capture) (h : r = .captures → s.caps[n].RangeOk → (f s.caps[n]).RangeOk) :
    Keeps r s (s.modCap n f) := by
  cases r with
  | captures =>
    intro hs m
    by_cases hm : m = n
    · subst hm; simpa using h rfl (hs m)
    · simpa [hm] using hs m
  | _ => exact id

theorem mapCaps_keeps (f : Capture → Capture) (h : ∀ b : Capture, b.RangeOk → (f b).RangeOk) (s : State) :
    Keeps r s { s with caps := s.caps.map f } := by
  cases r with
  | captures => intro hs m; simpa using h _ (hs m)
  | _ => exact id

theorem mapFpus_keeps (f : Fpu → Fpu) (h : ∀ b : Fpu, b.RangeOk → (f b).RangeOk) (s : State) :
    Keeps r s { s with fpus := s.fpus.map f } := by
  cases r with
  | fpus => intro hs m; simpa using h _ (hs m)
  | _ => exact id

/-! ### The field loop -/

/-- Only a station's role is bound by a rule. -/
theorem modLoop_keeps (f : Loop → Loop) (h : ∀ a : Sta, (f s.loop).stations[a].role = s.loop.stations[a].role) :
    Keeps r s (s.modLoop f) := by
  cases r with
  | bindings =>
    intro hs a b k ha hb
    exact hs a b k ((h a).symm.trans ha) ((h b).symm.trans hb)
  | _ => exact id

theorem modStation_keeps (a : Sta) (f : Station → Station) (h : (f s.loop.stations[a]).role = s.loop.stations[a].role) :
    Keeps r s (s.modStation a f) :=
  modLoop_keeps _ fun b => by
    by_cases hb : b = a
    · subst hb; simpa using h
    · simp [hb]

/-! ### The Notice Queue (R165 to R167) -/

/-- A record stored as the newest keeps the entry numbers consecutive and ATTN at its level; whether the rule's bounds
hold of the queue is left to the overflow mark that it then stands with. -/
theorem NoticesOk.store {q : NoticeQueue} (h : NoticesOk q) (time : ClockValue) (kind : NoticeKind) (p : Nat)
    (src : Source) (ws : List Half) (overflow : Bool) (hlen : q.records.length + 1 ≤ if overflow then 48 else 47)
    (hkind : overflow = true → kind = .overflow) :
    NoticesOk { q.store time kind p src ws with overflow } := by
  obtain ⟨-, -, -, hentry, hmask, -⟩ := h
  have hlength : (q.store time kind p src ws).records.length = q.records.length + 1 := by
    simp [NoticeQueue.store, NoticeQueue.withAttn]
  refine ⟨?_, ?_, ?_, ?_, hmask, attnLevel_iff⟩
  · rw [hlength]; split at hlen <;> omega
  · intro ho; rw [hlength]; simpa [show overflow = false from ho] using hlen
  · intro ho
    simp [NoticeQueue.store, NoticeQueue.withAttn, hkind ho]
  · intro ⟨i, hi⟩
    have hlt : i < q.records.length + 1 := hlength ▸ hi
    simp only [NoticeQueue.store, NoticeQueue.withAttn, List.length_append, List.length_singleton, Fin.getElem_fin]
    by_cases hold : i < q.records.length
    · have hnumber := hentry ⟨i, hold⟩
      rw [List.getElem_append_left hold]
      rw [show q.records[i].entry = _ from hnumber, show q.records.length + 1 - i = q.records.length - i + 1 by omega,
        BitVec.ofNat_add]
      simp
    · obtain rfl : i = q.records.length := by omega
      simp

/-- What a change of the newest element leaves as it is, it leaves so over the whole list. -/
theorem modifyNewest_map {α β : Type} {f : α → α} {g : α → β} (h : ∀ x, g (f x) = g x) (l : List α) :
    (modifyNewest f l).map g = l.map g := by
  induction l with
  | nil => rfl
  | cons x xs ih =>
    cases xs with
    | nil => simp [modifyNewest, h]
    | cons y ys => simpa [modifyNewest] using ih

/-- New words in the newest record keep the rule, which speaks of entry numbers, kinds and priorities. -/
theorem NoticesOk.modifyNewest {q : NoticeQueue} {f : Notice → Notice} (h : NoticesOk q) (ho : q.overflow ≠ false)
    (hf : ∀ r, (f r).entry = r.entry ∧ (f r).kind = r.kind ∧ (f r).priority = r.priority) :
    NoticesOk { q with records := modifyNewest f q.records } := by
  obtain ⟨hlen, -, hnewest, hentry, hmask, hattn⟩ := h
  refine ⟨by simpa using hlen, fun h => absurd h ho, fun h => ?_, fun ⟨i, hi⟩ => ?_, hmask, ?_⟩
  · rw [← List.getLast?_map, modifyNewest_map fun r => (hf r).2.1, List.getLast?_map]
    exact hnewest h
  · have hi' : i < q.records.length := by simpa using hi
    have hsame : (Machine.modifyNewest f q.records)[i].entry = q.records[i].entry := by
      have hmap := modifyNewest_map (g := Notice.entry) (fun r => (hf r).1) q.records
      have hget := List.getElem_of_eq hmap (i := i) (by simpa using hi)
      rwa [List.getElem_map, List.getElem_map] at hget
    simp only [Fin.getElem_fin, hsame, modifyNewest_length]
    exact hentry ⟨i, hi'⟩
  · have hprio := modifyNewest_map (g := Notice.priority) (fun r => (hf r).2.2) q.records
    have hmem : ∀ l : List Notice, (∃ r ∈ l, q.mask < r.priority) ↔ ∃ p ∈ l.map (·.priority), q.mask < p := by simp
    exact hattn.trans ((hmem _).trans (hprio ▸ (hmem _).symm))

theorem NoticesOk.take {q : NoticeQueue} (h : NoticesOk q) (time : ClockValue) (kind : NoticeKind) (p : Nat)
    (src : Source) (ws : List Half) : NoticesOk (q.take time kind p src ws) := by
  obtain ⟨ho, hroom, heq⟩ | ⟨ho, hfull, heq⟩ | ⟨ho, heq⟩ := q.take_cases time kind p src ws
  · rw [heq]
    have := h.store time kind p src ws false (by simpa using hroom) nofun
    rwa [← ho] at this
  · obtain ⟨-, hlen, -⟩ := id h
    rw [heq]
    exact h.store time .overflow 6 .link _ true (Nat.succ_le_succ (hlen ho)) fun _ => rfl
  · rw [heq]
    exact h.modifyNewest (by simp [ho]) fun r => ⟨rfl, rfl, rfl⟩

theorem queueNotice_keeps {kind : NoticeKind} {p : Nat} {src : Source} {ws : List Half} :
    Keeps r s (queueNotice kind p src ws s) := by
  cases r with
  | notices => exact fun hs => NoticesOk.take hs ..
  | _ => exact id

/-! ### Sections -/

/-- What a rule asks of the change of one section's record. The Test Arbiter's asks that the state stays, in a halt unless
it ends the sequence. -/
def Rule.KeepsSec (r : Rule) (halted : Bool) (a b : Section) : Prop :=
  match r with
  | .lines => a.LinesOk halted → b.LinesOk halted
  | .failure => a.state = .breakerFail → b.state = .breakerFail
  | .frogs => b.state.powered = a.state.powered
  | .tests _ => b.state = a.state
  | .resting _ => halted = true → b.state = a.state ∨ b.state.inSequence = false
  | .attempts => a.AttemptOk → b.AttemptOk
  | .facts _ =>
    b.holds.leak = a.holds.leak ∧ b.holds.dewired = a.holds.dewired ∧ b.settings.leakHold = a.settings.leakHold
  | .locks _ => b.holds.switchLock = a.holds.switchLock
  | .timers => b.holds.timer = a.holds.timer ∧ b.holdTimer.isSome = a.holdTimer.isSome
  | _ => True

theorem Rule.KeepsSec.refl (halted : Bool) (a : Section) : r.KeepsSec halted a a := by
  cases r <;> simp [Rule.KeepsSec]

/-- Records changed as the rule asks, with the arbiter's record left as it is or the rule not about it, keep the rule. -/
theorem secs_keeps {secs : Vector Section 8} {arb : Arbiter} (harb : r.aboutTests = true → arb = s.arb)
    (h : ∀ m : Sec, r.KeepsSec s.halted s.secs[m] secs[m]) : Keeps r s { s with secs, arb } := by
  cases r with
  | lines => exact fun hs m => h m (hs m)
  | failure => exact fun hs hb => (hs hb).imp h
  | frogs =>
    exact fun ⟨⟨hvt, hsw⟩, hfrog⟩ => ⟨⟨fun m => (hvt m).trans (h m).symm,
      fun k m hk => (hsw k m hk).trans (h m).symm⟩, hfrog⟩
  | attempts => exact fun hs m => h m (hs m)
  | tests =>
    have hst : ∀ m : Sec, secs[m].state = s.secs[m].state := h
    obtain rfl := harb rfl
    exact fun ⟨hagrees, hgrants⟩ => ⟨by rwa [State.statesBut_congr (s := s) hst], hgrants⟩
  | resting =>
    intro hs hh m hseq
    obtain hm | hm := h m hh
    · rw [hm] at hseq ⊢; exact hs hh m hseq
    · exact absurd (hm.symm.trans hseq) nofun
  | facts =>
    intro hs m hm
    obtain ⟨hleak, hdewired, hset⟩ := h m
    simp only [hleak, hdewired, hset]
    exact hs m hm
  | locks => exact fun hs m hm => (by rw [show secs[m].holds.switchLock = _ from h m]; exact hs m hm)
  | timers =>
    intro hs m
    obtain ⟨htimer, hrun⟩ := h m
    simp only [htimer, hrun]
    exact hs m
  | _ => exact id

/-! ### Switch points -/

/-- What a rule asks of the change of one switch point's record, its feeding section and its power copy staying. -/
def Rule.KeepsSw (r : Rule) (a b : SwitchPoint) : Prop :=
  match r with
  | .frogs => (a.FrogOk → b.FrogOk) ∧ b.feeding = a.feeding ∧ b.power = a.power
  | .queues => a.QueueOk → b.QueueOk
  | .locks _ => b.feeding = a.feeding ∧ (b.lock = .dewired ↔ a.lock = .dewired)
  | _ => True

theorem Rule.KeepsSw.refl (a : SwitchPoint) : r.KeepsSw a a := by
  cases r <;> simp [Rule.KeepsSw]

theorem sws_keeps {sws : Vector SwitchPoint 16} (h : ∀ k : Sw, r.KeepsSw s.sws[k] sws[k]) :
    Keeps r s { s with sws } := by
  cases r with
  | frogs =>
    rintro ⟨⟨hvt, hsw⟩, hfrog⟩
    refine ⟨⟨hvt, fun k m hk => ?_⟩, fun k => (h k).1 (hfrog k)⟩
    obtain ⟨-, hfeed, hpower⟩ := h k
    exact hpower.trans (hsw k m (hfeed ▸ hk))
  | queues => exact fun hs k => h k (hs k)
  | locks =>
    intro hs m hm
    refine (hs m hm).trans (exists_congr fun k => ?_)
    obtain ⟨hfeed, hlock⟩ := h k
    rw [← hfeed, ← hlock]
  | _ => exact id

theorem modSw_keeps (k : Sw) (f : SwitchPoint → SwitchPoint) (h : r.KeepsSw s.sws[k] (f s.sws[k])) :
    Keeps r s (s.modSw k f) :=
  sws_keeps fun j => by
    by_cases hj : j = k
    · subst hj; simpa using h
    · simpa [hj] using Rule.KeepsSw.refl _

/-! ### The Vehicle Table -/

theorem State.countVehicles_pos {n : Sec} {p : Vehicle → Bool} :
    0 < s.countVehicles n p ↔ ∃ (i : Slot) (v : Vehicle), s.vt.slots[i] = some v ∧ v.sec = some n ∧ p v = true := by
  simp only [State.countVehicles, List.countP_pos_iff, Vector.mem_toList_iff, Vector.mem_iff_getElem]
  constructor
  · rintro ⟨v?, ⟨i, hi, rfl⟩, hv⟩
    cases hslot : s.vt.slots[i] with
    | none => simp [hslot] at hv
    | some v => exact ⟨⟨i, hi⟩, v, hslot, by simpa [hslot] using hv⟩
  · rintro ⟨i, v, hslot, hv⟩
    exact ⟨_, ⟨i.val, i.isLt, rfl⟩, by simpa [show s.vt.slots[i.val] = some v from hslot] using hv⟩

/-- What a rule asks of the change of one slot. -/
def Rule.KeepsSlot (r : Rule) (a b : Option Vehicle) : Prop :=
  match r with
  | .table => b.map (·.number) = a.map (·.number)
  | .records _ => b.map Vehicle.facts = a.map Vehicle.facts
  | .facts _ => b.map (fun v => (v.sec, v.leak, v.dewired)) = a.map (fun v => (v.sec, v.leak, v.dewired))
  | _ => True

theorem Rule.KeepsSlot.refl (a : Option Vehicle) : r.KeepsSlot a a := by
  cases r <;> simp [Rule.KeepsSlot]

/-- Slots whose records keep section and faults keep the counts above 0. -/
theorem countVehicles_pos_congr {n : Sec} {p : Vehicle → Bool} (hp : ∀ v w : Vehicle, v.leak = w.leak →
    v.dewired = w.dewired → p v = p w) {q : Sec → Bool}
    (h : ∀ i : Slot, (Rule.facts q).KeepsSlot s.vt.slots[i] t.vt.slots[i]) :
    0 < t.countVehicles n p ↔ 0 < s.countVehicles n p := by
  simp only [State.countVehicles_pos]
  refine exists_congr fun i => ?_
  have hi : (t.vt.slots[i]).map _ = (s.vt.slots[i]).map _ := h i
  cases hs : s.vt.slots[i] with
  | none => simp_all
  | some v =>
    cases ht : t.vt.slots[i] with
    | none => simp_all
    | some w =>
      obtain ⟨hsec, hleak, hdewired⟩ : w.sec = v.sec ∧ w.leak = v.leak ∧ w.dewired = v.dewired := by simpa [hs, ht] using hi
      simp [hsec, hp w v hleak hdewired]

theorem vt_keeps {vt : VehicleTable} (hpower : vt.power = s.vt.power)
    (h : ∀ i : Slot, r.KeepsSlot s.vt.slots[i] vt.slots[i]) : Keeps r s { s with vt } := by
  cases r with
  | frogs => exact fun ⟨⟨hvt, hsw⟩, hfrog⟩ => ⟨⟨fun m => hpower ▸ hvt m, hsw⟩, hfrog⟩
  | table =>
    rintro ⟨hunique, hrange⟩
    have hback : ∀ (i : Slot) (w : Vehicle), vt.slots[i] = some w →
        ∃ v, s.vt.slots[i] = some v ∧ v.number = w.number := by
      intro i w hw
      have hi : (vt.slots[i]).map _ = (s.vt.slots[i]).map _ := h i
      rw [hw] at hi
      simpa using hi.symm
    refine ⟨fun i j v w hv hw hvw => ?_, fun i v hv => ?_⟩
    · obtain ⟨v', hv', hvn⟩ := hback i v hv
      obtain ⟨w', hw', hwn⟩ := hback j w hw
      exact hunique i j v' w' hv' hw' (hvn.trans (hvw.trans hwn.symm))
    · obtain ⟨v', hv', hvn⟩ := hback i v hv
      exact hvn ▸ hrange i v' hv'
  | records => exact fun hs i => (h i).trans (hs i)
  | facts =>
    intro hs m hm
    obtain ⟨hleak, hdewired⟩ := hs m hm
    have hcount (p : Vehicle → Bool) hp := countVehicles_pos_congr (s := s) (t := { s with vt }) (n := m) (p := p) hp h
    exact ⟨hleak.trans (and_congr_left' (hcount _ fun _ _ h _ => h).symm), hdewired.trans (hcount _ fun _ _ _ h => h).symm⟩
  | _ => exact id

theorem modSlot_keeps (i : Slot) (f : Vehicle → Vehicle)
    (h : ∀ v, s.vt.slots[i] = some v → r.KeepsSlot (some v) (some (f v))) : Keeps r s (s.modSlot i f) :=
  vt_keeps (vt := { s.vt with slots := updateAt s.vt.slots i (Option.map f) }) rfl fun j => by
    by_cases hj : j = i
    · subst hj
      rw [updateAt_same]
      cases hv : s.vt.slots[j] with
      | none => exact Rule.KeepsSlot.refl none
      | some v => exact h v hv
    · simpa [hj] using Rule.KeepsSlot.refl _

end Sys2Proof.Machine
end

section
/-!
The Section Controller's operations keep the rules (R46 to R73): entering a state, the Test Arbiter's list and grants, a
power report, trips, readings that move the breaker, breaker failure and the halt.
-/

namespace Sys2Proof.Machine

variable {r : Rule} {s t : State} {n : Sec}

/-! ### Changes of a section's record -/

theorem modSec_keeps (n : Sec) (f : Section → Section) (h : r.KeepsSec s.halted s.secs[n] (f s.secs[n])) :
    Keeps r s (s.modSec n f) :=
  secs_keeps (fun _ => rfl) fun m => by
    by_cases hm : m = n
    · subst hm; simpa using h
    · simpa [hm] using Rule.KeepsSec.refl _ _

/-- The part of a section's record that the rules speak of. -/
def Section.core (r : Section) : Section :=
  { r with
    dead := {}, record := none, held := false, heldSince := none, feedback := .opened, asClosed := false
    deadTimer := none, closing := none, reclaim := none, holdLimit := none, discrepancy := none, trippingMs := 0
    lastTest := none, holds := { r.holds with noSupply := false } }

theorem Rule.KeepsSec.of_core {halted : Bool} {a b : Section} (h : b.core = a.core) : r.KeepsSec halted a b := by
  have hcore : r.KeepsSec halted a.core b.core := by rw [h]; exact .refl halted _
  cases r <;> exact hcore

/-- A change of the rest of the record keeps every rule. -/
theorem modSec_core_keeps (n : Sec) (f : Section → Section) (h : (f s.secs[n]).core = s.secs[n].core) :
    Keeps r s (s.modSec n f) :=
  modSec_keeps n f (.of_core h)

/-- The attempt count is what state `st` asks (R57, R60, R63). -/
def Section.CountFor (a : Section) (st : SecState) : Prop :=
  (a.manual = false → st = .deadTime ∨ st = .testWait → a.attempt < a.limit) ∧
  (st = .lineTest ∨ st = .closing ∨ st = .reclaim ∨ st = .held → 1 ≤ a.attempt)

@[simp] theorem Section.entered_state (halted : Bool) (st : SecState) (a : Section) : (a.entered halted st).state = st := rfl

@[simp] theorem enter_secs (n : Sec) (st : SecState) (s : State) :
    (enter n st s).secs = updateAt s.secs n (Section.entered s.halted st) := rfl

/-- A section's lines at entry into a state are those that the state and the halt ask (R46, R73). -/
theorem Section.entered_linesOk (halted : Bool) (st : SecState) (a : Section) : (a.entered halted st).LinesOk halted := by
  unfold Section.entered Section.withLines Section.LinesOk
  cases halted <;> cases st <;> simp [SecState.tripAtEntry, SecState.openLike]

theorem Section.entered_keepsSec (halted : Bool) {st : SecState} {a : Section} (htests : r.aboutTests = false)
    (hhalt : r.aboutRest = true → halted = true → st.inSequence = false)
    (hfail : r = .failure → a.state ≠ .breakerFail ∨ st = .breakerFail)
    (hpower : r = .frogs → st.powered = a.state.powered) (hcount : r = .attempts → a.AttemptOk → a.CountFor st) :
    r.KeepsSec halted a (a.entered halted st) := by
  cases r with
  | lines => exact fun _ => a.entered_linesOk halted st
  | failure => exact fun hb => (hfail rfl).elim (absurd hb) id
  | frogs => exact hpower rfl
  | tests => cases htests
  | resting => exact fun hh => .inr (hhalt rfl hh)
  | attempts =>
    intro ha
    obtain ⟨hwait, hgranted⟩ := hcount rfl ha
    obtain ⟨hset, hlimit, hle, hmanual, -, -⟩ := ha
    exact ⟨hset, hlimit, hle, hmanual, hwait, hgranted⟩
  | facts => exact ⟨rfl, rfl, rfl⟩
  | locks => exact Eq.refl a.holds.switchLock
  | timers => exact ⟨rfl, rfl⟩
  | _ => trivial

/-! ### The Test Arbiter's list and circuits (R76 to R80) -/

/-- TEST_WAIT and LINE_TEST, the states of which the arbiter knows. -/
def SecState.onTest : SecState → Bool
  | .testWait => true | .lineTest => true
  | .closed => false | .tripping => false | .deadTime => false | .closing => false | .reclaim => false | .held => false
  | .opened => false | .lockout => false | .isolated => false | .breakerFail => false

theorem SecState.onTest_eq_false {st : SecState} : st.onTest = false ↔ st ≠ .testWait ∧ st ≠ .lineTest := by
  cases st <;> decide

/-- An entry of a vector with the entry at `i` set. -/
theorem set_get {α : Type} {m : Nat} (v : Vector α m) (i j : Fin m) (x : α) :
    (v.set i x)[j] = if j = i then x else v[j] :=
  updateAt_get v i j fun _ => x

section
variable {a : Arbiter} {st st' : Sec → SecState} {c : Circuit}

theorem Arbiter.Agrees.congr (h : a.Agrees st) (hst : ∀ m, st' m = st m ∨ (st' m).onTest = false ∧ (st m).onTest = false) :
    a.Agrees st' := by
  obtain ⟨hcount, hnodup, hwait, hhold, hinj, hctx⟩ := h
  refine ⟨hcount, hnodup, fun m => (hwait m).trans ?_, fun m => (hhold m).trans ?_, hinj, hctx⟩
  all_goals
    obtain h | ⟨h', h⟩ := hst m
    · rw [h]
    · obtain ⟨hw, hl⟩ := SecState.onTest_eq_false.mp h
      obtain ⟨hw', hl'⟩ := SecState.onTest_eq_false.mp h'
      simp [hw, hl, hw', hl']

/-- A section off the list (R79). -/
theorem Arbiter.Agrees.leave (h : a.Agrees st) (hst : ∀ m, m ≠ n → st' m = st m) (hn : st n ≠ .lineTest)
    (hn' : (st' n).onTest = false) : ({ a with waiting := a.waiting.filter (· ≠ n) } : Arbiter).Agrees st' := by
  obtain ⟨hcount, hnodup, hwait, hhold, hinj, hctx⟩ := h
  obtain ⟨hw', hl'⟩ := SecState.onTest_eq_false.mp hn'
  refine ⟨hcount, hnodup.filter _, fun m => ?_, fun m => (hhold m).trans ?_, hinj, hctx⟩
  · by_cases hm : m = n
    · subst hm; simp [hw']
    · simp [hm, hst m hm, hwait m]
  · by_cases hm : m = n
    · subst hm; simp [hn, hl']
    · rw [hst m hm]

/-- A holder's circuit free (R80). -/
theorem Arbiter.Agrees.clear (h : a.Agrees st) (hst : ∀ m, m ≠ n → st' m = st m) (hc : a.holders[c] = some n)
    (hn' : (st' n).onTest = false) : (a.clear c).Agrees st' := by
  obtain ⟨hcount, hnodup, hwait, hhold, hinj, hctx⟩ := h
  obtain ⟨hw', hl'⟩ := SecState.onTest_eq_false.mp hn'
  have hline : st n = .lineTest := (hhold n).mp ⟨c, hc⟩
  simp only [Arbiter.Agrees, Arbiter.clear, set_get]
  refine ⟨hcount, hnodup, fun m => (hwait m).trans ?_, fun m => ?_, fun d d' m hd hd' => ?_, fun d => ?_⟩
  · by_cases hm : m = n
    · subst hm; simp [hline, hw']
    · rw [hst m hm]
  · by_cases hm : m = n
    · subst hm
      simp only [hl', iff_false, not_exists]
      intro d hd
      by_cases hdc : d = c
      · simp [hdc] at hd
      · rw [if_neg hdc] at hd; exact hdc (hinj d c m hd hc)
    · rw [hst m hm, ← hhold m]
      refine exists_congr fun d => ?_
      by_cases hdc : d = c
      · subst hdc; simp [hc, Ne.symm hm]
      · rw [if_neg hdc]
  · simp only [Option.ite_none_left_eq_some] at hd hd'
    exact hinj d d' m hd.2 hd'.2
  · split
    · rfl
    · exact hctx d

/-- A section last on the list (R77). -/
theorem Arbiter.Agrees.join (h : a.Agrees st) (hst : ∀ m, m ≠ n → st' m = st m) (hn : (st n).onTest = false)
    (hn' : st' n = .testWait) : ({ a with waiting := a.waiting ++ [n] } : Arbiter).Agrees st' := by
  obtain ⟨hcount, hnodup, hwait, hhold, hinj, hctx⟩ := h
  obtain ⟨hw, hl⟩ := SecState.onTest_eq_false.mp hn
  have hmem : n ∉ a.waiting := (hwait n).not.mpr hw
  refine ⟨hcount, ?_, fun m => ?_, fun m => (hhold m).trans ?_, hinj, hctx⟩
  · simpa using List.nodup_append.mpr ⟨hnodup, List.nodup_singleton n, fun m hm => by simpa using ne_of_mem_of_not_mem hm hmem⟩
  · by_cases hm : m = n
    · subst hm; simp [hn']
    · simp [hm, hst m hm, hwait m]
  · by_cases hm : m = n
    · subst hm; simp [hn', hl]
    · rw [hst m hm]

/-- The head of the list on a free circuit, its context open (R78, R81). -/
theorem Arbiter.Agrees.grant {rest : List Sec} {settle : Nat} (h : a.Agrees st) (hst : ∀ m, m ≠ n → st' m = st m)
    (hw : a.waiting = n :: rest) (hc : a.holders[c] = none) (hn' : st' n = .lineTest) :
    ({ a with
      waiting := rest, holders := a.holders.set c (some n)
      contexts := a.contexts.set c (some ⟨n, settle, []⟩) } : Arbiter).Agrees st' := by
  obtain ⟨hcount, hnodup, hwait, hhold, hinj, hctx⟩ := h
  have hn : st n = .testWait := (hwait n).mp (by simp [hw])
  have hnone : ∀ d : Circuit, a.holders[d] ≠ some n := fun d hd => by
    have := (hhold n).mp ⟨d, hd⟩; rw [hn] at this; cases this
  rw [hw, List.nodup_cons] at hnodup
  simp only [Arbiter.Agrees, set_get]
  refine ⟨hcount, hnodup.2, fun m => ?_, fun m => ?_, fun d d' m hd hd' => ?_, fun d => ?_⟩
  · by_cases hm : m = n
    · subst hm; simp [hn', hnodup.1]
    · rw [hst m hm, ← hwait m, hw]; simp [hm]
  · by_cases hm : m = n
    · subst hm; simp only [hn', iff_true]; exact ⟨c, if_pos rfl⟩
    · rw [hst m hm, ← hhold m]
      refine exists_congr fun d => ?_
      by_cases hdc : d = c
      · subst hdc; simp [hc, Ne.symm hm]
      · rw [if_neg hdc]
  · by_cases hdc : d = c <;> by_cases hdc' : d' = c
    · rw [hdc, hdc']
    · rw [if_pos hdc] at hd
      rw [if_neg hdc', ← hd] at hd'
      exact absurd hd' (hnone d')
    · rw [if_pos hdc'] at hd'
      rw [if_neg hdc, ← hd'] at hd
      exact absurd hd (hnone d)
    · rw [if_neg hdc] at hd
      rw [if_neg hdc'] at hd'
      exact hinj d d' m hd hd'
  · split
    · rfl
    · exact hctx d

end

/-! ### The grant rule (R78, R81) -/

/-- A section's record as a grant leaves it (R57). -/
def Section.granted (halted : Bool) (a : Section) : Section :=
  { a.entered halted .lineTest with attempt := if a.manual then a.attempt else a.attempt + 1 }

theorem Section.granted_keepsSec {a : Section} (htests : r.aboutTests = false) (ha : a.state = .testWait) :
    r.KeepsSec false a (a.granted false) := by
  cases r with
  | lines => exact fun _ => a.entered_linesOk false .lineTest
  | failure => exact fun hb => by rw [ha] at hb; cases hb
  | frogs => change false = a.state.powered; rw [ha]; rfl
  | tests => cases htests
  | resting => exact nofun
  | attempts =>
    rintro ⟨hset, hlimit, hle, hmanual, hwait, -⟩
    unfold Section.granted Section.AttemptOk
    cases hm : a.manual with
    | true =>
      obtain ⟨heq, hpos⟩ := hmanual hm
      refine ⟨hset, hlimit, hle, hmanual, by simp [Section.entered, Section.withLines], fun _ => ?_⟩
      change 1 ≤ a.attempt
      omega
    | false =>
      have hlt := hwait hm (.inr ha)
      refine ⟨hset, hlimit, hlt, fun h => ?_, by simp [Section.entered, Section.withLines], fun _ => Nat.succ_pos _⟩
      rw [show a.manual = true from h] at hm
      cases hm
  | facts => exact ⟨rfl, rfl, rfl⟩
  | locks => exact Eq.refl a.holds.switchLock
  | timers => exact ⟨rfl, rfl⟩
  | _ => trivial

/-- What the arbiter's list and grants do beside the arbiter's own record: sections in TEST_WAIT enter LINE_TEST. -/
def Granted (s t : State) : Prop :=
  ∃ secs arb, t = { s with secs, arb } ∧ ∀ m : Sec,
    secs[m] = s.secs[m] ∨ s.halted = false ∧ s.secs[m].state = .testWait ∧ secs[m] = s.secs[m].granted false

theorem modArb_granted (f : Arbiter → Arbiter) (s : State) : Granted s (s.modArb f) :=
  ⟨s.secs, f s.arb, rfl, fun _ => .inl rfl⟩

theorem Granted.trans {u : State} (h : Granted s t) (h' : Granted t u) : Granted s u := by
  obtain ⟨secs, arb, rfl, h⟩ := h
  obtain ⟨secs', arb', rfl, h'⟩ := h'
  refine ⟨secs', arb', rfl, fun m => ?_⟩
  obtain hm | ⟨hh, hw, hm⟩ := h' m
  · rw [hm]; exact h m
  · obtain hs | ⟨-, -, hs⟩ := h m
    · dsimp only at hm hw; rw [hm, hs]; exact .inr ⟨hh, hs ▸ hw, rfl⟩
    · dsimp only at hw; rw [hs] at hw; cases hw

theorem Granted.keeps (h : Granted s t) (htests : r.aboutTests = false) : Keeps r s t := by
  obtain ⟨secs, arb, rfl, h⟩ := h
  refine secs_keeps (by simp [htests]) fun m => ?_
  obtain hm | ⟨hh, hw, hm⟩ := h m
  · rw [hm]; exact .refl _ _
  · rw [hm, hh]; exact Section.granted_keepsSec htests hw

theorem takeGrant_waiting {c : Circuit} (h : s.secs[n].state = .testWait) :
    takeGrant n c s = { s with
      secs := updateAt s.secs n (Section.granted s.halted)
      arb := { s.arb with contexts := s.arb.contexts.set c (some ⟨n, s.secs[n].settings.settle, []⟩) } } := by
  rw [takeGrant, if_pos h]
  simp [enter, State.modSec, State.modArb, updateAt, Section.granted, Section.entered, Section.withLines]

@[simp] theorem takeGrant_list (n : Sec) (c : Circuit) (s : State) :
    (takeGrant n c s).arb.waiting = s.arb.waiting := by
  unfold takeGrant; split <;> rfl

@[simp] theorem takeGrant_halted (n : Sec) (c : Circuit) (s : State) : (takeGrant n c s).halted = s.halted := by
  unfold takeGrant; split <;> rfl

theorem takeGrant_granted (n : Sec) (c : Circuit) (hh : s.halted = false) : Granted s (takeGrant n c s) := by
  by_cases h : s.secs[n].state = .testWait
  · refine ⟨_, _, takeGrant_waiting h, fun m => ?_⟩
    by_cases hm : m = n
    · subst hm; exact .inr ⟨hh, h, by rw [← hh]; exact updateAt_same ..⟩
    · exact .inl (updateAt_other _ hm _)
  · rw [takeGrant, if_neg h]; exact modArb_granted _ s

theorem grantLoop_granted (fuel : Nat) (s : State) : Granted s (grantLoop fuel s) := by
  induction fuel generalizing s with
  | zero => exact modArb_granted id s
  | succ fuel ih =>
    unfold grantLoop
    split
    · split
      next hgrant =>
        have hh : s.halted = false := by simp only [Bool.and_eq_true, Bool.not_eq_true'] at hgrant; exact hgrant.1
        exact ((modArb_granted _ s).trans (takeGrant_granted _ _ hh)).trans (ih _)
      · exact modArb_granted id s
    · exact modArb_granted id s

theorem applyGrants_granted (s : State) : Granted s (applyGrants s) := grantLoop_granted _ s

theorem joinTestList_granted (n : Sec) (s : State) : Granted s (joinTestList n s) :=
  (modArb_granted _ s).trans (applyGrants_granted _)

theorem releaseCircuit_granted (n : Sec) (s : State) : Granted s (releaseCircuit n s) := by
  unfold releaseCircuit
  split
  · exact modArb_granted id s
  · exact (modArb_granted _ s).trans (applyGrants_granted _)

theorem abandonTest_granted (n : Sec) (s : State) : Granted s (abandonTest n s) := by
  unfold abandonTest
  split
  · exact modArb_granted _ s
  · exact releaseCircuit_granted n s
  all_goals exact modArb_granted id s

/-! The rule about grants, and the arbiter's agreement with the sections -/

/-- A rule is applied as many times as the list is long, so at its end no section waits for a circuit that may be
granted. -/
theorem grantLoop_grantsOk {fuel : Nat} (hh : s.halted = false) (hfuel : s.arb.waiting.length ≤ fuel) :
    GrantsOk (grantLoop fuel s) := by
  induction fuel generalizing s with
  | zero => exact .inl (List.eq_nil_of_length_eq_zero (by simpa [grantLoop] using hfuel))
  | succ fuel ih =>
    unfold grantLoop
    split
    next m rest c hw hc =>
      split
      next hgrant =>
        refine ih (by simpa using hh) ?_
        simpa [hw] using hfuel
      next hgrant => exact .inr (.inr (by simpa [hh] using hgrant))
    next hstop =>
      cases hw : s.arb.waiting with
      | nil => exact .inl hw
      | cons m rest =>
        cases hc : s.arb.freeCircuit with
        | none => exact .inr (.inl hc)
        | some c => exact absurd hc (hstop m rest c hw)

theorem applyGrants_grantsOk (hh : s.halted = false) : GrantsOk (applyGrants s) := grantLoop_grantsOk hh le_rfl

theorem Arbiter.holders_of_freeCircuit {a : Arbiter} {c : Circuit} (h : a.freeCircuit = some c) : a.holders[c] = none := by
  have := List.find?_some h
  simp only [Bool.and_eq_true, Option.isNone_iff_eq_none] at this
  exact this.2

/-- The grant rule keeps the agreement, also over a section `but` that is neither on the list nor on a circuit. -/
theorem grantLoop_agrees {but : Option Sec} {fuel : Nat} (h : s.arb.Agrees (s.statesBut but)) :
    (grantLoop fuel s).arb.Agrees ((grantLoop fuel s).statesBut but) := by
  induction fuel generalizing s with
  | zero => exact h
  | succ fuel ih =>
    unfold grantLoop
    split
    next m rest c hw hc =>
      split
      next =>
        have hbut : s.statesBut but m = .testWait := (h.2.2.1 m).mp (by simp [hw])
        have hne : but ≠ some m := fun he => by simp [State.statesBut, he] at hbut
        have hm : s.secs[m].state = .testWait := by simpa [State.statesBut, hne] using hbut
        refine ih ?_
        rw [takeGrant_waiting (s := s.modArb _) hm]
        refine h.grant (n := m) (fun k hk => ?_) hw (Arbiter.holders_of_freeCircuit hc) ?_
        · simp [State.statesBut, hk]
        · simp [State.statesBut, hne, Section.granted, Section.entered, Section.withLines]
      next => exact h
    next => exact h

/-! ### A section off the list and off the circuits (R57, R79, R80) -/

/-- The rule holds but for section `n`, of which the arbiter's record and the rule of a halt know nothing; of the other
rules, that they hold. -/
def Rule.HoldsBut (r : Rule) (n : Sec) (s : State) : Prop :=
  match r with
  | .tests grants => s.arb.Agrees (s.statesBut (some n)) ∧
      (grants = true → GrantsOk s ∧ (s.halted = true → s.arb.waiting = []))
  | .resting p => s.halted = true → ∀ m : Sec, m ≠ n → s.secs[m].state.inSequence = true → p m s.secs[m].state = false
  | r => r.Holds s

theorem Rule.Holds.but (h : r.Holds s) (hn : s.secs[n].state.onTest = false) : r.HoldsBut n s := by
  cases r with
  | tests grants =>
    refine ⟨h.1.congr fun m => ?_, h.2⟩
    by_cases hm : n = m
    · subst hm; exact .inr ⟨by simp [State.statesBut, SecState.onTest], by simpa [State.statesBut] using hn⟩
    · exact .inl (by simp [State.statesBut, hm])
  | resting => exact fun hh m _ => h hh m
  | _ => exact h

/-- What changes section `n` alone, into a state that the arbiter and a halt know nothing of, leaves the rule holding. -/
theorem Rule.HoldsBut.entered (h : r.HoldsBut n s) {st : SecState} (hst : st.onTest = false)
    (hhalt : r.aboutRest = true → s.halted = true → st.inSequence = false) (hfail : r = .failure → s.secs[n].state ≠ .breakerFail ∨ st = .breakerFail)
    (hpower : r = .frogs → st.powered = s.secs[n].state.powered)
    (hcount : r = .attempts → s.secs[n].AttemptOk → s.secs[n].CountFor st) : r.Holds (enter n st s) := by
  have hkeeps (htests : r.aboutTests = false) : Keeps r s (enter n st s) :=
    modSec_keeps n _ (Section.entered_keepsSec _ htests hhalt hfail hpower hcount)
  cases r with
  | tests grants =>
    refine ⟨h.1.congr fun m => ?_, h.2⟩
    by_cases hm : n = m
    · subst hm; exact .inr ⟨by simpa [State.statesBut] using hst, by simp [State.statesBut, SecState.onTest]⟩
    · exact .inl (by simp [State.statesBut, hm, Ne.symm hm])
  | resting =>
    intro hh m hseq
    by_cases hm : m = n
    · subst hm; simp [hhalt rfl hh] at hseq
    · simp only [enter_secs, updateAt_other _ hm] at hseq ⊢; exact h hh m hm hseq
  | _ => exact hkeeps rfl h

/-! Leaving TEST_WAIT and LINE_TEST, and joining the list -/

theorem Arbiter.holders_of_circuitOf {a : Arbiter} {c : Circuit} (h : a.circuitOf n = some c) : a.holders[c] = some n :=
  of_decide_eq_true (List.find?_some (p := fun c => decide (a.holders[c] = some n)) h)

theorem Arbiter.circuitOf_of_holder {a : Arbiter} {c : Circuit}
    (hinj : ∀ d e : Circuit, a.holders[d] = some n → a.holders[e] = some n → d = e) (h : a.holders[c] = some n) :
    a.circuitOf n = some c := by
  cases hd : a.circuitOf n with
  | none => exact absurd (decide_eq_true h) (List.find?_eq_none.mp hd c (List.mem_finRange c))
  | some d => rw [hinj d c (Arbiter.holders_of_circuitOf hd) h]

theorem releaseCircuit_but {c : Circuit} {grants : Bool} (hc : s.arb.circuitOf n = some c)
    (hgrants : grants = true → GrantsOk s ∧ (s.halted = true → s.arb.waiting = []))
    (h : (s.arb.clear c).Agrees (s.statesBut (some n))) : (Rule.tests grants).HoldsBut n (releaseCircuit n s) := by
  have heq : releaseCircuit n s = applyGrants (s.modArb fun a => a.clear c) := by rw [releaseCircuit, hc]
  obtain ⟨secs, arb, hgranted, -⟩ := releaseCircuit_granted n s
  have hhalted : (releaseCircuit n s).halted = s.halted := by rw [hgranted]
  rw [heq] at hhalted ⊢
  refine ⟨grantLoop_agrees (s := s.modArb fun a => a.clear c) h, fun hg => ?_⟩
  cases hh : s.halted with
  | false => exact ⟨applyGrants_grantsOk hh, fun h => absurd (hh.symm.trans (hhalted.symm.trans h)) nofun⟩
  | true =>
    have hempty : (s.modArb fun a => a.clear c).arb.waiting = [] := (hgrants hg).2 hh
    rw [applyGrants_idle (.inl hempty)]
    exact ⟨.inl hempty, fun _ => hempty⟩

theorem abandonTest_but (h : r.Holds s) : r.HoldsBut n (abandonTest n s) := by
  have hkeeps (htests : r.aboutTests = false) : Keeps r s (abandonTest n s) := (abandonTest_granted n s).keeps htests
  cases r with
  | tests grants =>
    have hout : s.secs[n].state.onTest = false → (Rule.tests grants).HoldsBut n s := Rule.Holds.but h
    obtain ⟨hagrees, hgrants⟩ := h
    have hother : ∀ m, m ≠ n → s.statesBut (some n) m = s.statesBut none m := fun m hm => by
      simp [State.statesBut, Ne.symm hm]
    have hself : (s.statesBut (some n) n).onTest = false := by simp [State.statesBut, SecState.onTest]
    unfold abandonTest
    split
    next hw =>
      refine ⟨hagrees.leave hother (by rw [State.statesBut, if_neg nofun, hw]; nofun) hself, fun hg => ?_⟩
      obtain ⟨hgrant, hhalt⟩ := hgrants hg
      exact ⟨hgrant.imp (fun hnil => by simp [leaveTestList, State.modArb, hnil]) id,
        fun hh => by simp [leaveTestList, State.modArb, hhalt hh]⟩
    next hl =>
      obtain ⟨-, -, -, hhold, hinj, -⟩ := id hagrees
      obtain ⟨c, hc⟩ := (hhold n).mpr (by simpa [State.statesBut] using hl)
      exact releaseCircuit_but (grants := grants) (Arbiter.circuitOf_of_holder (fun d e => hinj d e n) hc) hgrants (hagrees.clear hother hc hself)
    all_goals
      next hs => exact hout (by rw [hs]; rfl)
  | resting => exact fun hh m _ => hkeeps rfl h hh m
  | _ => exact hkeeps rfl h

theorem Rule.HoldsBut.enterTestWait (h : r.HoldsBut n s) (hh : s.halted = false)
    (hfail : r = .failure → s.secs[n].state ≠ .breakerFail) (hpower : r = .frogs → s.secs[n].state.powered = false)
    (hcount : r = .attempts → s.secs[n].AttemptOk → s.secs[n].CountFor .testWait) : r.Holds (enterTestWait n s) := by
  have hgranted : Granted (enter n .testWait s) (Machine.enterTestWait n s) := joinTestList_granted n _
  have hkeeps (htests : r.aboutTests = false) : Keeps r s (Machine.enterTestWait n s) := by
    refine .trans (modSec_keeps n _ (Section.entered_keepsSec _ htests ?_ ?_ ?_ hcount)) (hgranted.keeps htests)
    · exact fun _ h => absurd (hh.symm.trans h) nofun
    · exact fun hr => .inl (hfail hr)
    · exact fun hr => (hpower hr).symm
  cases r with
  | tests grants =>
    obtain ⟨hagrees, -⟩ := h
    obtain ⟨-, -, hwait, -⟩ := id hagrees
    have hout : n ∉ s.arb.waiting := (hwait n).not.mpr (by simp [State.statesBut])
    have heq : Machine.enterTestWait n s = applyGrants ((enter n .testWait s).modArb fun _ =>
        { s.arb with waiting := s.arb.waiting ++ [n] }) := by
      simp [Machine.enterTestWait, joinTestList, State.modArb, enter, State.modSec, hout]
    have hjoin : ({ s.arb with waiting := s.arb.waiting ++ [n] } : Arbiter).Agrees
        ((enter n .testWait s).statesBut none) :=
      hagrees.join (fun m hm => by simp [State.statesBut, hm, Ne.symm hm])
        (by simp [State.statesBut, SecState.onTest]) (by simp [State.statesBut])
    rw [heq]
    have hhalted : (applyGrants ((enter n .testWait s).modArb fun _ =>
        { s.arb with waiting := s.arb.waiting ++ [n] })).halted = false := by
      obtain ⟨secs, arb, hrest, -⟩ := hgranted
      rw [← heq, hrest]
      exact hh
    exact ⟨grantLoop_agrees hjoin, fun _ => ⟨applyGrants_grantsOk hh, fun h => absurd (hhalted.symm.trans h) nofun⟩⟩
  | resting => exact hkeeps rfl fun h => absurd (hh.symm.trans h) nofun
  | _ => exact hkeeps rfl h

end Sys2Proof.Machine
end

section
/-!
The Capture Buffers, the serving rule and power reports, and the loop's choice of its next exchange keep the rules
(R36 to R41, R121 to R126, R146 to R161).
-/

namespace Sys2Proof.Machine

variable {r : Rule} {s t : State} {n : Sec}

/-! ### Capture Buffers (R36 to R41) -/

theorem captureFreeze_keeps (n : Sec) (s : State) : Keeps r s (captureFreeze n s) :=
  (modCap_keeps n (fun b => { b with state := .frozen }) fun _ ⟨hlen, _, hset, hcount⟩ =>
    ⟨hlen, nofun, hset, hcount⟩).trans queueNotice_keeps

/-- An entry is written: the buffer takes it, and may have its watermark disarmed (R42). -/
theorem captureAppend_caps (n : Sec) (e : CaptureEntry) (s : State) : ∃ armed : Capture → Bool,
    (captureAppend n e s).caps = updateAt s.caps n fun b => { b with entries := b.entries ++ [e], armed := armed b } := by
  unfold captureAppend
  dsimp only
  split
  · exact ⟨fun _ => false, by simp [State.modCap, queueNotice, State.modNotices, updateAt]⟩
  · exact ⟨Capture.armed, rfl⟩

theorem captureAppend_keeps (n : Sec) (e : CaptureEntry)
    (h : r = .captures → s.caps[n].entries.length < 64 ∧ s.caps[n].state ≠ .filling) : Keeps r s (captureAppend n e s) := by
  unfold captureAppend
  have happend : Keeps r s (s.modCap n fun b => { b with entries := b.entries ++ [e] }) :=
    modCap_keeps n _ fun hr ⟨_, _, hset, hcount⟩ =>
      ⟨by simpa using (h hr).1, fun hf => absurd hf (h hr).2, hset, hcount⟩
  refine happend.trans (.ite (fun _ => ?_) fun _ => .refl _)
  exact queueNotice_keeps.trans (modCap_keeps n _ fun _ => id)

theorem captureRing_keeps (n : Sec) (e : CaptureEntry) (h : r = .captures → s.caps[n].state ≠ .filling) :
    Keeps r s (captureRing n e s) := by
  unfold captureRing
  dsimp only
  split
  next oldest rest hentries =>
    refine .ite (fun hlt => captureAppend_keeps n e fun hr => ⟨hlt, h hr⟩) fun _ => ?_
    refine .trans (modCap_keeps n _ ?_) (.ite (fun _ => .refl _) fun _ => queueNotice_keeps)
    rintro hr ⟨hlen, -, hset, hcount⟩
    rw [hentries] at hlen
    exact ⟨by simpa using hlen, fun hf => absurd hf (h hr), hset, hcount⟩
  next hentries => exact captureAppend_keeps n e fun hr => ⟨by rw [hentries]; exact Nat.zero_lt_succ _, h hr⟩

/-- An entry that fills a buffer in FILLING makes it FULL (R38). -/
theorem captureFill_keeps (e : CaptureEntry) (h : s.caps[n].state = .filling) : Keeps r s
    (if (captureAppend n e s).caps[n].entries.length ≥ 64
      then (captureAppend n e s).modCap n fun b => { b with state := .full } else captureAppend n e s) := by
  by_cases hr : r = .captures
  · subst hr
    intro hs
    obtain ⟨armed, hcaps⟩ := captureAppend_caps n e s
    obtain ⟨-, hlt, hset, hcount⟩ := hs n
    have hother : ∀ m : Sec, m ≠ n → ((captureAppend n e s).caps[m]).RangeOk := fun m hm => by
      rw [hcaps, updateAt_other _ hm]; exact hs m
    have hself : (captureAppend n e s).caps[n] =
        { s.caps[n] with entries := s.caps[n].entries ++ [e], armed := armed s.caps[n] } := by rw [hcaps, updateAt_same]
    have hlen : (captureAppend n e s).caps[n].entries.length ≤ 64 := by rw [hself]; simpa using hlt h
    split
    · intro m
      by_cases hm : m = n
      · subst hm
        simp only [State.modCap_caps, updateAt_same]
        exact ⟨hlen, nofun, by rw [hself]; exact hset, by rw [hself]; exact hcount⟩
      · simpa [hm] using hother m hm
    next hge =>
      intro m
      by_cases hm : m = n
      · subst hm; exact ⟨hlen, fun _ => not_le.mp hge, by rw [hself]; exact hset, by rw [hself]; exact hcount⟩
      · exact hother m hm
  · have happend : Keeps r s (captureAppend n e s) := captureAppend_keeps n e fun h => absurd h hr
    exact .ite (fun _ => happend.trans (modCap_keeps n _ fun h => absurd h hr)) fun _ => happend

theorem captureCandidate_keeps (n : Sec) (e : CaptureEntry) (s : State) : Keeps r s (captureCandidate n e s) := by
  have hring (h : s.caps[n].state ≠ .filling) : Keeps r s (captureRing n e s) := captureRing_keeps n e fun _ => h
  unfold captureCandidate
  split
  next h => exact .refl s
  next h => exact .refl s
  next h => exact .refl s
  next h => exact captureFill_keeps e h
  next h => exact hring (by rw [h]; nofun)
  next h => exact hring (by rw [h]; nofun)
  next h =>
    refine (hring (by rw [h]; nofun)).trans
      (.trans (modCap_keeps n (fun b => { b with remainder := b.remainder - 1 }) fun _ => id) ?_)
    exact .ite (fun _ => captureFreeze_keeps _ _) fun _ => .refl _
  next h => exact .ite (fun _ => hring (by rw [h]; nofun)) fun _ => .refl s

theorem captureEntry_keeps (n : Sec) (e : CaptureEntry) (s : State) : Keeps r s (captureEntry n e s) := by
  unfold captureEntry
  refine .ite (fun _ => .refl s) fun _ => .trans (modCap_keeps n _ ?_) (.ite (fun _ => captureCandidate_keeps _ _ _) fun _ => .refl _)
  exact fun _ ⟨hlen, hfill, hset, _⟩ => ⟨hlen, hfill, hset, Nat.mod_lt _ hset⟩

theorem captureTrigger_keeps (n : Sec) (c : Cause) (s : State) : Keeps r s (captureTrigger n c s) := by
  unfold captureTrigger
  refine .ite (fun _ => .trans (modCap_keeps n _ ?_) (.ite (fun _ => captureFreeze_keeps _ _) fun _ => .refl _)) fun _ => .refl s
  exact fun _ ⟨hlen, _, hset, hcount⟩ => ⟨hlen, nofun, hset, hcount⟩

theorem Capture.restarted_rangeOk {gateOf : Gen → Bool} {c : CaptureSetting} {b : Capture} (h : 1 ≤ c.decimation) :
    (b.restarted gateOf c).RangeOk := ⟨Nat.zero_le _, fun _ => Nat.zero_lt_succ _, h, h⟩

theorem tellGate_keeps (g : Gen) (isOpen : Bool) (s : State) : Keeps r s (tellGate g isOpen s) :=
  mapCaps_keeps _ (fun b hb => by split <;> exact hb) s

theorem captureRestart_keeps (s : State) : Keeps r s (captureRestart s) :=
  mapCaps_keeps _ (fun _ ⟨_, _, hset, _⟩ => Capture.restarted_rangeOk hset) s

/-! ### Switch points: the parts of a record that the rules speak of, the serving rule and power reports -/

/-- The part of a switch point's record that the rules speak of. -/
def SwitchPoint.core (w : SwitchPoint) : SwitchPoint :=
  { position := w.position, poles := w.poles, feeding := w.feeding, power := w.power, queue := w.queue
    occupant := w.occupant, lock := w.lock }

theorem Rule.KeepsSw.of_core {a b : SwitchPoint} (h : b.core = a.core) : r.KeepsSw a b := by
  have hcore : r.KeepsSw a.core b.core := by rw [h]; exact .refl _
  cases r <;> exact hcore

theorem modSw_core_keeps (k : Sw) (f : SwitchPoint → SwitchPoint) (h : (f s.sws[k]).core = s.sws[k].core) :
    Keeps r s (s.modSw k f) :=
  modSw_keeps k f (.of_core h)

/-- A drive may be made where no pole is under the frog and its feeding section is known to be POWERED. -/
theorem SwitchPoint.startDrive_keepsSw {w : SwitchPoint} (d : Direction)
    (h : w.poles = 0 ∧ w.feeding.isSome = true ∧ w.power = true) : r.KeepsSw w (w.startDrive d) := by
  cases r with
  | frogs => exact ⟨fun ⟨hpoles, _⟩ => ⟨hpoles, fun _ => h⟩, rfl, rfl⟩
  | queues => exact id
  | locks => exact ⟨rfl, Iff.rfl⟩
  | _ => trivial

theorem SwitchPoint.cancelDrive_keepsSw (w : SwitchPoint) : r.KeepsSw w w.cancelDrive := by
  cases r with
  | frogs => exact ⟨fun ⟨hpoles, _⟩ => ⟨hpoles, nofun⟩, rfl, rfl⟩
  | queues => exact id
  | locks => exact ⟨rfl, Iff.rfl⟩
  | _ => trivial

theorem SwitchPoint.mayServe_drivable {halted : Bool} {w : SwitchPoint} (h : w.mayServe halted = true) :
    w.poles = 0 ∧ w.feeding.isSome = true ∧ w.power = true := by
  simp only [SwitchPoint.mayServe, Bool.and_eq_true, beq_iff_eq] at h
  obtain ⟨⟨⟨⟨⟨⟨⟨-, hpoles⟩, -⟩, hfeed⟩, hpower⟩, -⟩, -⟩, -⟩ := h
  exact ⟨hpoles, hfeed, hpower⟩

theorem SwitchPoint.serve_keepsSw (halted : Bool) (w : SwitchPoint) : r.KeepsSw w (w.serve halted) := by
  unfold SwitchPoint.serve
  split
  · exact .refl w
  · split
    next h => exact startDrive_keepsSw _ (mayServe_drivable (Bool.and_eq_true_iff.mp h).1)
    next => exact .refl w

theorem pinnedMismatch_keeps (k : Sw) (before : Option QueueEntry) (pin : Bool) (s : State) :
    Keeps r s (pinnedMismatch k before pin s) := by
  unfold pinnedMismatch
  dsimp only
  split
  · exact .refl s
  · exact .ite (fun _ => queueNotice_keeps) fun _ => .refl s

/-- An event of a switch point keeps a rule that its effect keeps. -/
theorem swEvent_keeps (k : Sw) (pin : Bool) {f : State → State} (h : Keeps r s (f s)) : Keeps r s (swEvent k pin f s) :=
  h.trans ((modSw_keeps k _ (SwitchPoint.serve_keepsSw _ _)).trans (pinnedMismatch_keeps _ _ _ _))

/-- A power report that agrees with a frog's record, or that finds it moving and stops it. -/
theorem SwitchPoint.frogOk_reported {halted powered : Bool} {w : SwitchPoint} (h : w.FrogOk) :
    ((w.takePower powered).serve halted).FrogOk ∧ ((w.takePower powered).serve halted).feeding = w.feeding ∧
    ((w.takePower powered).serve halted).power = powered := by
  obtain ⟨hpoles, hmoving⟩ := h
  have htaken : (w.takePower powered).FrogOk ∧ (w.takePower powered).feeding = w.feeding ∧
      (w.takePower powered).power = powered := by
    unfold SwitchPoint.takePower
    dsimp only
    split
    · exact ⟨⟨hpoles, nofun⟩, rfl, rfl⟩
    next hstay =>
      refine ⟨⟨hpoles, fun hm => ?_⟩, rfl, rfl⟩
      obtain ⟨hzero, hfeed, -⟩ := hmoving hm
      exact ⟨hzero, hfeed, by simpa [show w.position = .moving from hm] using hstay⟩
  obtain ⟨hfrog, hfeed, hpower⟩ := htaken
  obtain ⟨hserve, hsf, hsp⟩ : Rule.frogs.KeepsSw (w.takePower powered) ((w.takePower powered).serve halted) :=
    SwitchPoint.serve_keepsSw halted _
  exact ⟨hserve hfrog, hsf.trans hfeed, hsp.trans hpower⟩

theorem SwitchPoint.takePower_keepsSw (powered : Bool) (w : SwitchPoint) (hr : r ≠ .frogs) :
    r.KeepsSw w (w.takePower powered) := by
  unfold SwitchPoint.takePower
  dsimp only
  cases r with
  | frogs => exact absurd rfl hr
  | queues => split <;> exact id
  | locks => split <;> exact ⟨rfl, Iff.rfl⟩
  | _ => trivial

theorem reportPower_keeps (n : Sec) (powered : Bool) (s : State) (hr : r ≠ .frogs) :
    Keeps r s (reportPower n powered s) := by
  have hreport (k : Sw) (s : State) : Keeps r s (swPower powered k s) :=
    swEvent_keeps k false (modSw_keeps k _ (SwitchPoint.takePower_keepsSw _ _ hr))
  have hcopy (t : State) : Keeps r t (t.modVt fun v => { v with power := v.power.set n powered }) := by
    cases r with
    | frogs => exact absurd rfl hr
    | _ => exact id
  unfold reportPower
  exact (keeps_forEach _ (fun k s => .ite (fun _ => hreport k s) fun _ => .refl s) s).trans (hcopy _)

/-- `t` is `s` but for records that hold no power copy and for the state of section `n`. -/
def Unreported (n : Sec) (s t : State) : Prop :=
  t.sws = s.sws ∧ t.vt.power = s.vt.power ∧ ∀ m : Sec, m ≠ n → t.secs[m].state.powered = s.secs[m].state.powered

theorem State.reported_frogsOk (h : FrogsOk s) (hun : Unreported n s t) :
    FrogsOk (t.reported n t.secs[n].state.powered) := by
  obtain ⟨⟨hvt, hsw⟩, hfrog⟩ := h
  obtain ⟨hsws, hpower, hother⟩ := hun
  have hmap : (t.reported n t.secs[n].state.powered).sws = t.sws.map fun w =>
      if w.feeding = some n then (w.takePower t.secs[n].state.powered).serve t.halted else w := by
    simp only [State.reported, SwitchPoint.serve_takePower]
  refine ⟨⟨fun m => ?_, fun k m => ?_⟩, fun k => ?_⟩
  · by_cases hm : m = n
    · subst hm; simp [State.reported]
    · rw [show (t.reported n t.secs[n].state.powered).vt.power = t.vt.power.set n t.secs[n].state.powered from rfl,
        set_get, if_neg hm, hpower]
      exact (hvt m).trans (hother m hm).symm
  · rw [hmap]
    simp only [Fin.getElem_fin, Vector.getElem_map]
    split
    next hk =>
      obtain ⟨-, hfeed, hp⟩ := SwitchPoint.frogOk_reported (halted := t.halted) (powered := t.secs[n].state.powered)
        (hsws ▸ hfrog k : t.sws[k].FrogOk)
      intro hm
      obtain rfl : n = m := by simpa using hk.symm.trans (hfeed.symm.trans hm)
      exact hp
    next hk =>
      intro hm
      have hne : m ≠ n := by rintro rfl; exact hk hm
      rw [hsws] at hm ⊢
      exact (hsw k m hm).trans (hother m hne).symm
  · rw [hmap]
    simp only [Fin.getElem_fin, Vector.getElem_map]
    have hk : t.sws[k].FrogOk := hsws ▸ hfrog k
    split
    · exact (SwitchPoint.frogOk_reported hk).1
    · exact hk

/-- A section's change of power is reported, whatever the event has done to the section meanwhile (R61). -/
theorem reportChange_holds (hs : r = .frogs → FrogsOk s ∧ Unreported n s t) (ht : r ≠ .frogs → r.Holds t) :
    r.Holds (reportChange n s.secs[n].state t) := by
  unfold reportChange
  by_cases hr : r = .frogs
  · subst hr
    obtain ⟨hfrogs, hun⟩ := hs rfl
    split
    next hsame =>
      obtain ⟨⟨hvt, hsw⟩, hfrog⟩ := hfrogs
      obtain ⟨hsws, hpower, hother⟩ := hun
      have hall : ∀ m : Sec, t.secs[m].state.powered = s.secs[m].state.powered := fun m => by
        by_cases hm : m = n
        · subst hm; exact hsame.symm
        · exact hother m hm
      refine ⟨⟨fun m => by rw [hpower, hall]; exact hvt m, fun k m hk => ?_⟩, fun k => hsws ▸ hfrog k⟩
      rw [hsws] at hk ⊢
      rw [hall]
      exact hsw k m hk
    next => rw [reportPower_eq]; exact State.reported_frogsOk hfrogs hun
  · exact Keeps.ite (fun _ => .refl t) (fun _ => reportPower_keeps n _ t hr) (ht hr)

/-! ### The loop's next exchange (R146 to R149, R158 to R161) -/

theorem markCarried_keeps (a : Sta) (c : LoopCommand) (s : State) : Keeps r s (markCarried a c s) := by
  unfold markCarried
  split
  · exact modSw_core_keeps _ _ rfl
  all_goals exact .refl s

theorem beginExchange_keeps (a : Sta) (c : LoopCommand) (s : State) : Keeps r s (beginExchange a c s) :=
  modLoop_keeps _ fun _ => rfl

theorem beginPoll_keeps (a : Sta) (s : State) : Keeps r s (beginPoll a s) :=
  (modLoop_keeps _ fun _ => rfl).trans ((markCarried_keeps _ _ _).trans (beginExchange_keeps _ _ _))

theorem tryExchange_keeps (s : State) : Keeps r s (tryExchange s).1 := by
  unfold tryExchange
  split
  · exact beginPoll_keeps _ s
  · split
    · exact .refl s
    · split
      · exact (modLoop_keeps _ fun _ => rfl).trans (beginExchange_keeps _ _ _)
      · exact modLoop_keeps _ fun _ => rfl

theorem newCycle_keeps (s : State) : Keeps r s (newCycle s) := by
  have htry : Keeps r s (tryExchange (s.modLoop Loop.startCycle)).1 :=
    (modLoop_keeps _ fun _ => rfl).trans (tryExchange_keeps _)
  unfold newCycle
  split
  next heq => rwa [heq] at htry
  next heq => rw [heq] at htry; exact htry.trans (modLoop_keeps _ fun _ => rfl)

theorem endCycle_keeps (s : State) : Keeps r s (endCycle s) := by
  unfold endCycle
  refine .ite (fun _ => .trans (.ite (fun _ => .refl s) fun _ => ?_) (newCycle_keeps _)) fun _ => modLoop_keeps _ fun _ => rfl
  exact (modLoop_keeps (fun l => { l with overrun := true }) fun _ => rfl).trans queueNotice_keeps

theorem nextExchange_keeps (s : State) : Keeps r s (nextExchange s) := by
  have htry : Keeps r s (tryExchange s).1 := tryExchange_keeps s
  unfold nextExchange
  split
  next heq => rwa [heq] at htry
  next heq => rw [heq] at htry; exact htry.trans (endCycle_keeps _)

theorem dropExchange_keeps (s : State) : Keeps r s (dropExchange s) := modLoop_keeps _ fun _ => rfl

theorem abortAndContinue_keeps (s : State) : Keeps r s (abortAndContinue s) := by
  unfold abortAndContinue
  split
  · exact .refl s
  · exact (dropExchange_keeps s).trans (nextExchange_keeps _)

theorem resetCycle_keeps (s : State) : Keeps r s (resetCycle s) :=
  (dropExchange_keeps s).trans ((modLoop_keeps _ fun _ => rfl).trans (newCycle_keeps _))

theorem holdDrives_keeps (s : State) : Keeps r s (holdDrives s) := by
  have hhold : Keeps r s (s.modLoop fun l => { l with holding := true }) := modLoop_keeps _ fun _ => rfl
  unfold holdDrives
  dsimp only
  split
  · exact hhold.trans (abortAndContinue_keeps _)
  · exact hhold

end Sys2Proof.Machine
end

section
/-!
The Section Controller's operations keep the rules (R46 to R74): entries, holds, trips, readings that move the breaker,
breaker failure, the halt and its end.
-/

namespace Sys2Proof.Machine

variable {r : Rule} {s t : State} {n : Sec}

/-! ### Entries with their notices and timers (R53, R58, R62) -/

/-- What touches neither the arbiter's record, nor the halt, nor the state of another section. -/
theorem Rule.HoldsBut.mono (h : r.HoldsBut n s) (hkeeps : Keeps r s t) (harb : t.arb = s.arb) (hhalted : t.halted = s.halted)
    (hst : ∀ m : Sec, m ≠ n → t.secs[m].state = s.secs[m].state) : r.HoldsBut n t := by
  cases r with
  | tests grants =>
    have hbut : t.statesBut (some n) = s.statesBut (some n) := funext fun m => by
      by_cases hm : m = n
      · simp [State.statesBut, hm]
      · rw [State.statesBut, State.statesBut, hst m hm]
    simp only [Rule.HoldsBut, hbut, harb, hhalted, GrantsOk]
    exact h
  | resting p => exact fun hh m hm hseq => by rw [hst m hm] at hseq ⊢; exact h (hhalted ▸ hh) m hm hseq
  | _ => exact hkeeps h

theorem Rule.HoldsBut.modSec (h : r.HoldsBut n s) (f : Section → Section) (hf : (f s.secs[n]).core = s.secs[n].core) :
    r.HoldsBut n (s.modSec n f) :=
  h.mono (modSec_core_keeps n f hf) rfl rfl fun m hm => by simp [hm]

theorem Rule.HoldsBut.queueNotice (h : r.HoldsBut n s) (kind : NoticeKind) (p : Nat) (src : Source) (ws : List Half) :
    r.HoldsBut n (Machine.queueNotice kind p src ws s) :=
  h.mono queueNotice_keeps rfl rfl fun _ _ => rfl

/-- The section is in no state that bus trip or halt rests on, and takes no power with it as it goes. -/
def SecState.leaves (st : SecState) : Bool := !st.powered && decide (st ≠ .breakerFail)

theorem SecState.leaves_iff {st : SecState} : st.leaves = true ↔ st.powered = false ∧ st ≠ .breakerFail := by
  simp [SecState.leaves]

/-- An entry into a state in which the attempt count is free. -/
theorem Rule.HoldsBut.entered_of_leaves (h : r.HoldsBut n s) {st : SecState} (hleaves : s.secs[n].state.leaves = true)
    (hst : st.onTest = false ∧ st.inSequence = false ∧ st.powered = false ∧ st ≠ .reclaim) : r.Holds (enter n st s) := by
  obtain ⟨hpower, hfail⟩ := SecState.leaves_iff.mp hleaves
  obtain ⟨htest, hseq, hp, hreclaim⟩ := hst
  refine h.entered htest (fun _ _ => hseq) (fun _ => .inl hfail) (fun _ => hp.trans hpower.symm) fun _ _ => ?_
  constructor
  · rintro - (rfl | rfl) <;> cases hseq
  · rintro (rfl | rfl | rfl | rfl)
    · cases hseq
    · cases hseq
    · exact absurd rfl hreclaim
    · cases hseq

theorem Rule.HoldsBut.enterLockout (h : r.HoldsBut n s) (hleaves : s.secs[n].state.leaves = true) (why : LockoutReason) :
    r.Holds (enterLockout n why s) :=
  queueNotice_keeps (h.entered_of_leaves hleaves (by decide))

theorem enterLockout_keeps (hleaves : s.secs[n].state.leaves = true) (htest : s.secs[n].state.onTest = false)
    (why : LockoutReason) : Keeps r s (enterLockout n why s) :=
  fun h => (Rule.Holds.but h htest).enterLockout hleaves why

theorem Rule.HoldsBut.enterDead (h : r.HoldsBut n s) (hleaves : s.secs[n].state.leaves = true) (hh : r.aboutRest = true → s.halted = false)
    (hcount : r = .attempts → s.secs[n].attempt < s.secs[n].limit) (k : Nat) : r.Holds (enterDead n k s) := by
  obtain ⟨hpower, hfail⟩ := SecState.leaves_iff.mp hleaves
  refine modSec_core_keeps n _ ?_ (h.entered (st := .deadTime) rfl ?_ (fun _ => .inl hfail) (fun _ => hpower.symm) ?_)
  · rfl
  · exact fun hr h => absurd ((hh hr).symm.trans h) nofun
  · exact fun hr _ => ⟨fun _ _ => hcount hr, by simp⟩

theorem Rule.HoldsBut.enterHeld (h : r.HoldsBut n s) (hleaves : s.secs[n].state.leaves = true) (hh : r.aboutRest = true → s.halted = false)
    (hcount : r = .attempts → 1 ≤ s.secs[n].attempt) : r.Holds (enterHeld n s) := by
  obtain ⟨hpower, hfail⟩ := SecState.leaves_iff.mp hleaves
  refine modSec_core_keeps n _ ?_ (h.entered (st := .held) rfl ?_ (fun _ => .inl hfail) (fun _ => hpower.symm) ?_)
  · rfl
  · exact fun hr h => absurd ((hh hr).symm.trans h) nofun
  · exact fun hr _ => ⟨by simp, fun _ => hcount hr⟩

/-! ### What the shared operations leave as it is -/

/-- The trigger changes the Capture Buffers and may queue a notice. -/
theorem captureTrigger_frame (n : Sec) (c : Cause) (s : State) :
    ∃ caps notices, captureTrigger n c s = { s with caps, notices } := by
  unfold captureTrigger
  dsimp only
  split
  · split
    · exact ⟨_, _, rfl⟩
    · exact ⟨_, _, rfl⟩
  · exact ⟨_, _, rfl⟩

@[simp] theorem reportPower_secs (powered : Bool) : (reportPower n powered s).secs = s.secs := by
  rw [reportPower_eq]; rfl

@[simp] theorem reportPower_halted (powered : Bool) : (reportPower n powered s).halted = s.halted := by
  rw [reportPower_eq]; rfl

@[simp] theorem reportChange_secs (was : SecState) : (reportChange n was s).secs = s.secs := by
  unfold reportChange; split <;> simp

@[simp] theorem reportChange_halted (was : SecState) : (reportChange n was s).halted = s.halted := by
  unfold reportChange; split <;> simp

/-- Changes of section `n` alone leave the power copies and the other sections as they stood. -/
theorem Unreported.of_secs (hsws : t.sws = s.sws) (hvt : t.vt = s.vt)
    (hsecs : ∀ m : Sec, m ≠ n → t.secs[m].state = s.secs[m].state) : Unreported n s t :=
  ⟨hsws, by rw [hvt], fun m hm => by rw [hsecs m hm]⟩

/-! ### Trips (R49 to R52) -/

theorem Section.nextDead_eq_some {a : Section} {k : Nat} : a.nextDead = some k ↔
    a.manual = false ∧ a.attempt < a.limit ∧ k = a.attempt + 1 := by
  unfold Section.nextDead
  cases a.manual <;> simp [eq_comm]

theorem Section.afterTrip_dead {halted : Bool} {a : Section} {tr : TripRecord} {k : Nat}
    (h : a.afterTrip halted tr = .dead k) : halted = false ∧ a.nextDead = some k := by
  unfold Section.afterTrip at h
  cases halted with
  | true => cases h
  | false =>
    refine ⟨rfl, ?_⟩
    simp only [Bool.false_eq_true, if_false] at h
    repeat' split at h
    all_goals simp_all

theorem leaveTripping_keeps (hst : s.secs[n].state = .tripping) : Keeps r s (leaveTripping n s) := by
  intro h
  unfold leaveTripping
  dsimp only
  split
  next => exact h
  next tr _ =>
    have hbut : r.HoldsBut n (s.modSec n fun a => { a with record := some { tr with openingTime := some s.secs[n].trippingMs } }) :=
      (Rule.Holds.but h (by rw [hst]; rfl)).modSec _ rfl
    have hstate (kind : NoticeKind) (p : Nat) (ws : List Half) :
        (queueNotice kind p (.sec n) ws (s.modSec n fun a =>
          { a with record := some { tr with openingTime := some s.secs[n].trippingMs } })).secs[n].state = .tripping := by
      simpa using hst
    split
    next => exact (hbut.queueNotice ..).entered_of_leaves (by rw [hstate]; rfl) (by decide)
    next => exact (hbut.queueNotice ..).enterLockout (by rw [hstate]; rfl) _
    next k hnext =>
      obtain ⟨hh, hdead⟩ := Section.afterTrip_dead hnext
      obtain ⟨-, hlt, -⟩ := Section.nextDead_eq_some.mp hdead
      exact (hbut.queueNotice ..).enterDead (by rw [hstate]; rfl) (fun _ => hh) (fun _ => by simpa using hlt) k

@[simp] theorem beginTripping_state (c : Cause) (o : Origin) (v : TripValues) (s : State) :
    (beginTripping n c o v s).secs[n].state = .tripping := by
  obtain ⟨caps, notices, heq⟩ := captureTrigger_frame n c (enter n .tripping (s.modSec n fun a =>
    { a with record := some (newRecord n c o v s) }))
  rw [beginTripping, show (newRecord n c o v s).principal = c from rfl, heq]
  simp

/-- A section enters TRIPPING from a state that no bus trip rests on; a change of power is yet to be reported. -/
theorem Rule.HoldsBut.beginTripping (h : r.HoldsBut n s) (hfail : s.secs[n].state ≠ .breakerFail)
    (hpower : r = .frogs → s.secs[n].state.powered = false) (c : Cause) (o : Origin) (v : TripValues) :
    r.Holds (beginTripping n c o v s) := by
  refine captureTrigger_keeps n _ _ ((h.modSec _ ?_).entered (st := .tripping) rfl (fun _ _ => rfl) ?_ ?_ ?_)
  · rfl
  · exact fun _ => .inl (by simpa using hfail)
  · exact fun hr => by rw [State.modSec_secs, updateAt_same]; exact (hpower hr).symm
  · exact fun _ _ => ⟨by simp, by simp⟩

theorem beginTripping_unreported (c : Cause) (o : Origin) (v : TripValues) (s : State) :
    Unreported n s (beginTripping n c o v s) := by
  obtain ⟨caps, notices, heq⟩ := captureTrigger_frame n c (enter n .tripping (s.modSec n fun a =>
    { a with record := some (newRecord n c o v s) }))
  rw [Machine.beginTripping, show (newRecord n c o v s).principal = c from rfl, heq]
  exact .of_secs rfl rfl fun m hm => by simp [hm]

/-- A change of the attempt count and what belongs to it alone. -/
theorem Rule.KeepsSec.of_counted {halted : Bool} {a b : Section} (hcount : r = .attempts → a.AttemptOk → b.AttemptOk)
    (hrest : { b.core with attempt := a.attempt, limit := a.limit, manual := a.manual } = a.core) :
    r.KeepsSec halted a b := by
  have hcore : r.KeepsSec halted a.core { b.core with attempt := a.attempt, limit := a.limit, manual := a.manual } := by
    rw [hrest]; exact .refl halted _
  cases r with
  | attempts => exact hcount rfl
  | _ => exact hcore

theorem Section.newSequence_keepsSec (halted : Bool) {a : Section} (ha : a.state = .closed) :
    r.KeepsSec halted a a.newSequence := by
  refine .of_counted (fun _ ⟨hset, _⟩ => ?_) rfl
  exact ⟨hset, hset, Nat.zero_le _, fun h => (nomatch h), by simp [Section.newSequence, ha], by simp [Section.newSequence, ha]⟩

/-- In CLOSED there is no sequence, and the attempt count is 0 (R60, R69, R74). -/
theorem Section.cleared_keepsSec (halted : Bool) {a : Section} (ha : a.state = .closed) :
    r.KeepsSec halted a { a with attempt := 0, manual := false } := by
  refine .of_counted (fun _ ⟨hset, hlimit, _⟩ => ?_) rfl
  exact ⟨hset, hlimit, Nat.zero_le _, fun h => (nomatch h), by simp [ha], by simp [ha]⟩

/-- A trip starts and may leave TRIPPING at once. -/
theorem Rule.HoldsBut.startTrip {o : Origin} (h : r.HoldsBut n s) (hfail : s.secs[n].state ≠ .breakerFail)
    (ho : o = .closed → s.secs[n].state = .closed) (c : Cause) (v : TripValues) : r.Holds (startTrip n c o v s) := by
  have hnew : r.HoldsBut n (if o = .closed then s.modSec n Section.newSequence else s) := by
    split
    next hc => exact h.mono (modSec_keeps n _ (Section.newSequence_keepsSec _ (ho hc))) rfl rfl fun m hm => by simp [hm]
    next => exact h
  have hstate : (if o = .closed then s.modSec n Section.newSequence else s).secs[n].state = s.secs[n].state := by
    split <;> simp [Section.newSequence]
  have hreported : r.Holds (reportChange n s.secs[n].state
      (Machine.beginTripping n c o v (if o = .closed then s.modSec n Section.newSequence else s))) := by
    rw [← hstate]
    refine reportChange_holds (fun hr => ?_) fun hr => hnew.beginTripping (hstate ▸ hfail) (absurd · hr) c o v
    subst hr
    exact ⟨hnew, beginTripping_unreported c o v _⟩
  unfold Machine.startTrip
  exact Keeps.ite (fun _ => leaveTripping_keeps (by rw [reportChange_secs]; exact beginTripping_state ..)) (fun _ => .refl _) hreported

/-- The states in which a trip request starts a trip (R49). -/
def SecState.trippable (st : SecState) : Bool := decide (st = .closed) || decide (st = .reclaim) || decide (st = .closing)

theorem Rule.HoldsBut.tripRequest (h : r.HoldsBut n s) (hst : s.secs[n].state.trippable = true) (c : Cause) (v : TripValues) :
    r.Holds (tripRequest n c v s) := by
  unfold Machine.tripRequest
  split
  next hs => exact h.startTrip (by rw [hs]; nofun) (fun _ => hs) c v
  next hs => exact h.startTrip (o := .reclaim) (by rw [hs]; nofun) nofun c v
  next hs => exact h.startTrip (o := .closing) (by rw [hs]; nofun) nofun c v
  all_goals
    next hs => rw [hs] at hst; cases hst

theorem tripRequest_keeps (n : Sec) (c : Cause) (v : TripValues) (s : State) : Keeps r s (tripRequest n c v s) := by
  have hstart (hst : s.secs[n].state.trippable = true) (ht : s.secs[n].state.onTest = false) :
      Keeps r s (tripRequest n c v s) := fun h => (Rule.Holds.but h ht).tripRequest hst c v
  cases hs : s.secs[n].state with
  | closed => exact hstart (by rw [hs]; rfl) (by rw [hs]; rfl)
  | reclaim => exact hstart (by rw [hs]; rfl) (by rw [hs]; rfl)
  | closing => exact hstart (by rw [hs]; rfl) (by rw [hs]; rfl)
  | tripping => unfold tripRequest; rw [hs]; exact modSec_core_keeps n _ rfl
  | _ => unfold tripRequest; rw [hs]; exact .refl s

/-! ### Readings (R47, R59, R69) -/

theorem Rule.HoldsBut.reclosed (h : r.HoldsBut n s) (hst : s.secs[n].state = .closing)
    (hcount : r = .attempts → 1 ≤ s.secs[n].attempt) : r.Holds (reclosed n s) := by
  refine queueNotice_keeps ?_
  rw [← hst]
  refine reportChange_holds (fun hr => ?_) fun hr => h.entered (st := .reclaim) rfl (fun _ _ => rfl) ?_ (absurd · hr) ?_
  · subst hr; exact ⟨h, .of_secs rfl rfl fun m hm => by rw [enter_secs, updateAt_other _ hm]⟩
  · exact fun _ => .inl (by rw [hst]; nofun)
  · exact fun hr _ => ⟨by simp, fun _ => hcount hr⟩

theorem reclosed_keeps (hst : s.secs[n].state = .closing) : Keeps r s (reclosed n s) := fun h =>
  (Rule.Holds.but h (by rw [hst]; rfl)).reclosed hst fun hr => by
    subst hr
    obtain ⟨-, -, -, -, -, hpos⟩ := h n
    exact hpos (.inr (.inl hst))

/-- Entry into CLOSING, out of a halt (R58). -/
theorem Rule.HoldsBut.enterClosing (h : r.HoldsBut n s) (hleaves : s.secs[n].state.leaves = true) (hh : r.aboutRest = true → s.halted = false)
    (hcount : r = .attempts → 1 ≤ s.secs[n].attempt) : r.Holds (enterClosing n s) := by
  obtain ⟨hpower, hfail⟩ := SecState.leaves_iff.mp hleaves
  have hclosing : r.Holds (enter n .closing s) :=
    h.entered rfl (fun hr h => absurd ((hh hr).symm.trans h) nofun) (fun _ => .inl hfail) (fun _ => hpower.symm)
      fun hr _ => ⟨by simp, fun _ => hcount hr⟩
  exact Keeps.ite (fun _ => reclosed_keeps (by simp)) (fun _ => .refl _) hclosing

theorem localClose_keeps (hst : s.secs[n].state.openLike = true) : Keeps r s (localClose n s) := by
  intro h
  have hqueued : r.Holds (queueLocalClose n s) := queueNotice_keeps h
  have hsame : (queueLocalClose n s).secs = s.secs := rfl
  have htest : s.secs[n].state.onTest = false := by revert hst; cases s.secs[n].state <;> decide
  have hfail : s.secs[n].state ≠ .breakerFail := fun hb => by rw [hb] at hst; cases hst
  have hbut : r.HoldsBut n (queueLocalClose n s) := hqueued.but htest
  unfold localClose
  dsimp only
  rw [← hsame]
  refine reportChange_holds (fun hr => ?_) fun hr => ?_
  · subst hr
    exact ⟨hqueued, .of_secs rfl rfl fun m hm => by
      rw [State.modSec_secs, updateAt_other _ hm, enter_secs, updateAt_other _ hm]⟩
  · have hclosed : r.Holds (enter n .closed (queueLocalClose n s)) :=
      hbut.entered rfl (fun _ _ => rfl) (fun _ => .inl hfail) (absurd · hr) fun _ _ => ⟨by simp, by simp⟩
    exact modSec_keeps n _ (Section.cleared_keepsSec _ (by simp)) hclosed

/-- A section that leaves TEST_WAIT or LINE_TEST has its own record as it was. -/
theorem abandonTest_self (n : Sec) (s : State) : (abandonTest n s).secs[n] = s.secs[n] := by
  unfold abandonTest
  split
  · rfl
  next hs =>
    obtain ⟨secs, arb, heq, hsecs⟩ := releaseCircuit_granted n s
    rw [heq]
    exact (hsecs n).elim id fun ⟨_, hw, _⟩ => by rw [hs] at hw; cases hw
  all_goals rfl

theorem abandonTest_halted (n : Sec) (s : State) : (abandonTest n s).halted = s.halted := by
  obtain ⟨secs, arb, heq, -⟩ := abandonTest_granted n s
  rw [heq]

theorem closeInSequence_keeps (hleaves : s.secs[n].state.leaves = true) : Keeps r s (closeInSequence n s) := by
  intro h
  have hqueued : r.Holds (queueLocalClose n s) := queueNotice_keeps h
  have hself : (abandonTest n (queueLocalClose n s)).secs[n].state.leaves = true := by
    rw [abandonTest_self]; exact hleaves
  obtain ⟨hpower, hfail⟩ := SecState.leaves_iff.mp hself
  exact (abandonTest_but hqueued).beginTripping hfail (fun _ => hpower) ..

theorem onClosed_keeps (n : Sec) (s : State) : Keeps r s (onClosed n s) := by
  have hlocal (hst : s.secs[n].state.openLike = true) :
      Keeps r s (if (s.halted || !s.secs[n].tripLine) = true then localClose n s else s) :=
    .ite (fun _ => localClose_keeps hst) fun _ => .refl s
  unfold onClosed
  dsimp only
  split
  next hs => exact reclosed_keeps hs
  next hs => exact hlocal (by rw [hs]; rfl)
  next hs => exact hlocal (by rw [hs]; rfl)
  next hs => exact hlocal (by rw [hs]; rfl)
  next hs => exact closeInSequence_keeps (by rw [hs]; rfl)
  next hs => exact closeInSequence_keeps (by rw [hs]; rfl)
  next hs => exact closeInSequence_keeps (by rw [hs]; rfl)
  next hs => exact closeInSequence_keeps (by rw [hs]; rfl)
  all_goals exact .refl s

/-- A change of the lines and of opening supervision alone. -/
theorem Rule.KeepsSec.of_lines {halted : Bool} {a b : Section} (hlines : r = .lines → a.LinesOk halted → b.LinesOk halted)
    (hrest : { b.core with
      opening := a.opening, tripLine := a.tripLine, closeLine := a.closeLine, testLine := a.testLine } = a.core) :
    r.KeepsSec halted a b := by
  have hcore : r.KeepsSec halted a.core { b.core with
      opening := a.opening, tripLine := a.tripLine, closeLine := a.closeLine, testLine := a.testLine } := by
    rw [hrest]; exact .refl halted _
  cases r with
  | lines => exact hlines rfl
  | _ => exact hcore

theorem releaseTrip_keeps (hst : s.secs[n].state.openLike = true) : Keeps r s (releaseTrip n s) := by
  refine modSec_keeps n _ (.of_lines (fun _ ⟨hclose, htest, _⟩ => ⟨hclose, htest, id, fun hh => ⟨fun _ => hh, ?_, ?_⟩⟩) rfl)
  · rintro (h | h | h | h | h | h)
    all_goals
      rw [show s.secs[n].state = _ from h] at hst
      cases hst
  · exact fun ⟨_, h⟩ => absurd (hh.symm.trans h) nofun

theorem onOpened_keeps (n : Sec) (s : State) : Keeps r s (onOpened n s) := by
  unfold onOpened
  split
  next hs => exact leaveTripping_keeps hs
  next hs => exact tripRequest_keeps _ _ _ s
  next hs => exact tripRequest_keeps _ _ _ s
  next hs => exact releaseTrip_keeps (by rw [hs]; rfl)
  next hs => exact releaseTrip_keeps (by rw [hs]; rfl)
  next hs => exact releaseTrip_keeps (by rw [hs]; rfl)
  all_goals exact .refl s

theorem takeReading_keeps (n : Sec) (f : Feedback) (s : State) : Keeps r s (takeReading n f s) := by
  unfold takeReading
  refine .trans (modSec_core_keeps n (fun a => { a with
    feedback := f, asClosed := false, discrepancy := if f = .discrepant then some 200 else none }) rfl) ?_
  cases f with
  | opened => exact onOpened_keeps n _
  | closed => exact onClosed_keeps n _
  | travel => exact .refl _
  | discrepant => exact .refl _

/-! ### Breaker failure and the halt (R70, R72) -/

theorem lockoutAbandoned_keeps (hleaves : s.secs[n].state.leaves = true) (why : LockoutReason) :
    Keeps r s (enterLockout n why (abandonTest n s)) :=
  fun h => (abandonTest_but h).enterLockout (by rw [abandonTest_self]; exact hleaves) why

theorem busCascade_keeps (n : Sec) (s : State) : Keeps r s (busCascade n s) := by
  have htrip : Keeps r s (tripRequest n .bus (ownValues n s) s) := tripRequest_keeps _ _ _ s
  unfold busCascade
  split
  next => exact htrip
  next => exact htrip
  next => exact htrip
  next => exact htrip
  next hs => exact lockoutAbandoned_keeps (by rw [hs]; rfl) _
  next hs => exact lockoutAbandoned_keeps (by rw [hs]; rfl) _
  next hs => exact lockoutAbandoned_keeps (by rw [hs]; rfl) _
  next hs => exact lockoutAbandoned_keeps (by rw [hs]; rfl) _
  all_goals exact .refl s

theorem haltTrip_keeps (n : Sec) (s : State) : Keeps r s (haltTrip n s) := by
  have htrip : Keeps r s (tripRequest n .bus (ownValues n s) s) := tripRequest_keeps _ _ _ s
  unfold haltTrip
  split
  next => exact htrip
  next => exact htrip
  next => exact htrip
  next => exact htrip
  all_goals exact .refl s

theorem haltLockout_keeps (n : Sec) (s : State) : Keeps r s (haltLockout n s) := by
  unfold haltLockout
  split
  next hs => exact lockoutAbandoned_keeps (by rw [hs]; rfl) _
  next hs => exact lockoutAbandoned_keeps (by rw [hs]; rfl) _
  next hs => exact lockoutAbandoned_keeps (by rw [hs]; rfl) _
  next hs => exact lockoutAbandoned_keeps (by rw [hs]; rfl) _
  all_goals exact .refl s

/-! A halt ends every sequence: its two rounds over the sections clear CLOSING, then the other states -/

/-- The states that the first round clears. -/
def SecState.isClosing (st : SecState) : Bool := decide (st = .closing)

/-- The sections and states of `p`, and section `n` in the states of `q`. -/
def withSection (p : Sec → SecState → Bool) (n : Sec) (q : SecState → Bool) (m : Sec) (st : SecState) : Bool :=
  p m st || decide (m = n) && q st

theorem resting_withSection {p : Sec → SecState → Bool} {q : SecState → Bool} (h : (Rule.resting p).Holds s)
    (hq : s.secs[n].state.inSequence = false ∨ q s.secs[n].state = false) : (Rule.resting (withSection p n q)).Holds s := by
  intro hh m hseq
  simp only [withSection, h hh m hseq, Bool.false_or, Bool.and_eq_false_iff, decide_eq_false_iff_not]
  by_cases hm : m = n
  · subst hm; exact .inr (hq.resolve_left (by rw [hseq]; nofun))
  · exact .inl hm

theorem resting_but_withSection {p : Sec → SecState → Bool} (h : (Rule.resting p).HoldsBut n s) (q : SecState → Bool) :
    (Rule.resting (withSection p n q)).HoldsBut n s :=
  fun hh m hm hseq => by simpa [withSection, hm] using h hh m hm hseq

theorem haltTrip_resting {p : Sec → SecState → Bool} (h : (Rule.resting p).Holds s) :
    (Rule.resting (withSection p n SecState.isClosing)).Holds (haltTrip n s) := by
  have htrip (hst : s.secs[n].state.trippable = true) (ht : s.secs[n].state.onTest = false) :
      (Rule.resting (withSection p n SecState.isClosing)).Holds (tripRequest n .bus (ownValues n s) s) :=
    (resting_but_withSection (h.but ht) _).tripRequest hst _ _
  cases hs : s.secs[n].state with
  | closed => unfold haltTrip; rw [hs]; exact htrip (by rw [hs]; rfl) (by rw [hs]; rfl)
  | reclaim => unfold haltTrip; rw [hs]; exact htrip (by rw [hs]; rfl) (by rw [hs]; rfl)
  | closing => unfold haltTrip; rw [hs]; exact htrip (by rw [hs]; rfl) (by rw [hs]; rfl)
  | tripping =>
    unfold haltTrip
    rw [hs]
    exact tripRequest_keeps n _ _ s (resting_withSection h (.inl (by rw [hs]; rfl)))
  | _ => unfold haltTrip; rw [hs]; exact resting_withSection h (by rw [hs]; decide)

theorem haltLockout_resting {p : Sec → SecState → Bool} (h : (Rule.resting p).Holds s) :
    (Rule.resting (withSection p n fun st => !st.isClosing)).Holds (haltLockout n s) := by
  have hlock (hst : s.secs[n].state.leaves = true) :
      (Rule.resting (withSection p n fun st => !st.isClosing)).Holds (enterLockout n .halt (abandonTest n s)) :=
    (resting_but_withSection (abandonTest_but h) _).enterLockout (by rw [abandonTest_self]; exact hst) _
  cases hs : s.secs[n].state with
  | deadTime => unfold haltLockout; rw [hs]; exact hlock (by rw [hs]; rfl)
  | testWait => unfold haltLockout; rw [hs]; exact hlock (by rw [hs]; rfl)
  | lineTest => unfold haltLockout; rw [hs]; exact hlock (by rw [hs]; rfl)
  | held => unfold haltLockout; rw [hs]; exact hlock (by rw [hs]; rfl)
  | _ => unfold haltLockout; rw [hs]; exact resting_withSection h (by rw [hs]; decide)

/-- The states of `q` in every section of the list. -/
theorem forEach_resting {q : SecState → Bool} {f : Sec → State → State}
    (hf : ∀ (n : Sec) (p : Sec → SecState → Bool) (s : State), (Rule.resting p).Holds s →
      (Rule.resting (withSection p n q)).Holds (f n s))
    (l : List Sec) {p : Sec → SecState → Bool} (h : (Rule.resting p).Holds s) :
    (Rule.resting fun m st => p m st || decide (m ∈ l) && q st).Holds (forEach l f s) := by
  induction l generalizing s p with
  | nil => simpa using h
  | cons n l ih =>
    rw [forEach_cons]
    have hrest := ih (hf n p s h)
    refine fun hh m hseq => ?_
    have := hrest hh m hseq
    simp only [withSection, Bool.or_eq_false_iff] at this
    obtain ⟨⟨hp, hn⟩, hl⟩ := this
    simp only [List.mem_cons, Bool.decide_or, Bool.and_or_distrib_right, hp, hn, hl, Bool.or_self]

/-- The part is halted, every trip line asserted and the other lines released (R72 step 2). -/
def State.halting (s : State) : State :=
  { s with halted := true, secs := s.secs.map fun a => { a with tripLine := true, closeLine := false, testLine := false } }

theorem halting_keeps (hfail : ∃ n : Sec, s.secs[n].state = .breakerFail) (hr : r ≠ .tests true)
    (hrest : ∀ p, r ≠ .resting p) : Keeps r s s.halting := by
  intro h
  have hget (m : Sec) : s.halting.secs[m] = { s.secs[m] with tripLine := true, closeLine := false, testLine := false } := by
    simp [State.halting]
  cases r with
  | lines =>
    intro m
    rw [hget]
    exact ⟨⟨nofun, fun ⟨_, hh⟩ => nomatch hh⟩, ⟨nofun, fun ⟨_, hh⟩ => nomatch hh⟩, fun _ => rfl, fun hh => nomatch hh⟩
  | failure => exact fun _ => hfail.imp fun m hm => by rw [hget]; exact hm
  | tests grants =>
    cases grants with
    | true => exact absurd rfl hr
    | false => exact ⟨by rw [State.statesBut_congr (s := s) fun m => by rw [hget]]; exact h.1, nofun⟩
  | resting p => exact absurd rfl (hrest p)
  | frogs =>
    obtain ⟨⟨hvt, hsw⟩, hfrog⟩ := h
    exact ⟨⟨fun m => by rw [hget]; exact hvt m, fun k m hk => by rw [hget]; exact hsw k m hk⟩, hfrog⟩
  | attempts => exact fun m => by rw [hget]; exact h m
  | facts => exact fun m hm => by rw [hget]; exact h m hm
  | locks => exact fun m hm => by rw [hget]; exact h m hm
  | timers => exact fun m => by rw [hget]; exact h m
  | _ => exact h

theorem beginTripping_halted (c : Cause) (o : Origin) (v : TripValues) (s : State) :
    (beginTripping n c o v s).halted = s.halted := by
  obtain ⟨caps, notices, heq⟩ := captureTrigger_frame n c (enter n .tripping (s.modSec n fun a =>
    { a with record := some (newRecord n c o v s) }))
  rw [beginTripping, show (newRecord n c o v s).principal = c from rfl, heq]
  rfl

theorem leaveTripping_halted (n : Sec) (s : State) : (leaveTripping n s).halted = s.halted := by
  unfold leaveTripping
  dsimp only
  split
  · rfl
  · split <;> rfl

theorem startTrip_halted (c : Cause) (o : Origin) (v : TripValues) : (startTrip n c o v s).halted = s.halted := by
  have hnew : (if o = .closed then s.modSec n Section.newSequence else s).halted = s.halted := by split <;> rfl
  have hreported : (reportChange n s.secs[n].state (beginTripping n c o v
      (if o = .closed then s.modSec n Section.newSequence else s))).halted = s.halted := by
    rw [reportChange_halted, beginTripping_halted, hnew]
  unfold startTrip
  rw [← hreported]
  exact (apply_ite State.halted ..).trans (ite_eq_right_iff.mpr fun _ => leaveTripping_halted ..)

theorem tripRequest_halted (c : Cause) (v : TripValues) : (tripRequest n c v s).halted = s.halted := by
  unfold tripRequest
  split
  · exact startTrip_halted ..
  · exact startTrip_halted ..
  · exact startTrip_halted ..
  all_goals rfl

theorem haltTrip_halted (n : Sec) (s : State) : (haltTrip n s).halted = s.halted := by
  unfold haltTrip
  split
  · exact tripRequest_halted ..
  · exact tripRequest_halted ..
  · exact tripRequest_halted ..
  · exact tripRequest_halted ..
  all_goals rfl

theorem haltLockout_halted (n : Sec) (s : State) : (haltLockout n s).halted = s.halted := by
  unfold haltLockout
  split
  · exact abandonTest_halted n s
  · exact abandonTest_halted n s
  · exact abandonTest_halted n s
  · exact abandonTest_halted n s
  all_goals rfl

/-- The sections' part of an entry into HALT (R72 steps 1 to 4). -/
def State.haltedSections (n : Sec) (s : State) : State :=
  forEach s.order haltLockout (forEach s.order haltTrip
    (queueNotice .halt 7 (.sec n) [word (if s.busTrip then 0 else 1)] s).halting)

theorem enterHalt_eq (n : Sec) (s : State) : enterHalt n s = holdDrives (s.haltedSections n) := rfl

theorem haltedSections_halted (n : Sec) (s : State) : (s.haltedSections n).halted = true :=
  forEach_keeps (P := fun t => t.halted = true) _ (fun m _ t ht => (haltLockout_halted m t).trans ht) _
    (forEach_keeps (P := fun t => t.halted = true) _ (fun m _ t ht => (haltTrip_halted m t).trans ht) _ rfl)

theorem haltedSections_inSequence (n m : Sec) (s : State) : (s.haltedSections n).secs[m].state.inSequence = false := by
  have hnone : (Rule.resting fun _ _ => false).Holds
      (queueNotice .halt 7 (.sec n) [word (if s.busTrip then 0 else 1)] s).halting := fun _ _ _ => rfl
  have hall := forEach_resting (fun _ _ _ => haltLockout_resting) s.order
    (forEach_resting (fun _ _ _ => haltTrip_resting) s.order hnone)
  have hm := hall (haltedSections_halted n s) m
  change (s.haltedSections n).secs[m].state.inSequence = true → _ at hm
  by_contra hseq
  have hnot := hm (by simpa using hseq)
  simp only [s.mem_order m, decide_true, Bool.true_and, Bool.false_or, Bool.or_not_self] at hnot
  cases hnot

theorem enterHalt_keeps (n : Sec) (hfail : ∃ m : Sec, s.secs[m].state = .breakerFail) : Keeps r s (enterHalt n s) := by
  have hsections : Keeps r s (s.haltedSections n) := by
    have hkeeps {r : Rule} (hr : r ≠ .tests true) (hrest : ∀ p, r ≠ .resting p) : Keeps r s (s.haltedSections n) :=
      .trans queueNotice_keeps (.trans (halting_keeps hfail hr hrest)
        (.trans (keeps_forEach _ haltTrip_keeps _) (keeps_forEach _ haltLockout_keeps _)))
    cases r with
    | resting p => exact fun _ _ m hseq => absurd ((haltedSections_inSequence n m s).symm.trans hseq) nofun
    | tests grants =>
      intro h
      obtain ⟨hagrees, -⟩ := hkeeps (r := .tests false) nofun nofun ⟨h.1, nofun⟩
      obtain ⟨-, -, hwait, -⟩ := id hagrees
      have hempty : (s.haltedSections n).arb.waiting = [] := List.eq_nil_iff_forall_not_mem.mpr fun m hm => by
        have hst : (s.haltedSections n).secs[m].state = .testWait := (hwait m).mp hm
        have hseq := haltedSections_inSequence n m s
        rw [hst] at hseq
        cases hseq
      exact ⟨hagrees, fun _ => ⟨.inl hempty, fun _ => hempty⟩⟩
    | _ => exact hkeeps nofun nofun
  exact hsections.trans (holdDrives_keeps _)

theorem busTripAction_keeps (n : Sec) (hfail : ∃ m : Sec, s.secs[m].state = .breakerFail) :
    Keeps r s (busTripAction n s) := by
  have hbus : Keeps r s { s with busTrip := true } := by
    cases r with
    | failure => exact fun _ _ => hfail
    | _ => exact id
  exact hbus.trans (keeps_forEach _ busCascade_keeps _)

theorem breakerFails_keeps (hpower : s.secs[n].state.powered = false) (htest : s.secs[n].state.onTest = false) :
    Keeps r s (breakerFails n s) := by
  intro h
  have hentered : r.Holds (enter n .breakerFail s) :=
    (Rule.Holds.but h htest).entered rfl (fun _ _ => rfl) (fun _ => .inr rfl) (fun _ => hpower.symm)
      fun _ _ => ⟨by simp, by simp⟩
  have hqueued (ws : List Half) : r.Holds (queueNotice .breakerFail 7 (.sec n) ws (enter n .breakerFail s)) :=
    queueNotice_keeps hentered
  have hfail (ws : List Half) : ∃ m : Sec,
      (queueNotice .breakerFail 7 (.sec n) ws (enter n .breakerFail s)).secs[m].state = .breakerFail :=
    ⟨n, by rw [queueNotice_secs, enter_secs, updateAt_same]; rfl⟩
  exact Keeps.ite (fun _ => enterHalt_keeps n (hfail _)) (fun _ => busTripAction_keeps n (hfail _)) (hqueued _)

/-! ### Expiries of the section timers -/

theorem feedbackChanged_keeps (n : Sec) (c : Contacts) (s : State) : Keeps r s (feedbackChanged n c s) :=
  .ite (fun _ => .refl s) fun _ => takeReading_keeps _ _ _

theorem discrepancyExpired_keeps (n : Sec) (s : State) : Keeps r s (discrepancyExpired n s) := by
  refine .ite (fun _ => ?_) fun _ => .refl s
  refine .trans (modSec_core_keeps n (fun a => { a with discrepancy := none, asClosed := true }) rfl) ?_
  exact queueNotice_keeps.trans (onClosed_keeps n _)

theorem openingExpired_keeps (n : Sec) (s : State) : Keeps r s (openingExpired n s) := by
  refine .ite (fun h => ?_) fun _ => .refl s
  have hst : s.secs[n].state.powered = false ∧ s.secs[n].state.onTest = false := by
    revert h
    cases s.secs[n].state <;> simp [SecState.openLike, SecState.powered, SecState.onTest]
  exact (breakerFails_keeps hst.1 hst.2).trans (drawn_keeps _)

theorem timerRuns_iff {timer : Timer} : timerRuns s timer = true ↔ s.halted = false ∧ timer.isSome = true := by
  simp [timerRuns]

/-- DEAD_TIME is left for TEST_WAIT, the attempt count below the limit (R53, R56). -/
theorem deadTime_enterTestWait_keeps (hst : s.secs[n].state = .deadTime) (hh : s.halted = false) :
    Keeps r s (enterTestWait n s) := fun h => by
  refine (Rule.Holds.but h (by rw [hst]; rfl)).enterTestWait hh ?_ ?_ ?_
  · exact fun _ => by rw [hst]; nofun
  · exact fun _ => by rw [hst]; rfl
  · exact fun _ ⟨_, _, _, _, hwait, _⟩ => ⟨fun hm _ => hwait hm (.inl hst), by simp⟩

theorem deadExpired_keeps (n : Sec) (s : State) : Keeps r s (deadExpired n s) := by
  refine .ite (fun h => ?_) fun _ => .refl s
  simp only [Bool.and_eq_true, decide_eq_true_eq, timerRuns_iff] at h
  obtain ⟨⟨hh, -⟩, hst⟩ := h
  refine .trans (modSec_core_keeps n (fun a =>
    { a with deadTimer := none, holds := { a.holds with noSupply := false } }) rfl) ?_
  refine .ite (fun _ => deadTime_enterTestWait_keeps ?_ hh) fun _ => ?_
  · rw [State.modSec_secs, updateAt_same]; exact hst
  · exact .trans (modSec_core_keeps n _ rfl) queueNotice_keeps

theorem holdLimitExpired_keeps (n : Sec) (s : State) : Keeps r s (holdLimitExpired n s) := by
  refine .ite (fun h => ?_) fun _ => .refl s
  have hst : s.secs[n].state = .deadTime ∨ s.secs[n].state = .held := by
    simp only [Bool.and_eq_true, Bool.or_eq_true, decide_eq_true_eq] at h
    exact h.2.imp And.left id
  refine queueNotice_keeps.trans (enterLockout_keeps ?_ ?_ _)
  · rw [queueNotice_secs]; obtain hs | hs := hst <;> rw [hs] <;> rfl
  · rw [queueNotice_secs]; obtain hs | hs := hst <;> rw [hs] <;> rfl

theorem closeExpired_keeps (n : Sec) (s : State) : Keeps r s (closeExpired n s) := by
  refine .ite (fun h => ?_) fun _ => .refl s
  simp only [Bool.and_eq_true, decide_eq_true_eq] at h
  refine queueNotice_keeps.trans (enterLockout_keeps ?_ ?_ _)
  · rw [queueNotice_secs, h.2]; rfl
  · rw [queueNotice_secs, h.2]; rfl

theorem reclaimExpired_keeps (n : Sec) (s : State) : Keeps r s (reclaimExpired n s) := by
  refine .ite (fun h => ?_) fun _ => .refl s
  simp only [Bool.and_eq_true, decide_eq_true_eq] at h
  obtain ⟨-, hst⟩ := h
  intro hs
  have hclosed : r.Holds (enter n .closed s) := by
    refine (Rule.Holds.but hs (by rw [hst]; rfl)).entered rfl (fun _ _ => rfl) ?_ ?_ fun _ _ => ⟨by simp, by simp⟩
    · exact fun _ => .inl (by rw [hst]; nofun)
    · exact fun _ => by rw [hst]; rfl
  exact modSec_keeps n _ (Section.cleared_keepsSec _ (by simp)) hclosed

end Sys2Proof.Machine
end

section
/-!
The holds, the section and line test requests, and the Section Controllers' part of a RESTART keep the rules (R48 to R90).
-/

namespace Sys2Proof.Machine

variable {r : Rule} {s t : State} {n : Sec}

/-! ### Holds (R54 to R56) -/

theorem holdsOk_iff : HoldsOk s ↔
    (Rule.facts fun _ => true).Holds s ∧ (Rule.locks fun _ => true).Holds s ∧ Rule.timers.Holds s := by
  constructor
  · intro h
    refine ⟨fun n _ => ?_, fun n _ => ?_, fun n => ?_⟩
    all_goals obtain ⟨hleak, hdewired, hlock, htimer⟩ := h n
    · exact ⟨hleak, hdewired⟩
    · exact hlock
    · exact htimer
  · rintro ⟨hfacts, hlocks, htimers⟩ n
    obtain ⟨hleak, hdewired⟩ := hfacts n rfl
    exact ⟨hleak, hdewired, hlocks n rfl, htimers n⟩

theorem holdsChanged_keeps (n : Sec) (s : State) : Keeps r s (holdsChanged n s) := by
  refine .ite (fun h => ?_) fun _ => .refl s
  simp only [Bool.and_eq_true, Bool.not_eq_true', decide_eq_true_eq] at h
  obtain ⟨⟨⟨hh, hst⟩, -⟩, -⟩ := h
  exact deadTime_enterTestWait_keeps hst hh

theorem setHolds_holds {f : Holds → Holds} (h : r.Holds (s.modSec n fun a => { a with holds := f a.holds })) :
    r.Holds (setHolds n f s) := holdsChanged_keeps n _ h

theorem setHolds_keeps (n : Sec) (f : Holds → Holds)
    (h : r.KeepsSec s.halted s.secs[n] { s.secs[n] with holds := f s.secs[n].holds }) : Keeps r s (setHolds n f s) :=
  fun hs => setHolds_holds (modSec_keeps n _ h hs)

/-- A change of the hold set alone, of no hold that the rule speaks of. -/
theorem Rule.KeepsSec.of_holds {halted : Bool} {a : Section} {holds : Machine.Holds}
    (hfacts : ∀ p, r = .facts p → holds.leak = a.holds.leak ∧ holds.dewired = a.holds.dewired)
    (hlocks : ∀ p, r = .locks p → holds.switchLock = a.holds.switchLock)
    (htimers : r = .timers → holds.timer = a.holds.timer) : r.KeepsSec halted a { a with holds } := by
  have hrest : r.KeepsSec halted a a := .refl halted a
  cases r with
  | facts p => exact ⟨(hfacts p rfl).1, (hfacts p rfl).2, rfl⟩
  | locks p => exact hlocks p rfl
  | timers => exact ⟨htimers rfl, rfl⟩
  | _ => exact hrest

theorem reportFacts_keeps (n : Sec) (hr : ∀ p, r ≠ .facts p) : Keeps r s (reportFacts n s) :=
  setHolds_keeps n _ (.of_holds (fun p h => absurd h (hr p)) (fun _ _ => rfl) fun _ => rfl)

/-- A report makes the section's own fault holds right. -/
theorem reportFacts_facts {p : Sec → Bool} (h : (Rule.facts fun m => p m && decide (m ≠ n)).Holds s) :
    (Rule.facts p).Holds (reportFacts n s) := by
  refine setHolds_holds fun m hm => ?_
  by_cases hmn : m = n
  · subst hmn
    rw [State.modSec_secs, updateAt_same]
    exact ⟨by rw [Bool.and_eq_true, decide_eq_true_eq]; rfl, decide_eq_true_iff⟩
  · rw [State.modSec_secs, updateAt_other _ hmn]
    exact h m (by simp [hm, hmn])

theorem reportFacts_holds (hr : (∀ p, r ≠ .facts p) → r.Holds s)
    (hfacts : ∀ p, r = .facts p → (Rule.facts fun m => p m && decide (m ≠ n)).Holds s) : r.Holds (reportFacts n s) := by
  cases r with
  | facts p => exact reportFacts_facts (hfacts p rfl)
  | _ => exact reportFacts_keeps n nofun (hr nofun)

theorem State.switchLocked_iff {s : State} : s.switchLocked n = true ↔ ∃ k : Sw, s.sws[k].feeding = some n ∧ s.sws[k].lock = .dewired := by
  simp only [State.switchLocked, List.any_eq_true, Vector.mem_toList_iff, Vector.mem_iff_getElem, Bool.and_eq_true,
    decide_eq_true_eq]
  constructor
  · rintro ⟨w, ⟨i, hi, rfl⟩, h⟩; exact ⟨⟨i, hi⟩, h⟩
  · rintro ⟨k, h⟩; exact ⟨_, ⟨k.val, k.isLt, rfl⟩, h⟩

theorem reportLock_keeps (n : Sec) (hr : ∀ p, r ≠ .locks p) : Keeps r s (reportLock n s) :=
  setHolds_keeps n _ (.of_holds (fun _ _ => ⟨rfl, rfl⟩) (fun p h => absurd h (hr p)) fun _ => rfl)

/-- A report makes the section's own hold SWITCH_LOCK right. -/
theorem reportLock_locks {p : Sec → Bool} (h : (Rule.locks fun m => p m && decide (m ≠ n)).Holds s) :
    (Rule.locks p).Holds (reportLock n s) := by
  refine setHolds_holds fun m hm => ?_
  by_cases hmn : m = n
  · subst hmn
    rw [State.modSec_secs, updateAt_same]
    exact State.switchLocked_iff
  · rw [State.modSec_secs, updateAt_other _ hmn]
    exact h m (by simp [hm, hmn])

/-- The hold timer and the hold TIMER set together (R55). -/
theorem setHoldTimer_keeps (n : Sec) (x : Timer) (s : State) :
    Keeps r s (setHolds n (fun h => { h with timer := x.isSome }) (s.modSec n fun a => { a with holdTimer := x })) := by
  refine fun hs => setHolds_holds ?_
  have htwice : (s.modSec n fun a => { a with holdTimer := x }).modSec n
      (fun a => { a with holds := { a.holds with timer := x.isSome } }) =
      s.modSec n fun a => { a with holdTimer := x, holds := { a.holds with timer := x.isSome } } := by
    simp [State.modSec, updateAt]
  rw [htwice]
  have hrest : r.KeepsSec s.halted s.secs[n] s.secs[n] := .refl _ _
  cases r with
  | timers =>
    intro m
    by_cases hm : m = n
    · subst hm; simp
    · simpa [hm] using hs m
  | _ => exact modSec_keeps n _ hrest hs

theorem holdTimerExpired_keeps (n : Sec) (s : State) : Keeps r s (holdTimerExpired n s) :=
  .ite (fun _ => setHoldTimer_keeps n none s) fun _ => .refl s

/-! ### A request at its block -/

theorem naming_keeps {m : Nat} (p : List Byte) (owner : Fin m → State → Answer)
    (h : ∀ i, Keeps r s (owner i s).state) : Keeps r s (naming m p owner s).state := by
  unfold naming
  split
  · exact .refl s
  · exact h _

/-- A request keeps a rule that its block keeps, in a halt too where it is answered in one. -/
theorem takeRequest_keeps (kind : Byte) (sizeOk duringHalt : Bool) (owner : State → Answer)
    (h : ∀ t : State, t.halted = s.halted → t.secs = s.secs → (t.halted = true → duringHalt = true) →
      Keeps r t (owner t).state) : Keeps r s (takeRequest kind sizeOk duringHalt owner s) := by
  have hhunting : Keeps r s (s.modLink Link.toHunting) := modLink_keeps _ s
  have hreply (status : Status) (fields : List ReplyField) (t : State) : Keeps r t (reply kind status fields t) :=
    modLink_keeps _ t
  unfold takeRequest
  refine hhunting.trans (.ite (fun _ => .refl _) fun _ => .ite (fun _ => hreply _ _ _) fun _ => .ite (fun _ => hreply _ _ _)
    fun _ => .ite (fun _ => hreply _ _ _) fun hrefused => ?_)
  refine .trans (h _ rfl rfl fun hh => ?_) (hreply _ _ _)
  simpa [show s.halted = true from hh] using hrefused

/-! ### Settings and section requests (R48, R63 to R71) -/

theorem parseSettings_tests {p : List Byte} {c : SectionSettings} (h : parseSettings p = some c) : c.tests ≤ 3 := by
  unfold parseSettings at h
  split at h
  · cases h
  · obtain rfl := Option.some.inj h
    simp only [clamp_eq]
    omega

theorem setSection_keeps (p : List Byte) (s : State) : Keeps r s (setSection p s).state := by
  refine naming_keeps p _ fun n => ?_
  dsimp only
  split
  · exact .refl s
  next c hc =>
    intro h
    refine reportFacts_holds (fun hr => ?_) fun q hr => ?_
    · refine modSec_keeps n _ ?_ h
      have hrest : r.KeepsSec s.halted s.secs[n] s.secs[n] := .refl _ _
      cases r with
      | attempts => exact fun ⟨_, hcount⟩ => ⟨parseSettings_tests hc, hcount⟩
      | facts q => exact absurd rfl (hr q)
      | _ => exact hrest
    · subst hr
      intro m hm
      simp only [Bool.and_eq_true, decide_eq_true_eq] at hm
      rw [State.modSec_secs, updateAt_other _ hm.2]
      exact h m hm.1

theorem setBackupTrip_keeps (p : List Byte) (s : State) : Keeps r s (setBackupTrip p s).state := by
  unfold setBackupTrip
  split
  · exact .refl s
  · exact backup_keeps _ s

theorem Section.manualSequence_keepsSec (halted : Bool) (a : Section) :
    r.KeepsSec halted a a.manualSequence := by
  refine .of_counted (fun _ ⟨hset, _⟩ => ?_) rfl
  exact ⟨hset, max_le hset (by decide), le_rfl, fun _ => ⟨rfl, le_max_right _ _⟩, nofun, fun _ => le_max_right _ _⟩

theorem closeSection_keeps (p : List Byte) (hh : s.halted = false) : Keeps r s (closeSection p s).state := by
  refine naming_keeps p _ fun n => ?_
  dsimp only
  split
  next hst =>
    split
    · intro h
      have hstate : (s.modSec n Section.manualSequence).secs[n].state = .opened := by
        rw [State.modSec_secs, updateAt_same]; exact hst.1
      have hmanual : r.Holds (s.modSec n Section.manualSequence) :=
        modSec_keeps n _ (Section.manualSequence_keepsSec _ _) h
      refine (hmanual.but (by rw [hstate]; rfl)).enterTestWait hh ?_ ?_ ?_
      · exact fun _ => by rw [hstate]; nofun
      · exact fun _ => by rw [hstate]; rfl
      · exact fun _ _ => ⟨fun hm => by simp [Section.manualSequence] at hm, by simp⟩
    · exact .refl s
  · exact .refl s

theorem openSection_keeps (p : List Byte) (s : State) : Keeps r s (openSection p s).state := by
  refine naming_keeps p _ fun n => ?_
  have htrip : Keeps r s (tripRequest n .manual (ownValues n s) s) := tripRequest_keeps _ _ _ s
  have hopen (hst : s.secs[n].state.leaves = true) : Keeps r s (enter n .opened (abandonTest n s)) := fun h =>
    (abandonTest_but h).entered_of_leaves (by rw [abandonTest_self]; exact hst) (by decide)
  split
  next => exact htrip
  next => exact htrip
  next => exact htrip
  next => exact htrip
  next hs => exact hopen (by rw [hs]; rfl)
  next hs => exact hopen (by rw [hs]; rfl)
  next hs => exact hopen (by rw [hs]; rfl)
  next hs => exact hopen (by rw [hs]; rfl)
  all_goals exact .refl s

theorem forceClose_keeps (p : List Byte) (hh : s.halted = false) : Keeps r s (forceClose p s).state := by
  refine naming_keeps p _ fun n => ?_
  dsimp only
  split
  next hst =>
    split
    · exact .refl s
    · intro h
      refine (Rule.Holds.but h (by rw [hst]; rfl)).enterClosing (by rw [hst]; rfl) (fun _ => hh) fun hr => ?_
      subst hr
      obtain ⟨-, -, -, -, -, hpos⟩ := h n
      exact hpos (.inr (.inr (.inr hst)))
  · exact .refl s

/-- No sequence is left in OPEN, LOCKOUT and ISOLATED, whatever the manual flag (R66). -/
theorem moveOpen_keeps {st : SecState} (hfrom : s.secs[n].state.openLike = true) (hto : st.openLike = true) :
    Keeps r s (moveOpen n st s) := by
  intro h
  have hst : s.secs[n].state.leaves = true ∧ s.secs[n].state.onTest = false := by
    revert hfrom; cases s.secs[n].state <;> decide
  have hentered : r.Holds (enter n st s) :=
    (Rule.Holds.but h hst.2).entered_of_leaves hst.1 (by revert hto; cases st <;> decide)
  have hstate : (enter n st s).secs[n].state.openLike = true := by rw [enter_secs, updateAt_same]; exact hto
  refine modSec_keeps n _ (.of_counted (fun _ ⟨hset, hlimit, hle, _, _, hgranted⟩ => ?_) rfl) hentered
  refine ⟨hset, hlimit, hle, nofun, fun _ hw => ?_, hgranted⟩
  obtain hw | hw := hw
  · rw [show (enter n st s).secs[n].state = _ from hw] at hstate; cases hstate
  · rw [show (enter n st s).secs[n].state = _ from hw] at hstate; cases hstate

theorem clearLockout_keeps (p : List Byte) (s : State) : Keeps r s (clearLockout p s).state := by
  refine naming_keeps p _ fun n => ?_
  split
  next hst => exact moveOpen_keeps (by rw [hst]; rfl) rfl
  · exact .refl s

theorem isolate_keeps (p : List Byte) (s : State) : Keeps r s (isolate p s).state := by
  refine naming_keeps p _ fun n => ?_
  split
  next hst => exact moveOpen_keeps (by obtain hst | hst := hst <;> rw [hst] <;> rfl) rfl
  · exact .refl s

theorem deisolate_keeps (p : List Byte) (s : State) : Keeps r s (deisolate p s).state := by
  refine naming_keeps p _ fun n => ?_
  split
  next hst => exact moveOpen_keeps (by rw [hst]; rfl) rfl
  · exact .refl s

theorem intertrip_keeps (p : List Byte) (s : State) : Keeps r s (intertrip p s).state :=
  naming_keeps p _ fun _ => tripRequest_keeps _ _ _ s

theorem holdReclose_keeps (p : List Byte) (s : State) : Keeps r s (holdReclose p s).state :=
  naming_keeps p _ fun n => setHoldTimer_keeps n (some (clamp 1 maxHold (wideAt p 1))) s

theorem extendHold_keeps (p : List Byte) (s : State) : Keeps r s (extendHold p s).state := by
  refine naming_keeps p _ fun n => ?_
  dsimp only
  split
  · exact .refl s
  next left hleft =>
    refine modSec_keeps n _ ?_
    have hrest : r.KeepsSec s.halted s.secs[n] s.secs[n] := .refl _ _
    cases r with
    | timers => exact ⟨rfl, by rw [hleft]; rfl⟩
    | _ => exact hrest

theorem releaseHold_keeps (p : List Byte) (s : State) : Keeps r s (releaseHold p s).state :=
  naming_keeps p _ fun n => setHoldTimer_keeps n none s

theorem State.mem_failed {s : State} {m : Sec} : m ∈ s.failed ↔ s.secs[m].state = .breakerFail := by
  simp [State.failed]

/-- Sections in BREAKER_FAIL enter LOCKOUT one after another. -/
theorem releaseFailed_keeps (hr : r ≠ .failure) {l : List Sec} (hl : l.Nodup)
    (hfail : ∀ m ∈ l, s.secs[m].state = .breakerFail) :
    Keeps r s (forEach l (fun m s => enterLockout m .busRelease s) s) := by
  induction l generalizing s with
  | nil => exact .refl s
  | cons m l ih =>
    obtain ⟨hm, hl⟩ := List.nodup_cons.mp hl
    have hst : s.secs[m].state = .breakerFail := hfail m (by simp)
    rw [forEach_cons]
    refine .trans (fun h => queueNotice_keeps ?_) (ih hl fun k hk => ?_)
    · refine (Rule.Holds.but h (by rw [hst]; rfl)).entered (st := .lockout) rfl (fun _ _ => rfl) (absurd · hr) ?_ ?_
      · exact fun _ => by rw [hst]; rfl
      · exact fun _ _ => ⟨by simp, by simp⟩
    · have hne : k ≠ m := ne_of_mem_of_not_mem hk hm
      have hother : (enterLockout m .busRelease s).secs[k] = s.secs[k] := updateAt_other s.secs hne _
      exact (congrArg Section.state hother).trans (hfail k (by simp [hk]))

theorem releaseBusTrip_keeps (hh : s.halted = false) : Keeps r s (releaseBusTrip s).state := by
  unfold releaseBusTrip
  split
  · exact .refl s
  next n ns hfailed =>
    split
    next =>
      by_cases hr : r = .failure
      · subst hr
        intro h hb
        have hquiet := forEach_keeps (P := fun t : State => t.busTrip = false ∧ t.halted = false)
          (f := fun m s => enterLockout m .busRelease s) (s.order.filter (· ∈ n :: ns)) (fun _ _ _ ht => ht)
          (queueNotice .busTripReleased 3 (.sec n) [word (ns.length + 1)] { s with busTrip := false }) ⟨rfl, hh⟩
        obtain ⟨hbus, hhalt⟩ := hquiet
        exact hb.elim (fun hb => absurd (hbus.symm.trans hb) nofun) fun hb => absurd (hhalt.symm.trans hb) nofun
      · have hbus : Keeps r s { s with busTrip := false } := by
          cases r with
          | failure => exact absurd rfl hr
          | _ => exact id
        refine hbus.trans (.trans queueNotice_keeps (.trans (releaseFailed_keeps hr ?_ fun m hm => ?_) (drawn_keeps _)))
        · exact s.order_nodup.filter _
        · have hmem : m ∈ s.failed := by rw [hfailed]; simpa using (List.mem_filter.mp hm).2
          exact State.mem_failed.mp hmem
    next => exact .refl s

/-! ### Line tests (R58, R76 to R88) -/

theorem modArb_keeps (f : Arbiter → Arbiter) (hr : r.aboutTests = false) (s : State) : Keeps r s (s.modArb f) :=
  (modArb_granted f s).keeps hr

theorem mapContexts_keeps (f : TestContext → TestContext) (hsec : ∀ x, (f x).sec = x.sec) (s : State) :
    Keeps r s (s.modArb fun a => { a with contexts := a.contexts.map (Option.map f) }) := by
  cases r with
  | tests grants =>
    rintro ⟨⟨hcount, hnodup, hwait, hhold, hinj, hctx⟩, hgrants⟩
    refine ⟨⟨hcount, hnodup, hwait, hhold, hinj, fun c => ?_⟩, hgrants⟩
    refine .trans ?_ (hctx c)
    simp [State.modArb, Function.comp_def, hsec]
  | _ => exact modArb_keeps _ rfl s

theorem deliverToLineTest_keeps (f : SampleFrame) (s : State) : Keeps r s (deliverToLineTest f s) :=
  mapContexts_keeps _ (fun x => by unfold TestContext.deliver; split <;> rfl) s

/-- The section's move by its result, its circuit released (R58). -/
def afterResult (n : Sec) (result : TestResult) (s : State) : State :=
  match result with
  | .clear => enterClosing n s
  | .fault =>
    match s.secs[n].nextDead with
    | some k => enterDead n k s
    | none => enterLockout n .testFault s
  | .inconclusive => enterHeld n s
  | .noSupply =>
    enterDead n (if s.secs[n].manual then 1 else s.secs[n].attempt - 1 + 1) (s.modSec n fun a =>
      { a with holds := { a.holds with noSupply := true }, attempt := if a.manual then a.attempt else a.attempt - 1 })

theorem takeResult_of_lineTest (hst : s.secs[n].state = .lineTest) (result : TestResult) :
    takeResult n result s = afterResult n result (releaseCircuit n s) := if_pos hst

theorem afterResult_noSupply_attempts (h : AttemptsOk s) (hst : s.secs[n].state = .lineTest) :
    AttemptsOk (afterResult n .noSupply s) := by
  intro m
  by_cases hm : m = n
  · subst hm
    obtain ⟨hset, hlimit, hle, hmanual, -, hpos⟩ := h m
    have hone := hpos (.inl hst)
    have hself : (afterResult m .noSupply s).secs[m] =
        { Section.entered s.halted .deadTime { s.secs[m] with
            holds := { s.secs[m].holds with noSupply := true }
            attempt := if s.secs[m].manual then s.secs[m].attempt else s.secs[m].attempt - 1 } with
          deadTimer := some (s.secs[m].dead.time (if s.secs[m].manual then 1 else s.secs[m].attempt - 1 + 1)) } := by
      simp only [afterResult, enterDead, State.modSec_secs, State.modSec_halted, enter_secs, updateAt_same]
      rfl
    rw [hself]
    cases hman : s.secs[m].manual with
    | true =>
      obtain ⟨heq, hlim⟩ := hmanual hman
      exact ⟨hset, hlimit, hle, fun _ => ⟨heq, hlim⟩, fun h => absurd (hman.symm.trans h) nofun,
        by simp [Section.entered, Section.withLines]⟩
    | false =>
      refine ⟨hset, hlimit, (Nat.sub_le ..).trans hle, fun h => absurd (hman.symm.trans h) nofun, fun _ _ => ?_,
        by simp [Section.entered, Section.withLines]⟩
      change s.secs[m].attempt - 1 < s.secs[m].limit
      omega
  · simpa [afterResult, enterDead, hm] using h m

theorem Rule.HoldsBut.afterResult (h : r.HoldsBut n s) (hst : s.secs[n].state = .lineTest)
    (hh : r.aboutRest = true → s.halted = false) (result : TestResult) : r.Holds (afterResult n result s) := by
  have hleaves : s.secs[n].state.leaves = true := by rw [hst]; rfl
  have hpos : r = .attempts → 1 ≤ s.secs[n].attempt := fun hr => by
    subst hr
    obtain ⟨-, -, -, -, -, hpos⟩ := h n
    exact hpos (.inl hst)
  cases result with
  | clear => exact h.enterClosing hleaves hh hpos
  | fault =>
    unfold Machine.afterResult
    dsimp only
    split
    next k hdead => exact h.enterDead hleaves hh (fun _ => (Section.nextDead_eq_some.mp hdead).2.1) k
    next => exact h.enterLockout hleaves _
  | inconclusive => exact h.enterHeld hleaves hh hpos
  | noSupply =>
    by_cases hr : r = .attempts
    · subst hr; exact afterResult_noSupply_attempts h hst
    · refine Rule.HoldsBut.enterDead (h.mono (modSec_keeps n _ (.of_counted (absurd · hr) rfl)) rfl rfl fun m hm => ?_)
        ?_ hh (absurd · hr) _
      · simp [hm]
      · simpa using hleaves

/-- Section `n`'s context closes before its result reaches the section, which then frees its circuit. -/
theorem takeResult_holds {c : Circuit} {x : TestContext} (hx : s.arb.contexts[c] = some x) (h : r.Holds s)
    (hrest : ∀ p, r = .resting p → p = fun _ _ => true) (hsec : x.sec = n) (harb : t.arb = { s.arb with contexts := s.arb.contexts.set c none })
    (hhalted : t.halted = s.halted) (hst : ∀ m : Sec, t.secs[m].state = s.secs[m].state) (hkeeps : r.aboutTests = false → r.Holds t)
    (result : TestResult) : r.Holds (takeResult n result t) := by
  by_cases hline : t.secs[n].state = .lineTest
  · rw [takeResult_of_lineTest hline]
    have hself : (releaseCircuit n t).secs[n] = t.secs[n] := by
      have := abandonTest_self n t
      simpa only [abandonTest, hline] using this
    refine Rule.HoldsBut.afterResult ?_ (by rw [hself]; exact hline) (fun hr => ?_) result
    · cases r with
      | tests grants =>
        obtain ⟨hagrees, hgrants⟩ := h
        obtain ⟨-, -, -, -, hinj, hctx⟩ := id hagrees
        have hholder : s.arb.holders[c] = some n := by rw [← hctx c, hx, ← hsec]; rfl
        refine releaseCircuit_but (c := c) (grants := grants) ?_ (fun hg => ?_) ?_
        · rw [harb]; exact Arbiter.circuitOf_of_holder (fun d e => hinj d e n) hholder
        · obtain ⟨hgrant, hempty⟩ := hgrants hg
          exact ⟨by unfold GrantsOk; rw [harb]; exact hgrant, fun hh => by rw [harb]; exact hempty (hhalted ▸ hh)⟩
        · have hclear : t.arb.clear c = s.arb.clear c := by rw [harb]; simp [Arbiter.clear]
          rw [hclear]
          refine hagrees.clear (fun m hm => ?_) hholder (by simp [State.statesBut, SecState.onTest])
          rw [State.statesBut, State.statesBut, if_neg (fun h => hm (Option.some.inj h).symm), hst m]
          simp
      | resting p => exact fun hh m _ => (releaseCircuit_granted n t).keeps rfl (hkeeps rfl) hh m
      | _ => exact (releaseCircuit_granted n t).keeps rfl (hkeeps rfl)
    · cases r with
      | resting p =>
        obtain rfl := hrest p rfl
        obtain ⟨secs, arb, heq, -⟩ := releaseCircuit_granted n t
        have hnot : s.halted ≠ true := fun hh => by
          have := h hh n
          rw [← hst n, hline] at this
          exact absurd (this rfl) nofun
        rw [heq]
        simpa [hhalted] using hnot
      | _ => cases hr
  · rw [takeResult, if_neg hline]
    cases r with
    | tests grants =>
      obtain ⟨-, -, -, hhold, -, hctx⟩ := h.1
      refine absurd ?_ hline
      rw [hst n]
      exact (hhold n).mp ⟨c, by rw [← hctx c, hx, ← hsec]; rfl⟩
    | _ => exact hkeeps rfl

theorem settleExpired_keeps (c : Circuit) (hrest : ∀ p, r = .resting p → p = fun _ _ => true) :
    Keeps r s (settleExpired c s) := by
  intro h
  unfold settleExpired
  split
  · exact h
  next x hx =>
    refine takeResult_holds hx h hrest rfl ?_ ?_ (fun m => ?_) (fun hr => ?_) _
    · rfl
    · rfl
    · by_cases hm : m = x.sec
      · subst hm; simp
      · simp [hm]
    · exact queueNotice_keeps (modSec_core_keeps x.sec (fun a => { a with lastTest := _ }) rfl (modArb_keeps _ hr s h))

theorem setTestCircuits_keeps (p : List Byte) (hh : s.halted = false) : Keeps r s (setTestCircuits p s).state := by
  cases r with
  | tests grants =>
    rintro ⟨⟨-, hrest⟩, -⟩
    have hcount : clamp 1 2 (octetAt p 0) = 1 ∨ clamp 1 2 (octetAt p 0) = 2 := by rw [clamp_eq]; omega
    obtain ⟨secs, arb, heq, -⟩ := applyGrants_granted (s.modArb fun a => { a with count := clamp 1 2 (octetAt p 0) })
    refine ⟨grantLoop_agrees (s := s.modArb fun a => { a with count := clamp 1 2 (octetAt p 0) }) ⟨hcount, hrest⟩,
      fun _ => ⟨applyGrants_grantsOk hh, fun h => ?_⟩⟩
    rw [show (setTestCircuits p s).state.halted = _ from congrArg State.halted heq] at h
    exact absurd (hh.symm.trans h) nofun
  | _ => exact (modArb_keeps _ rfl s).trans ((applyGrants_granted _).keeps rfl)

/-! ### The sections' part of a RESTART (R74) -/

/-- A section's record after a RESTART that leaves a halt. -/
def Section.restarted (halted : Bool) (a : Section) : Section :=
  if a.state = .breakerFail then a
  else if a.feedback = .closed ∨ a.feedback = .discrepant then
    { a.entered halted .closed with attempt := 0, manual := false }
  else a.entered halted .lockout

theorem restartSection_secs (n : Sec) (s : State) :
    (restartSection n s).secs = updateAt s.secs n (Section.restarted s.halted) := by
  unfold restartSection
  dsimp only
  split
  next hst => exact (updateAt_eq_self (by rw [Section.restarted, if_pos hst])).symm
  next hst =>
    split
    next hf =>
      rw [reportChange_secs, State.modSec_secs, enter_secs, updateAt_updateAt]
      exact updateAt_congr (by rw [Section.restarted, if_neg hst, if_pos hf])
    next hf =>
      rw [reportChange_secs, enterLockout, queueNotice_secs, enter_secs]
      exact updateAt_congr (by rw [Section.restarted, if_neg hst, if_neg hf])

theorem restartSection_keeps (n : Sec) (htest : r.aboutTests = true → s.secs[n].state.onTest = false) :
    Keeps r s (restartSection n s) := by
  intro h
  have hbut : r.HoldsBut n s := by
    by_cases hr : r.aboutTests = true
    · exact h.but (htest hr)
    · cases r with
      | tests => exact absurd rfl hr
      | resting => exact fun hh m _ => h hh m
      | _ => exact h
  have hentered (hfail : s.secs[n].state ≠ .breakerFail) (st : SecState)
      (hst : st.onTest = false ∧ st.inSequence = false ∧ st ≠ .reclaim) (hr : r ≠ .frogs) : r.Holds (enter n st s) := by
    obtain ⟨ht, hseq, hreclaim⟩ := hst
    refine hbut.entered ht (fun _ _ => hseq) (fun _ => .inl hfail) (absurd · hr) fun _ _ => ⟨?_, ?_⟩
    · rintro - (rfl | rfl) <;> cases hseq
    · rintro (rfl | rfl | rfl | rfl)
      · cases hseq
      · cases hseq
      · exact absurd rfl hreclaim
      · cases hseq
  unfold restartSection
  refine (Keeps.ite (fun _ => .refl s) fun hfail => .ite (fun _ h => ?_) fun _ h => ?_) h
  · refine reportChange_holds (fun hr => ?_) fun hr => ?_
    · subst hr
      exact ⟨h, .of_secs rfl rfl fun m hm => by rw [State.modSec_secs, updateAt_other _ hm, enter_secs, updateAt_other _ hm]⟩
    · exact modSec_keeps n _ (Section.cleared_keepsSec _ (by simp)) (hentered hfail .closed (by decide) hr)
  · refine reportChange_holds (fun hr => ?_) fun hr => queueNotice_keeps (hentered hfail .lockout (by decide) hr)
    subst hr
    exact ⟨h, .of_secs rfl rfl fun m hm => by rw [enterLockout, queueNotice_secs, enter_secs, updateAt_other _ hm]⟩

theorem restartSection_halted (n : Sec) (s : State) : (restartSection n s).halted = s.halted := by
  unfold restartSection
  dsimp only
  split
  · rfl
  · split
    · rw [reportChange_halted]; rfl
    · rw [reportChange_halted]; rfl

/-- The sections of the list have been restarted, each on its own record. -/
theorem forEach_restartSection_secs {l : List Sec} (hl : l.Nodup) (s : State) (m : Sec) :
    (forEach l restartSection s).secs[m] = if m ∈ l then s.secs[m].restarted s.halted else s.secs[m] := by
  induction l generalizing s with
  | nil => simp
  | cons n l ih =>
    obtain ⟨hn, hl⟩ := List.nodup_cons.mp hl
    rw [forEach_cons, ih hl, restartSection_halted, restartSection_secs]
    by_cases hm : m = n
    · subst hm; rw [if_neg hn, if_pos List.mem_cons_self, updateAt_same]
    · rw [updateAt_other _ hm]; simp [hm]

theorem Section.restarted_linesOk {a : Section} (h : a.LinesOk true) : (a.restarted false).LinesOk false := by
  unfold Section.restarted
  split
  next hst =>
    obtain ⟨hclose, htest, htrip, -⟩ := h
    refine ⟨⟨fun hc => ?_, fun ⟨hc, _⟩ => ?_⟩, ⟨fun ht => ?_, fun ⟨ht, _⟩ => ?_⟩, nofun, fun _ => ⟨?_, fun _ => htrip rfl, ?_⟩⟩
    · exact absurd (hclose.mp hc).2 nofun
    · rw [hst] at hc; cases hc
    · exact absurd (htest.mp ht).2 nofun
    · rw [hst] at ht; cases ht
    · rw [hst]; rintro (h | h | h) <;> cases h
    · rw [hst]; exact fun ⟨ho, _⟩ => nomatch ho
  · split
    · exact a.entered_linesOk false .closed
    · exact a.entered_linesOk false .lockout

theorem Section.restarted_onTest {halted : Bool} {a : Section} : (a.restarted halted).state.onTest = false := by
  unfold Section.restarted
  split
  next hst => rw [hst]; rfl
  · split <;> rfl

theorem sectionsRestart_keeps
    (htests : r.aboutTests = true → s.halted = true → ∀ n : Sec, s.secs[n].state.inSequence = false) :
    Keeps r s (sectionsRestart s) := by
  refine .ite (fun hh => .trans (fun h => ?_) (drawn_keeps _)) fun _ => .refl s
  by_cases hlines : r = .lines
  · subst hlines
    intro m
    have hlinesOk : ∀ n : Sec, s.secs[n].LinesOk true := fun n => hh ▸ h n
    have hsecs := forEach_restartSection_secs s.order_nodup { s with halted := false } m
    rw [if_pos (s.mem_order m)] at hsecs
    rw [hsecs, show (forEach s.order restartSection { s with halted := false }).halted = false from
      forEach_keeps (P := fun t => t.halted = false) _ (fun m _ t ht => (restartSection_halted m t).trans ht) _ rfl]
    exact Section.restarted_linesOk (hlinesOk m)
  · have hrunning : r.Holds { s with halted := false } := by
      cases r with
      | lines => exact absurd rfl hlines
      | tests grants => exact ⟨h.1, fun hg => ⟨(h.2 hg).1, nofun⟩⟩
      | resting p => exact nofun
      | failure => exact fun hb => h (hb.imp id nofun)
      | _ => exact h
    refine (forEach_keeps (P := fun t => r.Holds t ∧ (r.aboutTests = true → ∀ m : Sec, t.secs[m].state.onTest = false))
      _ (fun n _ t ⟨ht, htest⟩ => ⟨restartSection_keeps n (fun hr => htest hr n) ht, fun hr m => ?_⟩) _ ⟨hrunning, fun hr m => ?_⟩).1
    · have := htests hr hh m
      change s.secs[m].state.onTest = false
      revert this
      cases s.secs[m].state <;> decide
    · rw [restartSection_secs]
      by_cases hm : m = n
      · subst hm; rw [updateAt_same]; exact Section.restarted_onTest
      · rw [updateAt_other _ hm]; exact htest hr m

end Sys2Proof.Machine
end

section
/-!
The Switch Point Controllers' operations keep the rules (R117 to R140), with what they ask of the Vehicle Table.
-/

namespace Sys2Proof.Machine

variable {r : Rule} {s t : State} {n : Sec} {k : Sw}

/-! ### Records of the Vehicle Table (R102, R105, R106) -/

theorem modSlot_standing_keeps (i : Slot) (f : Vehicle → Vehicle)
    (h : ∀ v, (f v).facts = v.facts := by intro; rfl) :
    Keeps r s (s.modSlot i f) :=
  modSlot_keeps i f fun v _ => by
    obtain ⟨hnumber, hsec, hleak, hdewired⟩ : (f v).number = v.number ∧ (f v).sec = v.sec ∧ (f v).leak = v.leak ∧
        (f v).dewired = v.dewired := by simpa [Vehicle.facts] using h v
    cases r with
    | records => exact congrArg some (h v)
    | table => simp [Rule.KeepsSlot, hnumber]
    | facts => simp [Rule.KeepsSlot, hsec, hleak, hdewired]
    | _ => trivial

theorem modVehicle_standing_keeps (num : Nat) (f : Vehicle → Vehicle)
    (h : ∀ v, (f v).facts = v.facts := by intro; rfl) :
    Keeps r s (s.modVehicle num f) := by
  unfold State.modVehicle
  split
  · exact .refl s
  · exact modSlot_standing_keeps _ f h

theorem vehicleQueued_keeps (num : Nat) (k : Sw) (s : State) : Keeps r s (vehicleQueued num k s) :=
  modVehicle_standing_keeps num _

theorem vehicleOccupies_keeps (num : Nat) (k : Sw) (s : State) : Keeps r s (vehicleOccupies num k s) :=
  modVehicle_standing_keeps num _

/-- A change of one slot whose records, the old and the new, do not count for section `m`. -/
theorem countVehicles_set {m : Sec} {i : Slot} {x : Option Vehicle} {q : Vehicle → Bool} (ht : t.vt.slots = s.vt.slots.set i x)
    (hold : ∀ v, s.vt.slots[i] = some v → v.sec = some m → q v = false) (hnew : ∀ v, x = some v → v.sec = some m → q v = false) :
    0 < t.countVehicles m q ↔ 0 < s.countVehicles m q := by
  simp only [State.countVehicles_pos, ht]
  refine exists_congr fun j => ?_
  rw [set_get]
  by_cases hj : j = i
  · subst hj
    rw [if_pos rfl]
    refine iff_of_false ?_ ?_
    · rintro ⟨v, hv, hsec, hq⟩; exact absurd ((hnew v hv hsec).symm.trans hq) nofun
    · rintro ⟨v, hv, hsec, hq⟩; exact absurd ((hold v hv hsec).symm.trans hq) nofun
  · rw [if_neg hj]

/-- The record carries a fault for section `m`. -/
def Vehicle.faulty (m : Sec) (v : Vehicle) : Prop := v.sec = some m ∧ (v.leak = true ∨ v.dewired = true)

/-- One slot changed: the facts of the sections stand for which neither record, the old or the new, carries a fault. -/
theorem facts_of_slot {p q : Sec → Bool} {i : Slot} {x : Option Vehicle} (h : (Rule.facts p).Holds s)
    (hsecs : ∀ m : Sec, t.secs[m] = s.secs[m]) (ht : t.vt.slots = s.vt.slots.set i x) (hq : ∀ m, q m = true → p m = true)
    (hold : ∀ m v, q m = true → s.vt.slots[i] = some v → ¬ v.faulty m)
    (hnew : ∀ m v, q m = true → x = some v → ¬ v.faulty m) : (Rule.facts q).Holds t := by
  intro m hm
  obtain ⟨hleak, hdewired⟩ := h m (hq m hm)
  have hcount (f : Vehicle → Bool) (hf : ∀ v, f v = true → v.leak = true ∨ v.dewired = true) :
      0 < t.countVehicles m f ↔ 0 < s.countVehicles m f :=
    countVehicles_set ht
      (fun v hv hsec => by by_contra hc; exact hold m v hm hv ⟨hsec, hf v (by simpa using hc)⟩)
      (fun v hv hsec => by by_contra hc; exact hnew m v hm hv ⟨hsec, hf v (by simpa using hc)⟩)
  rw [hsecs]
  exact ⟨hleak.trans (and_congr_left' (hcount _ fun _ => .inl).symm), hdewired.trans (hcount _ fun _ => .inr).symm⟩

theorem reportFactsOf_keeps (n : Option Sec) (hr : ∀ p, r ≠ .facts p) : Keeps r s (reportFactsOf n s) := by
  unfold reportFactsOf
  split
  · exact .refl s
  · exact reportFacts_keeps _ hr

/-- A report, if a section is named, makes its fault holds right. -/
theorem reportFactsOf_facts {p : Sec → Bool} {n : Option Sec} (h : (Rule.facts fun m => p m && decide (n ≠ some m)).Holds s) :
    (Rule.facts p).Holds (reportFactsOf n s) := by
  cases n with
  | none => exact fun m hm => h m (by simp [hm])
  | some n =>
    refine reportFacts_facts fun m hm => h m ?_
    simp only [Bool.and_eq_true, decide_eq_true_eq] at hm ⊢
    exact ⟨hm.1, fun he => hm.2 (Option.some.inj he).symm⟩

/-- The rules that a whole step keeps: a halt without sequencing sections in any state, and nothing of what the records
of vehicles hold. -/
def Rule.Whole (r : Rule) : Prop := (∀ p, r = .resting p → p = fun _ _ => true) ∧ ∀ c, r ≠ .records c

/-- A fault of a record is set or cleared, and the section it counts in is told. -/
theorem slotFault_keeps (hr : r.Whole) {i : Slot} {v : Vehicle} {f : Vehicle → Vehicle} (hv : s.vt.slots[i] = some v)
    (hf : (f v).number = v.number ∧ (f v).sec = v.sec) (ht : ∀ r' : Rule, Keeps r' (s.modSlot i f) t) :
    Keeps r s (reportFactsOf v.sec t) := by
  obtain ⟨hnumber, hsec⟩ := hf
  intro h
  by_cases hfacts : ∃ p, r = .facts p
  · obtain ⟨p, rfl⟩ := hfacts
    refine reportFactsOf_facts (ht _ (facts_of_slot (i := i) (x := some (f v)) h (fun _ => rfl) ?_ ?_ ?_ ?_))
    · change updateAt s.vt.slots i _ = _
      rw [updateAt, hv]
      rfl
    · exact fun m hm => (Bool.and_eq_true_iff.mp hm).1
    · intro m w hm hw
      obtain rfl : v = w := Option.some.inj (hv.symm.trans hw)
      exact fun hfault => of_decide_eq_true (Bool.and_eq_true_iff.mp hm).2 hfault.1
    · rintro m _ hm ⟨⟩
      exact fun hfault => of_decide_eq_true (Bool.and_eq_true_iff.mp hm).2 (hsec.symm.trans hfault.1)
  · have hnot : ∀ p, r ≠ .facts p := fun p hp => hfacts ⟨p, hp⟩
    refine reportFactsOf_keeps _ hnot (ht r (modSlot_keeps i _ (fun w hw => ?_) h))
    obtain rfl : v = w := Option.some.inj (hv.symm.trans hw)
    cases r with
    | facts p => exact absurd rfl (hnot p)
    | records c => exact absurd rfl (hr.2 c)
    | table => exact congrArg some hnumber
    | _ => trivial

theorem addDewired_keeps (hr : r.Whole) (num : Nat) (k : Sw) (s : State) : Keeps r s (addDewired num k s) := by
  unfold addDewired
  split
  · exact .refl s
  · split
    · exact .refl s
    next v hv =>
      exact .ite (fun _ => .refl s) fun _ =>
        slotFault_keeps hr hv (f := fun v => { v with dewired := true }) ⟨rfl, rfl⟩ fun _ => queueNotice_keeps

/-! ### Approaches, removals and withdrawals (R106, R108, R119, R120) -/

theorem SwitchPoint.holds_iff {w : SwitchPoint} {num : Nat} : w.holds num = true ↔ num ∈ w.queue.map (·.number) := by
  simp [SwitchPoint.holds]

/-- A change of the approach queue alone. -/
theorem Rule.KeepsSw.of_queue {w : SwitchPoint} {queue : List QueueEntry}
    (h : r = .queues → w.QueueOk → ({ w with queue } : SwitchPoint).QueueOk) : r.KeepsSw w { w with queue } := by
  cases r with
  | frogs => exact ⟨id, rfl, rfl⟩
  | queues => exact h rfl
  | locks => exact ⟨rfl, Iff.rfl⟩
  | _ => trivial

/-- A new direction for an entry leaves the numbers in the queue. -/
theorem SwitchPoint.redirected_queueOk {w : SwitchPoint} {num : Nat} {dir : Direction} (h : w.QueueOk) :
    ({ w with queue := w.queue.map fun e => if e.number = num then { e with dir := dir } else e } : SwitchPoint).QueueOk := by
  have hnumber : ∀ e : QueueEntry, (if e.number = num then { e with dir := dir } else e).number = e.number := by
    intro e; split <;> rfl
  obtain ⟨hlen, hnodup, hocc⟩ := h
  refine ⟨by simpa using hlen, ?_, fun v hv => ?_⟩
  · simpa [Function.comp_def, hnumber] using hnodup
  · simpa [Function.comp_def, hnumber] using hocc v hv

theorem SwitchPoint.appended_queueOk {w : SwitchPoint} {num : Nat} {dir : Direction} (h : w.QueueOk)
    (hnew : w.holds num = false) (hroom : w.queue.length < 4) :
    ({ w with queue := w.queue ++ [⟨num, dir⟩] } : SwitchPoint).QueueOk := by
  obtain ⟨-, hnodup, hocc⟩ := h
  have hmem : num ∉ w.queue.map (·.number) := fun hm => by rw [SwitchPoint.holds_iff.mpr hm] at hnew; cases hnew
  refine ⟨by simpa using hroom, ?_, fun v hv => ?_⟩
  · rw [List.map_append]
    exact List.nodup_append.mpr ⟨hnodup, List.nodup_singleton _, fun a ha b hb => by
      rw [List.map_singleton, List.mem_singleton] at hb
      exact hb ▸ ne_of_mem_of_not_mem ha hmem⟩
  · obtain ⟨hhead, hpoles⟩ := hocc v hv
    refine ⟨?_, hpoles⟩
    cases hq : w.queue with
    | nil => simp [hq] at hhead
    | cons e es => simpa [hq] using hhead

theorem swApproach_keeps (k : Sw) (num : Nat) (route : Route) (s : State) : Keeps r s (swApproach k num route s) := by
  refine swEvent_keeps k false (.ite (fun _ => ?_) fun hnew => .ite (fun _ => queueNotice_keeps) fun hroom => ?_)
  · exact modSw_keeps k _ (.of_queue fun _ => SwitchPoint.redirected_queueOk)
  · refine .trans (modSw_keeps k (fun w => { w with queue := w.queue ++ [⟨num, route.getD s.sws[k].default⟩] })
      (.of_queue fun _ h => ?_)) (vehicleQueued_keeps num k _)
    exact SwitchPoint.appended_queueOk h (by simpa using hnew) (not_le.mp hroom)

theorem vehicleRemoved_keeps (num : Nat) (s : State) : Keeps r s (vehicleRemoved num s) := by
  unfold vehicleRemoved
  split
  · exact .refl s
  next i _ =>
    have hslot : Keeps r s (s.modSlot i fun v => { v with queue := none, occupied := none }) :=
      modSlot_standing_keeps i _
    dsimp only
    split
    · exact hslot
    · exact hslot.trans ((swApproach_keeps _ _ _ _).trans (modVehicle_standing_keeps num _))

/-- An entry that is not the occupant's leaves the queue. -/
theorem SwitchPoint.dropped_queueOk {w : SwitchPoint} {num : Nat} (h : w.QueueOk) (hocc : w.occupant ≠ some num) :
    ({ w with queue := w.queue.filter fun e => e.number != num } : SwitchPoint).QueueOk := by
  obtain ⟨hlen, hnodup, hoccupant⟩ := h
  refine ⟨(List.length_filter_le ..).trans hlen, hnodup.sublist (List.filter_sublist.map _), fun v hv => ?_⟩
  obtain ⟨hhead, hpoles⟩ := hoccupant v hv
  refine ⟨?_, hpoles⟩
  cases hq : w.queue with
  | nil => simp [hq] at hhead
  | cons e es =>
    have he : e.number = v := by simpa [hq] using hhead
    have hne : (e.number != num) = true := by simpa using fun h => hocc (hv.trans (by rw [← he, h]))
    change ((e :: es).filter fun e => e.number != num).head?.map _ = some v
    rw [List.filter_cons_of_pos (p := fun e : QueueEntry => e.number != num) hne, ← he]
    rfl

theorem dropEntry_keeps (k : Sw) (num : Nat) (h : r = .queues → s.sws[k].occupant ≠ some num) :
    Keeps r s (dropEntry k num s) :=
  .trans (modSw_keeps k (fun w => { w with queue := w.queue.filter fun e => e.number != num })
    (.of_queue fun hr hw => SwitchPoint.dropped_queueOk hw (h hr))) (vehicleRemoved_keeps num _)

theorem swWithdraw_keeps (k : Sw) (num : Nat) (s : State) : Keeps r s (swWithdraw k num s) := by
  refine swEvent_keeps k false (.ite (fun hyields => dropEntry_keeps k num fun _ => ?_) fun _ => .refl s)
  simpa [SwitchPoint.yields] using (Bool.and_eq_true_iff.mp hyields).2

/-! ### The lock and the feeding section (R117, R134) -/

/-- A switch point fed from another section before and after a change does not bear on section `m`'s lock hold. -/
theorem locked_congr {m : Sec} (hother : ∀ j : Sw, j ≠ k → t.sws[j] = s.sws[j])
    (hold : s.sws[k].feeding = some m → s.sws[k].lock ≠ .dewired)
    (hnew : t.sws[k].feeding = some m → t.sws[k].lock ≠ .dewired) :
    (∃ j : Sw, t.sws[j].feeding = some m ∧ t.sws[j].lock = .dewired) ↔
      ∃ j : Sw, s.sws[j].feeding = some m ∧ s.sws[j].lock = .dewired := by
  refine exists_congr fun j => ?_
  by_cases hj : j = k
  · subst hj; exact iff_of_false (fun ⟨hf, hl⟩ => hnew hf hl) fun ⟨hf, hl⟩ => hold hf hl
  · rw [hother j hj]

/-- A change of the lock alone. -/
theorem Rule.KeepsSw.of_lock {w : SwitchPoint} {lock : Lock}
    (h : ∀ p, r = .locks p → (lock = .dewired ↔ w.lock = .dewired)) : r.KeepsSw w { w with lock } := by
  cases r with
  | frogs => exact ⟨id, rfl, rfl⟩
  | queues => exact id
  | locks p => exact ⟨rfl, h p rfl⟩
  | _ => trivial

theorem setLock_keeps (k : Sw) (l : Lock) (s : State) : Keeps r s (setLock k l s) := by
  have hother : ∀ j : Sw, j ≠ k → (s.modSw k fun w => { w with lock := l }).sws[j] = s.sws[j] := fun j hj =>
    updateAt_other _ hj _
  have hself : (s.modSw k fun w => { w with lock := l }).sws[k].feeding = s.sws[k].feeding := by
    rw [State.modSw_sws, updateAt_same]
  unfold setLock
  dsimp only
  split
  next hfeed =>
    by_cases hr : ∃ p, r = .locks p
    · obtain ⟨p, rfl⟩ := hr
      refine fun h m hm => (h m hm).trans (locked_congr hother ?_ ?_).symm
      · exact fun hf => absurd (hfeed.symm.trans hf) nofun
      · exact fun hf => absurd (hfeed.symm.trans (hself.symm.trans hf)) nofun
    · exact modSw_keeps k _ (.of_lock fun p hp => absurd ⟨p, hp⟩ hr)
  next n hfeed =>
    refine .ite (fun hsame => modSw_keeps k _ (.of_lock fun _ _ => (decide_eq_decide.mp hsame).symm)) fun _ => ?_
    by_cases hr : ∃ p, r = .locks p
    · obtain ⟨p, rfl⟩ := hr
      refine fun h => reportLock_locks fun m hm => ?_
      simp only [Bool.and_eq_true, decide_eq_true_eq] at hm
      obtain ⟨hpm, hmn⟩ := hm
      refine (h m hpm).trans (locked_congr hother ?_ ?_).symm
      · exact fun hf => absurd (Option.some.inj (hf.symm.trans hfeed)) hmn
      · exact fun hf => absurd (Option.some.inj (hf.symm.trans (hself.trans hfeed))) hmn
    · have hnot : ∀ p, r ≠ .locks p := fun p hp => hr ⟨p, hp⟩
      exact (modSw_keeps k _ (.of_lock fun p hp => absurd hp (hnot p))).trans (reportLock_keeps n hnot)

theorem setFeeding_keeps (k : Sw) (n : Sec) (hmoving : s.sws[k].position ≠ .moving) : Keeps r s (setFeeding k n s) := by
  refine .ite (fun _ => .refl s) fun _ => ?_
  have hother : ∀ j : Sw, j ≠ k →
      (s.modSw k fun w => { w with feeding := some n, power := s.secs[n].state.powered }).sws[j] = s.sws[j] := fun j hj =>
    updateAt_other _ hj _
  have hself : (s.modSw k fun w => { w with feeding := some n, power := s.secs[n].state.powered }).sws[k] =
      { s.sws[k] with feeding := some n, power := s.secs[n].state.powered } := updateAt_same ..
  have hfed (hr : ∀ p, r ≠ .locks p) :
      Keeps r s (s.modSw k fun w => { w with feeding := some n, power := s.secs[n].state.powered }) := by
    cases r with
    | locks p => exact absurd rfl (hr p)
    | frogs =>
      rintro ⟨⟨hvt, hsw⟩, hfrog⟩
      refine ⟨⟨hvt, fun j m hj => ?_⟩, fun j => ?_⟩
      · by_cases hjk : j = k
        · subst hjk; rw [hself] at hj ⊢; obtain rfl : n = m := Option.some.inj hj; rfl
        · rw [hother j hjk] at hj ⊢; exact hsw j m hj
      · by_cases hjk : j = k
        · subst hjk; rw [hself]; exact ⟨(hfrog j).1, fun hm => absurd hm hmoving⟩
        · rw [hother j hjk]; exact hfrog j
    | queues => exact modSw_keeps (r := .queues) k _ id
    | _ => exact id
  dsimp only
  by_cases hr : ∃ p, r = .locks p
  · obtain ⟨p, rfl⟩ := hr
    intro h
    have hthird {m : Sec} (hm : m ≠ n) (hold : s.sws[k].feeding ≠ some m ∨ s.sws[k].lock ≠ .dewired) (hp : p m = true) := by
      refine (h m hp).trans (locked_congr hother ?_ ?_).symm
      · exact fun hf => hold.resolve_left (· hf)
      · rw [hself]; exact fun hf => absurd (Option.some.inj hf).symm hm
    split
    next hdewired =>
      refine reportLock_locks ?_
      split
      next hnone =>
        intro m hm
        simp only [Bool.and_eq_true, decide_eq_true_eq] at hm
        exact hthird hm.2 (.inl (by rw [hnone]; nofun)) hm.1
      next old hold =>
        refine reportLock_locks fun m hm => ?_
        simp only [Bool.and_eq_true, decide_eq_true_eq] at hm
        exact hthird hm.1.2 (.inl (by rw [hold]; exact fun h => hm.2 (Option.some.inj h).symm)) hm.1.1
    next hnot =>
      intro m hm
      by_cases hmn : m = n
      · subst hmn
        refine (h m hm).trans (locked_congr hother (fun _ => hnot) ?_).symm
        rw [hself]; exact fun _ => hnot
      · exact hthird hmn (.inr hnot) hm
  · have hnot : ∀ p, r ≠ .locks p := fun p hp => hr ⟨p, hp⟩
    refine (hfed hnot).trans (.ite (fun _ => .trans ?_ (reportLock_keeps n hnot)) fun _ => .refl _)
    split
    · exact .refl _
    · exact reportLock_keeps _ hnot

/-! ### Poles under the frog (R129 to R133) -/

/-- A change of the count of poles and of the timers and marks that go with it. -/
theorem Rule.KeepsSw.of_poles {w : SwitchPoint} {poles : Nat} {both : Bool} {poleTimer passTimer : SwTimer}
    (hfrogs : r = .frogs → w.FrogOk → poles ≤ 2 ∧ (w.position = .moving → poles = 0))
    (hqueues : r = .queues → w.QueueOk → w.occupant.isSome = true → 0 < poles) :
    r.KeepsSw w { w with poles, both, poleTimer, passTimer } := by
  cases r with
  | frogs =>
    refine ⟨fun hw => ?_, rfl, rfl⟩
    obtain ⟨hle, hzero⟩ := hfrogs rfl hw
    exact ⟨hle, fun hm => ⟨hzero hm, (hw.2 hm).2⟩⟩
  | queues =>
    intro hw
    obtain ⟨hlen, hnodup, hocc⟩ := id hw
    exact ⟨hlen, hnodup, fun v hv => ⟨(hocc v hv).1, hqueues rfl hw (by rw [show w.occupant = some v from hv]; rfl)⟩⟩
  | locks => exact ⟨rfl, Iff.rfl⟩
  | _ => trivial

theorem SwitchPoint.FrogOk.poles_of_moving {w : SwitchPoint} (h : w.FrogOk) (hp : w.poles ≠ 0) : w.position ≠ .moving :=
  fun hm => hp (h.2 hm).1

/-- The head of the queue becomes the occupant, a pole being under the frog. -/
theorem Rule.KeepsSw.of_occupant {w : SwitchPoint} {occupant : Option Nat} (hpoles : 0 < w.poles)
    (hocc : ∀ v, occupant = some v → w.queue.head?.map (·.number) = some v) : r.KeepsSw w { w with occupant } := by
  cases r with
  | frogs => exact ⟨id, rfl, rfl⟩
  | queues => exact fun ⟨hlen, hnodup, _⟩ => ⟨hlen, hnodup, fun v hv => ⟨hocc v hv, hpoles⟩⟩
  | locks => exact ⟨rfl, Iff.rfl⟩
  | _ => trivial

theorem beginPassage_keeps (hpos : r = .frogs → s.sws[k].position ≠ .moving) : Keeps r s (beginPassage k s) := by
  have hbegin : Keeps r s (s.modSw k fun w =>
      { w with poles := 1, both := false, poleTimer := .running w.tPole, passTimer := .running w.tPass }) :=
    modSw_keeps k _ (.of_poles (fun hr _ => ⟨by decide, fun hm => absurd hm (hpos hr)⟩) fun _ _ _ => Nat.one_pos)
  unfold beginPassage
  dsimp only
  refine hbegin.trans ?_
  have hself : (s.modSw k fun w => { w with
      poles := 1, both := false, poleTimer := .running w.tPole, passTimer := .running w.tPass }).sws[k].poles = 1 := by
    rw [State.modSw_sws, updateAt_same]
  split
  next h hhead =>
    refine .trans (modSw_keeps k (fun w => { w with occupant := some h.number }) (.of_occupant (by rw [hself]; decide) ?_))
      ((vehicleOccupies_keeps h.number k _).trans (.ite (fun _ => queueNotice_keeps) fun _ => .refl _))
    exact fun v hv => by rw [hhead]; exact hv
  next => exact queueNotice_keeps

theorem modVehicle_frame (num : Nat) (f : Vehicle → Vehicle) (s : State) :
    ∃ slots, s.modVehicle num f = { s with vt := { s.vt with slots } } := by
  unfold State.modVehicle
  split
  · exact ⟨s.vt.slots, rfl⟩
  · exact ⟨_, rfl⟩

/-- A passage begins on its own switch point's record, in the vehicles' records and with a notice. -/
theorem beginPassage_frame (k : Sw) (s : State) :
    ∃ (slots : Vector (Option Vehicle) 64) (notices : NoticeQueue) (occupant : SwitchPoint → Option Nat),
    beginPassage k s =
      { s with
        sws := updateAt s.sws k fun w =>
          { w with poles := 1, both := false, poleTimer := .running w.tPole, passTimer := .running w.tPass
                   occupant := occupant w }
        vt := { s.vt with slots }
        notices } := by
  unfold beginPassage
  dsimp only
  split
  next h _ =>
    obtain ⟨slots, heq⟩ := modVehicle_frame h.number (fun v => { v with occupied := some k })
      ((s.modSw k fun w => { w with
        poles := 1, both := false, poleTimer := .running w.tPole, passTimer := .running w.tPass }).modSw k
        fun w => { w with occupant := some h.number })
    rw [vehicleOccupies, heq]
    split
    · exact ⟨slots, _, fun _ => some h.number, by simp [queueNotice, State.modNotices, State.modSw, updateAt]; rfl⟩
    · exact ⟨slots, s.notices, fun _ => some h.number, by simp [State.modSw, updateAt]⟩
  next => exact ⟨s.vt.slots, _, fun w => w.occupant, rfl⟩

theorem contactFault_keeps (k : Sw) (event : Half) (s : State) : Keeps r s (contactFault k event s) := queueNotice_keeps

theorem countEntry_keeps (hpos : r = .frogs → s.sws[k].position ≠ .moving) : Keeps r s (countEntry k s) := by
  unfold countEntry
  split
  next => exact beginPassage_keeps hpos
  next => exact modSw_keeps k _ (.of_poles (fun hr _ => ⟨le_rfl, fun hm => absurd hm (hpos hr)⟩) fun _ _ _ => Nat.two_pos)
  next => exact contactFault_keeps k 1 s

/-- The first pole under a moving frog stops it: no frog moves over a pole (R130). -/
theorem countEntry_stopped_frogsOk (h : FrogsOk s) (hm : s.sws[k].position = .moving) :
    FrogsOk ((countEntry k s).modSw k SwitchPoint.cancelDrive) := by
  obtain ⟨⟨hvt, hsw⟩, hfrog⟩ := h
  obtain ⟨slots, notices, occupant, heq⟩ := beginPassage_frame k s
  have hbegin : countEntry k s = beginPassage k s := by
    unfold countEntry
    rw [((hfrog k).2 hm).1]
    rfl
  rw [hbegin, heq]
  refine ⟨⟨hvt, fun j n hj => ?_⟩, fun j => ?_⟩
  · by_cases hjk : j = k
    · subst hjk
      rw [State.modSw_sws, updateAt_updateAt, updateAt_same] at hj ⊢
      exact hsw j n hj
    · rw [State.modSw_sws, updateAt_updateAt, updateAt_other _ hjk] at hj ⊢
      exact hsw j n hj
  · by_cases hjk : j = k
    · subst hjk
      rw [State.modSw_sws, updateAt_updateAt, updateAt_same]
      exact ⟨(by decide : 1 ≤ 2), nofun⟩
    · rw [State.modSw_sws, updateAt_updateAt, updateAt_other _ hjk]
      exact hfrog j

theorem swEntry_keeps (k : Sw) (s : State) : Keeps r s (swEntry k s) := by
  refine swEvent_keeps k false (.ite (fun hm => ?_) fun hm => countEntry_keeps fun _ => hm)
  have hstopped : Keeps r s ((countEntry k s).modSw k SwitchPoint.cancelDrive) := by
    by_cases hr : r = .frogs
    · subst hr; exact fun h => countEntry_stopped_frogsOk h hm
    · exact (countEntry_keeps (absurd · hr)).trans (modSw_keeps k _ (SwitchPoint.cancelDrive_keepsSw _))
  exact hstopped.trans ((setLock_keeps k .dewired _).trans queueNotice_keeps)

/-- At a passage's end the frog is clear and without an occupant, whose entry leaves the queue. -/
theorem endPassage_keeps (k : Sw) (s : State) : Keeps r s (endPassage k s) := by
  have hclear (hr : r = .queues → s.sws[k].occupant = none) :
      Keeps r s (s.modSw k fun w => { w with poles := 0, poleTimer := .stopped, passTimer := .stopped }) :=
    modSw_keeps k _ (.of_poles (fun _ _ => ⟨Nat.zero_le 2, fun _ => rfl⟩) fun h _ hsome => by rw [hr h] at hsome; cases hsome)
  have hqueued (b : Bool) (u : State) :
      Keeps r u (if b = true then u
        else queueNotice .passageIncomplete 4 (.switch k) [vehicleWord s.sws[k].occupant, word s.sws[k].lock.code] u) :=
    .ite (fun _ => .refl u) fun _ => queueNotice_keeps
  unfold endPassage
  dsimp only
  split
  next hnone => exact (hclear fun _ => hnone).trans (hqueued _ _)
  next v hv =>
    have hfree : Keeps r s ((if s.sws[k].both = true then
          s.modSw k fun w => { w with poles := 0, poleTimer := .stopped, passTimer := .stopped }
        else queueNotice .passageIncomplete 4 (.switch k) [vehicleWord s.sws[k].occupant, word s.sws[k].lock.code]
          (s.modSw k fun w => { w with poles := 0, poleTimer := .stopped, passTimer := .stopped })).modSw k
        fun w => { w with occupant := none }) := by
      by_cases hr : r = .queues
      · subst hr
        have hsws (b : Bool) (u : State) : (if b = true then u else queueNotice .passageIncomplete 4 (.switch k)
            [vehicleWord s.sws[k].occupant, word s.sws[k].lock.code] u).sws = u.sws := by split <;> rfl
        intro h j
        rw [State.modSw_sws, hsws, State.modSw_sws, updateAt_updateAt]
        by_cases hj : j = k
        · subst hj
          obtain ⟨hlen, hnodup, -⟩ := h j
          rw [updateAt_same]
          exact ⟨hlen, hnodup, nofun⟩
        · rw [updateAt_other _ hj]; exact h j
      · refine (hclear (absurd · hr)).trans ((hqueued _ _).trans (modSw_keeps k _ ?_))
        cases r with
        | queues => exact absurd rfl hr
        | frogs => exact ⟨id, rfl, rfl⟩
        | locks => exact ⟨rfl, Iff.rfl⟩
        | _ => trivial
    exact hfree.trans (dropEntry_keeps k v fun _ => by rw [State.modSw_sws, updateAt_same]; nofun)

theorem swExit_keeps (k : Sw) (s : State) : Keeps r s (swExit k s) := by
  refine swEvent_keeps k false ?_
  split
  next => exact contactFault_keeps k 2 s
  next => exact endPassage_keeps k s
  next n hpoles =>
    refine modSw_keeps k _ (.of_poles (fun _ hw => ⟨?_, fun hm => ?_⟩) fun _ _ _ => Nat.succ_pos n)
    · have := hw.1; omega
    · exact absurd hm (hw.poles_of_moving (by omega))

theorem swContact_keeps (k : Sw) (e : ContactEvent) (s : State) : Keeps r s (swContact k e s) := by
  cases e with
  | entry => exact swEntry_keeps k s
  | exit => exact swExit_keeps k s

theorem poleExpired_keeps (hr : r.Whole) (k : Sw) (s : State) : Keeps r s (poleExpired k s) := by
  refine .ite (fun _ => swEvent_keeps k false ?_) fun _ => .refl s
  refine .trans (modSw_core_keeps k (fun w => { w with poleTimer := .stopped }) rfl) ((setLock_keeps k .dewired _).trans ?_)
  refine .trans ?_ queueNotice_keeps
  split
  · exact .refl _
  · exact addDewired_keeps hr _ k _

theorem passageExpired_keeps (k : Sw) (s : State) : Keeps r s (passageExpired k s) :=
  .ite (fun _ => swEvent_keeps k false
    (.trans (modSw_core_keeps k (fun w => { w with passTimer := .stopped }) rfl) queueNotice_keeps)) fun _ => .refl s

/-! ### Drives and positions (R123 to R128) -/

theorem driveAccepted_keeps (k : Sw) (s : State) : Keeps r s (driveAccepted k s) :=
  swEvent_keeps k false (modSw_core_keeps k _ (by split <;> rfl))

/-- A frog that stands still, or is not known to move. -/
theorem Rule.KeepsSw.of_position {w w' : SwitchPoint} (hpos : w'.position ≠ .moving)
    (hrest : { w'.core with position := w.position } = w.core) : r.KeepsSw w w' := by
  have hcore : r.KeepsSw w.core { w'.core with position := w.position } := by rw [hrest]; exact .refl _
  cases r with
  | frogs => exact ⟨fun hw => ⟨(hcore.1 hw).1, fun hm => absurd hm hpos⟩, hcore.2⟩
  | _ => exact hcore

theorem Direction.position_ne_moving (d : Direction) : d.position ≠ .moving := by cases d <;> nofun

theorem driveArrives_keeps (k : Sw) (s : State) : Keeps r s (driveArrives k s) :=
  .trans (modSw_keeps k (fun w => { w with
    driveTimer := none, stage := .none, position := w.target.position, failed := 0 })
    (.of_position (Direction.position_ne_moving _) rfl)) queueNotice_keeps

theorem unexpectedMove_keeps (k : Sw) (p : StationPosition) (s : State) : Keeps r s (unexpectedMove k p s) := by
  refine .trans (modSw_keeps k (fun w => { w with
    position := match p.atEnd with | some d => d.position | none => .unknown }) (.of_position ?_ rfl)) queueNotice_keeps
  dsimp only
  split
  · exact Direction.position_ne_moving _
  · nofun

theorem SwitchPoint.learn_position (p : StationPosition) (w : SwitchPoint) : (w.learn p).position ≠ .moving := by
  unfold SwitchPoint.learn
  split
  · nofun
  · exact Direction.position_ne_moving _

theorem SwitchPoint.learn_keepsSw (p : StationPosition) (w : SwitchPoint) : r.KeepsSw w (w.learn p) :=
  .of_position (w.learn_position p) (by unfold SwitchPoint.learn; split <;> rfl)

theorem swPosition_keeps (k : Sw) (p : StationPosition) (s : State) : Keeps r s (swPosition k p s) := by
  refine swEvent_keeps k false ?_
  refine .trans (modSw_core_keeps k (fun w => { w with lastReport := p }) rfl) ?_
  dsimp only
  split
  · exact .ite (fun _ => driveArrives_keeps k _) fun _ => .refl _
  · exact modSw_keeps k _ (SwitchPoint.learn_keepsSw p _)
  · exact .ite (fun _ => .refl _) fun _ => unexpectedMove_keeps k p _
  · exact .ite (fun _ => .refl _) fun _ => unexpectedMove_keeps k p _

theorem driveExpired_keeps (k : Sw) (s : State) : Keeps r s (driveExpired k s) := by
  refine .ite (fun _ => swEvent_keeps k false ?_) fun _ => .refl s
  refine .trans (modSw_keeps k _ (SwitchPoint.cancelDrive_keepsSw _)) (.ite (fun _ => ?_) fun _ => ?_)
  · exact modSw_core_keeps k _ rfl
  · exact .trans (modSw_core_keeps k (fun w => { w with failed := 0 }) rfl) ((setLock_keeps k .failed _).trans queueNotice_keeps)

theorem swRestart_keeps (k : Sw) (s : State) : Keeps r s (swRestart k s) :=
  swEvent_keeps k false (modSw_keeps k _ (by
    split
    · exact SwitchPoint.cancelDrive_keepsSw _
    · exact .refl _))

theorem switchesRestart_keeps (wasHalted : Bool) (s : State) : Keeps r s (switchesRestart wasHalted s) :=
  .ite (fun _ => keeps_forEach _ swRestart_keeps s) fun _ => .refl s

/-! ### Stations (R118, R139, R140) -/

/-- A lost station stops the frog and leaves a DEWIRED lock as it is. -/
theorem SwitchPoint.takeState_keepsSw (st : StationState) (w : SwitchPoint) : r.KeepsSw w (w.takeState st) := by
  unfold SwitchPoint.takeState
  split
  · cases r with
    | frogs => exact ⟨fun ⟨hpoles, _⟩ => ⟨hpoles, nofun⟩, rfl, rfl⟩
    | queues => exact id
    | locks =>
      refine ⟨rfl, ?_⟩
      unfold SwitchPoint.loseStation
      dsimp only
      cases w.lock <;> simp
    | _ => trivial
  · exact .of_core rfl

theorem Rule.KeepsSw.then_core {w w' w'' : SwitchPoint} (h : r.KeepsSw w w') (hcore : w''.core = w'.core) :
    r.KeepsSw w w'' := by
  have h' : r.KeepsSw w' w'' := .of_core hcore
  cases r with
  | frogs =>
    obtain ⟨hok, hfeed, hpower⟩ := h
    obtain ⟨hok', hfeed', hpower'⟩ := h'
    exact ⟨fun hw => hok' (hok hw), hfeed'.trans hfeed, hpower'.trans hpower⟩
  | queues => exact fun hw => h' (h hw)
  | locks => exact ⟨h'.1.trans h.1, h'.2.trans h.2⟩
  | _ => trivial

theorem swStation_keeps (k : Sw) (st : StationState) (s : State) : Keeps r s (swStation k st s) :=
  swEvent_keeps k false (modSw_keeps k _ (SwitchPoint.takeState_keepsSw st _))

theorem swBind_keeps (k : Sw) (a : Sta) (s : State) : Keeps r s (swBind k a s) :=
  swEvent_keeps k false (modSw_keeps k _ ((SwitchPoint.takeState_keepsSw .census _).then_core rfl))

theorem swUnbind_keeps (k : Sw) (s : State) : Keeps r s (swUnbind k s) :=
  swEvent_keeps k false (modSw_keeps k _ ((SwitchPoint.takeState_keepsSw .unconfigured _).then_core rfl))

theorem resyncPoles_keeps (census : Nat) (hpos : s.sws[k].position ≠ .moving) : Keeps r s (resyncPoles k census s) := by
  have hcount (poles : Nat) (hpoles : 0 < poles ∧ poles ≤ 2) (f : SwitchPoint → SwitchPoint)
      (hf : f s.sws[k] = { s.sws[k] with
        poles, both := (f s.sws[k]).both, poleTimer := (f s.sws[k]).poleTimer, passTimer := (f s.sws[k]).passTimer }) :
      Keeps r s (s.modSw k f) :=
    modSw_keeps k f (hf ▸ .of_poles (fun _ _ => ⟨hpoles.2, fun hm => absurd hm hpos⟩) fun _ _ _ => hpoles.1)
  unfold resyncPoles
  split
  next => exact .refl s
  next => exact beginPassage_keeps fun _ => hpos
  next =>
    obtain ⟨slots, notices, occupant, heq⟩ := beginPassage_frame k s
    refine (beginPassage_keeps fun _ => hpos).trans
      (modSw_keeps k _ (.of_poles (fun _ _ => ⟨le_rfl, fun hm => absurd ?_ hpos⟩) fun _ _ _ => Nat.two_pos))
    rw [heq] at hm
    simpa using hm
  next => exact endPassage_keeps k s
  next => exact modSw_core_keeps k _ rfl
  next => exact hcount 2 (by decide) _ rfl
  next => exact (modSw_core_keeps k (fun w => { w with both := true }) rfl).trans (endPassage_keeps k _)
  next => exact hcount 1 (by decide) _ rfl
  next => exact modSw_core_keeps k _ rfl

theorem swOnline_keeps (k : Sw) (census : Nat) (p : StationPosition) (s : State) : Keeps r s (swOnline k census p s) := by
  refine swEvent_keeps k false ?_
  have hlearn : Keeps r s (s.modSw k fun w => ({ w with station := .online, lastReport := p } : SwitchPoint).learn p) := by
    refine modSw_keeps k _ (.of_position (SwitchPoint.learn_position _ _) ?_)
    unfold SwitchPoint.learn
    split <;> rfl
  have hunlock (u : State) : Keeps r u (u.modSw k fun w => { w with lock := if w.lock = .noField then .none else w.lock }) := by
    refine modSw_keeps k _ (.of_lock fun _ _ => ?_)
    cases u.sws[k].lock <;> simp
  refine hlearn.trans (.trans (.trans (.ite (fun _ => .refl _) fun _ => queueNotice_keeps) (resyncPoles_keeps census ?_))
    (hunlock _))
  have hlearned : ((s.modSw k fun w =>
      ({ w with station := .online, lastReport := p } : SwitchPoint).learn p).sws[k]).position ≠ .moving := by
    rw [State.modSw_sws, updateAt_same]; exact SwitchPoint.learn_position _ _
  split
  · exact hlearned
  · exact hlearned

/-! ### Requests (R117, R135 to R137) -/

@[simp] theorem accept_state (s : State) (fields : List ReplyField) : (accept s fields).state = s := rfl

@[simp] theorem acceptSwitch_state (k : Sw) (s : State) : (acceptSwitch k s).state = s := rfl

theorem configureSwitch_keeps (p : List Byte) (s : State) : Keeps r s (configureSwitch p s).state := by
  refine naming_keeps p _ fun k => ?_
  split
  next n d _ _ =>
    split
    · exact .refl s
    next hmay =>
      rw [accept_state]
      refine swEvent_keeps k false ?_
      exact ((setFeeding_keeps k n fun hm => hmay (.inl hm)).trans (modSw_core_keeps k _ rfl))
  · exact .refl s

theorem setSwitch_keeps (p : List Byte) (s : State) : Keeps r s (setSwitch p s).state := by
  refine naming_keeps p _ fun k => ?_
  split
  · exact .refl s
  · split
    next hmay =>
      refine swEvent_keeps k false (modSw_keeps k _ ?_)
      split
      · exact .refl _
      · refine SwitchPoint.startDrive_keepsSw _ ?_
        simp only [SwitchPoint.hostMayDrive, Bool.and_eq_true, beq_iff_eq] at hmay
        obtain ⟨⟨⟨⟨⟨⟨-, hpoles⟩, -⟩, -⟩, hfeed⟩, hpower⟩, -⟩ := hmay
        exact ⟨hpoles, hfeed, hpower⟩
    · exact .refl s

theorem pinSwitch_keeps (p : List Byte) (s : State) : Keeps r s (pinSwitch p s).state := by
  refine naming_keeps p _ fun k => ?_
  dsimp only
  split
  · exact .refl s
  · split
    next hlock => exact swEvent_keeps k true (modSw_keeps k _ (.of_lock fun _ _ => by rw [hlock.1]; decide))
    · exact .refl s

theorem unpinSwitch_keeps (p : List Byte) (s : State) : Keeps r s (unpinSwitch p s).state := by
  refine naming_keeps p _ fun k => ?_
  split
  next hlock => exact swEvent_keeps k false (modSw_keeps k _ (.of_lock fun _ _ => by rw [hlock]; decide))
  · exact .refl s

theorem clearSwitchLock_keeps (p : List Byte) (s : State) : Keeps r s (clearSwitchLock p s).state := by
  refine naming_keeps p _ fun k => ?_
  dsimp only
  split
  · rw [acceptSwitch_state]
    exact swEvent_keeps k false
      (.trans (modSw_core_keeps k (fun w => { w with failed := 0 }) rfl) (setLock_keeps k .none _))
  · exact .refl s

end Sys2Proof.Machine
end

section
/-!
The Vehicle Table's operations keep the rules (R92 to R116).
-/

namespace Sys2Proof.Machine

variable {r : Rule} {s t : State} {n : Sec} {i : Slot} {v : Vehicle}

/-! ### Telegrams (R95 to R109) -/

theorem findVehicle_eq_none {num : Nat} : s.findVehicle num = none ↔
    ∀ (i : Slot) (v : Vehicle), s.vt.slots[i] = some v → v.number ≠ num := by
  constructor
  · intro h i v hv hnum
    exact List.find?_eq_none.mp h i (List.mem_finRange i) (slotHolds_iff.mpr ⟨v, hv, hnum⟩)
  · exact findVehicle_of_missing

theorem slot_of_freeSlot (h : s.freeSlot = some i) : s.vt.slots[i] = none := by
  have := List.find?_some (p := fun i : Slot => (s.vt.slots[i]).isNone) h
  simpa using this

/-- A new record carries no fault, and a number that no other record carries. -/
theorem makeVehicle_keeps (hr : r.Whole) {num : Nat} (a : Sta) (hi : s.vt.slots[i] = none)
    (hnum : r = .table → 1 ≤ num ∧ num ≤ 9999 ∧ s.findVehicle num = none) : Keeps r s (makeVehicle i num a s) := by
  refine .trans (fun h => ?_) queueNotice_keeps
  cases r with
  | records c => exact absurd rfl (hr.2 c)
  | facts p =>
    refine facts_of_slot (i := i) (x := some (newVehicle num a s)) h (fun _ => rfl) rfl (fun _ => id) (fun m w _ hw => ?_) ?_
    · rw [hi] at hw; cases hw
    · rintro m _ _ ⟨⟩ ⟨-, hf | hf⟩ <;> cases hf
  | table =>
    obtain ⟨hpos, hle, hnone⟩ := hnum rfl
    have hmissing := findVehicle_eq_none.mp hnone
    obtain ⟨hunique, hrange⟩ := h
    have hslot : ∀ j : Slot, (s.vt.slots.set i (some (newVehicle num a s)))[j] =
        if j = i then some (newVehicle num a s) else s.vt.slots[j] := fun _ => set_get _ _ _ _
    refine ⟨fun j j' w w' hw hw' hww => ?_, fun j w hw => ?_⟩
    · simp only [State.modVt_vt, hslot] at hw hw'
      by_cases hj : j = i <;> by_cases hj' : j' = i
      · rw [hj, hj']
      · rw [if_pos hj] at hw
        rw [if_neg hj'] at hw'
        exact absurd (hww.symm.trans (congrArg Vehicle.number (Option.some.inj hw).symm)) (hmissing j' w' hw')
      · rw [if_neg hj] at hw
        rw [if_pos hj'] at hw'
        exact absurd (hww.trans (congrArg Vehicle.number (Option.some.inj hw').symm)) (hmissing j w hw)
      · rw [if_neg hj] at hw
        rw [if_neg hj'] at hw'
        exact hunique j j' w w' hw hw' hww
    · simp only [State.modVt_vt, hslot] at hw
      by_cases hj : j = i
      · rw [if_pos hj] at hw; obtain rfl := Option.some.inj hw; exact ⟨hpos, hle⟩
      · rw [if_neg hj] at hw; exact hrange j w hw
  | frogs => exact h
  | _ => exact h

theorem sightVehicle_keeps (i : Slot) (a : Sta) (s : State) : Keeps r s (sightVehicle i a s) := by
  unfold sightVehicle
  split
  · exact .refl s
  · exact (modSlot_standing_keeps i _).trans (.ite (fun _ => .refl _) fun _ => queueNotice_keeps)

/-- A vehicle moves from one section's counts to another's, and both are told (R101, R102). -/
theorem placeVehicle_keeps (hr : r.Whole) (i : Slot) (role : Role) (tel : Telegram) (s : State) :
    Keeps r s (placeVehicle i role tel s) := by
  unfold placeVehicle
  split
  next v n hv _ =>
    refine .ite (fun _ => .refl s) fun _ h => ?_
    by_cases hfacts : ∃ p, r = .facts p
    · obtain ⟨p, rfl⟩ := hfacts
      refine reportFacts_facts (reportFactsOf_facts
        (facts_of_slot (i := i) (x := some { v with sec := some n }) h (fun _ => rfl) ?_ ?_ ?_ ?_))
      · change updateAt s.vt.slots i _ = _
        rw [updateAt, hv]
        rfl
      · exact fun m hm => (Bool.and_eq_true_iff.mp (Bool.and_eq_true_iff.mp hm).1).1
      · intro m w hm hw
        obtain rfl : v = w := Option.some.inj (hv.symm.trans hw)
        exact fun hfault => of_decide_eq_true (Bool.and_eq_true_iff.mp hm).2 hfault.1
      · rintro m _ hm ⟨⟩
        have hmn := of_decide_eq_true (Bool.and_eq_true_iff.mp (Bool.and_eq_true_iff.mp hm).1).2
        exact fun hfault => hmn (Option.some.inj hfault.1).symm
    · have hnot : ∀ p, r ≠ .facts p := fun p hp => hfacts ⟨p, hp⟩
      refine reportFacts_keeps n hnot (reportFactsOf_keeps _ hnot (modSlot_keeps i _ (fun w _ => ?_) h))
      cases r with
      | facts p => exact absurd rfl (hnot p)
      | records c => exact absurd rfl (hr.2 c)
      | table => rfl
      | _ => trivial
  · exact .refl s

theorem applyLeak_keeps (hr : r.Whole) (i : Slot) (flag : Bool) (s : State) : Keeps r s (applyLeak i flag s) := by
  unfold applyLeak
  split
  · exact .refl s
  next v hv =>
    exact .ite (fun _ => .refl s) fun _ => slotFault_keeps hr hv (f := fun v => { v with leak := flag }) ⟨rfl, rfl⟩
      fun _ => .ite (fun _ => queueNotice_keeps) fun _ => queueNotice_keeps

theorem applyPowerLost_keeps (hr : r.Whole) (i : Slot) (flag : Bool) (s : State) : Keeps r s (applyPowerLost i flag s) := by
  unfold applyPowerLost
  split
  · exact .refl s
  next v hv =>
    have hfault (b : Bool) (kind : NoticeKind) (p : Nat) (src : Source) (ws : List Half) :
        Keeps r s (reportFactsOf v.sec (queueNotice kind p src ws (s.modSlot i fun v => { v with dewired := b }))) :=
      slotFault_keeps hr hv (f := fun v => { v with dewired := b }) ⟨rfl, rfl⟩ fun _ => queueNotice_keeps
    exact .ite (fun _ => hfault true _ _ _ _) fun _ => .ite (fun _ => hfault false _ _ _ _) fun _ => .refl s

theorem deferApproach_keeps (i : Slot) (b : Sw) (route : Route) (s : State) : Keeps r s (deferApproach i b route s) :=
  modSlot_standing_keeps i _

theorem settleApproach_keeps (i : Slot) (b : Sw) (route : Route) (s : State) : Keeps r s (settleApproach i b route s) := by
  unfold settleApproach
  split
  · exact .refl s
  next v _ =>
    split
    · exact swApproach_keeps b _ route s
    next q _ =>
      refine .ite (fun _ => swApproach_keeps b _ route s) fun _ => .ite (fun _ => deferApproach_keeps i b route s) fun _ => ?_
      exact .ite (fun _ => (swWithdraw_keeps q _ s).trans (swApproach_keeps b _ route _)) fun _ => deferApproach_keeps i b route s

theorem approachUnrecorded_keeps (b : Sw) (num : Nat) (route : Route) (s : State) :
    Keeps r s (approachUnrecorded b num route s) :=
  (keeps_forEach _ (fun k u => .ite (fun _ => swWithdraw_keeps k num u) fun _ => .refl u) s).trans
    (.ite (fun _ => .refl _) fun _ => swApproach_keeps b num route _)

theorem takeSighting_keeps (hr : r.Whole) (i : Slot) (a : Sta) (role : Role) (tel : Telegram) (s : State) :
    Keeps r s (takeSighting i a role tel s) := by
  have hrecord : Keeps r s (applyPowerLost i tel.powerLost (applyLeak i tel.leak (placeVehicle i role tel (sightVehicle i a s)))) :=
    (sightVehicle_keeps i a s).trans ((placeVehicle_keeps hr i role tel _).trans
      ((applyLeak_keeps hr i _ _).trans (applyPowerLost_keeps hr i _ _)))
  unfold takeSighting
  dsimp only
  split
  · exact hrecord
  · exact hrecord.trans (settleApproach_keeps i _ _ _)

theorem takeUnrecorded_keeps (a : Sta) (role : Role) (tel : Telegram) (s : State) : Keeps r s (takeUnrecorded a role tel s) := by
  have hfull : Keeps r s (if s.vt.fullArmed then
      queueNotice .tableFull 3 (.station (number a)) [word tel.number, word (number a)]
        (s.modVt fun t => { t with fullArmed := false })
    else s) :=
    .ite (fun _ => .trans (vt_keeps (vt := { s.vt with fullArmed := false }) rfl fun _ => .refl _) queueNotice_keeps) fun _ => .refl s
  unfold takeUnrecorded
  dsimp only
  split
  · exact hfull
  · exact hfull.trans (approachUnrecorded_keeps _ _ _ _)

theorem badTelegram_none {boundary : Bool} {tel : Telegram} (h : badTelegram boundary tel = none) :
    1 ≤ tel.number ∧ tel.number ≤ 9999 := by
  unfold badTelegram at h
  split at h
  · cases h
  · omega

theorem takeTelegram_keeps (hr : r.Whole) (a : Sta) (role : Role) (tel : Telegram) (s : State) :
    Keeps r s (takeTelegram a role tel s) := by
  unfold takeTelegram
  split
  · exact queueNotice_keeps
  next hgood =>
    split
    · exact takeSighting_keeps hr _ a role tel s
    next hnone =>
      split
      next i hi =>
        refine (makeVehicle_keeps hr a (slot_of_freeSlot hi) fun _ => ?_).trans (takeSighting_keeps hr i a role tel _)
        obtain ⟨hpos, hle⟩ := badTelegram_none hgood
        exact ⟨hpos, hle, hnone⟩
      · exact takeUnrecorded_keeps a role tel s

/-! ### Lost and forgotten vehicles (R111, R112) -/

theorem withdrawVehicle_keeps (v : Vehicle) (s : State) : Keeps r s (withdrawVehicle v s) := by
  unfold withdrawVehicle
  split
  · exact .refl s
  · exact .ite (fun _ => .refl s) fun _ => swWithdraw_keeps _ _ s

theorem loseVehicle_keeps (i : Slot) (v : Vehicle) (s : State) : Keeps r s (loseVehicle i v s) :=
  (modSlot_standing_keeps i fun v => { v with active := false, lostTimer := none }).trans
    ((withdrawVehicle_keeps v _).trans queueNotice_keeps)

theorem lostExpired_keeps (i : Slot) (s : State) : Keeps r s (lostExpired i s) := by
  unfold lostExpired
  split
  · exact .refl s
  · exact .ite (fun _ => loseVehicle_keeps i _ s) fun _ => .refl s

/-- A record leaves its slot, and its section is told if it carried a fault. -/
theorem clearSlot_keeps (hr : r.Whole) (hv : (s.vt.slots[i]).map Vehicle.facts = some v.facts) :
    Keeps r s (if v.leak || v.dewired then
        reportFactsOf v.sec (s.modVt fun t => { t with slots := t.slots.set i none, fullArmed := true })
      else s.modVt fun t => { t with slots := t.slots.set i none, fullArmed := true }) := by
  obtain ⟨w, hw, hfacts⟩ := Option.map_eq_some_iff.mp hv
  obtain ⟨-, hsec, hleak, hdewired⟩ : w.number = v.number ∧ w.sec = v.sec ∧ w.leak = v.leak ∧ w.dewired = v.dewired := by
    simpa [Vehicle.facts] using hfacts
  by_cases hr' : ∃ p, r = .facts p
  · obtain ⟨p, rfl⟩ := hr'
    intro h
    split
    · refine reportFactsOf_facts (facts_of_slot (i := i) (x := none) h (fun _ => rfl) rfl ?_ ?_ nofun)
      · exact fun m hm => (Bool.and_eq_true_iff.mp hm).1
      · intro m w' hm hw'
        obtain rfl : w = w' := Option.some.inj (hw.symm.trans hw')
        exact fun hfault => of_decide_eq_true (Bool.and_eq_true_iff.mp hm).2 (hsec.symm.trans hfault.1)
    next hnone =>
      refine facts_of_slot (i := i) (x := none) h (fun _ => rfl) rfl (fun _ => id) ?_ nofun
      intro m w' _ hw'
      obtain rfl : w = w' := Option.some.inj (hw.symm.trans hw')
      rintro ⟨-, hfault⟩
      rw [hleak, hdewired] at hfault
      exact hnone (by simpa using hfault)
  · have hnot : ∀ p, r ≠ .facts p := fun p hp => hr' ⟨p, hp⟩
    have hclear : Keeps r s (s.modVt fun t => { t with slots := t.slots.set i none, fullArmed := true }) := by
      intro h
      cases r with
      | facts p => exact absurd rfl (hnot p)
      | records c => exact absurd rfl (hr.2 c)
      | table =>
        obtain ⟨hunique, hrange⟩ := h
        have hback : ∀ (j : Slot) (u : Vehicle), (s.vt.slots.set i none)[j] = some u → s.vt.slots[j] = some u := by
          intro j u hu
          rw [set_get] at hu
          split at hu
          · cases hu
          · exact hu
        exact ⟨fun j j' u u' hu hu' => hunique j j' u u' (hback j u hu) (hback j' u' hu'),
          fun j u hu => hrange j u (hback j u hu)⟩
      | _ => exact h
    exact .ite (fun _ => hclear.trans (reportFactsOf_keeps _ hnot)) fun _ => hclear

theorem freeVehicle_keeps (hr : r.Whole) (i : Slot) (s : State) : Keeps r s (freeVehicle i s) := by
  unfold freeVehicle
  split
  · exact .refl s
  next v hv =>
    have hleft {r : Rule} : Keeps r s (withdrawVehicle v (s.modSlot i fun v => { v with deferred := none })) :=
      (modSlot_standing_keeps i _).trans (withdrawVehicle_keeps v _)
    have hstands := hleft (r := .records fun j => (s.vt.slots[j]).map Vehicle.facts) (fun _ => rfl) i
    refine hleft.trans (clearSlot_keeps hr (v := v) (hstands.trans ?_))
    exact congrArg (Option.map Vehicle.facts) hv

theorem forgetExpired_keeps (hr : r.Whole) (i : Slot) (s : State) : Keeps r s (forgetExpired i s) := by
  unfold forgetExpired
  split
  · exact .refl s
  next v _ =>
    refine .ite (fun _ => .refl s) fun _ => ?_
    have htimer : Keeps r s (s.modSlot i fun v => { v with forgetTimer := none }) := modSlot_standing_keeps i _
    have hlose (u : State) : Keeps r u (if v.active then loseVehicle i v u else u) :=
      .ite (fun _ => loseVehicle_keeps i v u) fun _ => .refl u
    refine htimer.trans ((hlose _).trans (.ite (fun _ => ?_) fun _ => ?_))
    · exact (modSlot_standing_keeps i fun v => { v with overdue := true }).trans queueNotice_keeps
    · exact (freeVehicle_keeps hr i _).trans queueNotice_keeps

/-! ### Requests (R110, R114, R115) -/

theorem setVehicleTiming_keeps (p : List Byte) (s : State) : Keeps r s (setVehicleTiming p s).state :=
  vt_keeps (vt := { s.vt with
    lostTime := clamp 1000 3600000 (wideAt p 0)
    forgetTime := clamp (clamp 1000 3600000 (wideAt p 0)) 86400000 (wideAt p 4) }) rfl fun _ => .refl _

theorem namingVehicle_keeps (p : List Byte) (missing : List ReplyField) (owner : Slot → Vehicle → State → Answer)
    (h : ∀ i v, s.vt.slots[i] = some v → Keeps r s (owner i v s).state) :
    Keeps r s (namingVehicle p missing owner s).state := by
  unfold namingVehicle
  dsimp only
  split
  · exact .refl s
  · split
    · exact .refl s
    · split
      · exact .refl s
      next v hv => exact h _ v hv

theorem removeVehicle_keeps (hr : r.Whole) (p : List Byte) (s : State) : Keeps r s (removeVehicle p s).state := by
  refine namingVehicle_keeps p _ _ fun i v _ => ?_
  split
  · exact .refl s
  · rw [accept_state]; exact freeVehicle_keeps hr i s

/-- A report moves a section, and no record of the Vehicle Table. -/
theorem reportFacts_vt (n : Sec) (s : State) : (reportFacts n s).vt = s.vt := by
  unfold reportFacts setHolds holdsChanged
  dsimp only
  split
  · obtain ⟨secs, arb, heq, -⟩ := joinTestList_granted n (enter n .testWait (s.modSec n fun a =>
      { a with holds := { a.holds with
        leak := decide (0 < s.leaking n) && s.secs[n].settings.leakHold, dewired := decide (0 < s.dewired n) } }))
    rw [enterTestWait, heq]
    rfl
  · rfl

theorem reportFactsOf_vt (n : Option Sec) (s : State) : (reportFactsOf n s).vt = s.vt := by
  unfold reportFactsOf
  split
  · rfl
  · exact reportFacts_vt _ s

theorem clearFault_keeps (hr : r.Whole) (p : List Byte) (s : State) : Keeps r s (clearFault p s).state := by
  unfold clearFault
  dsimp only
  split
  · exact .refl s
  · refine namingVehicle_keeps p _ _ fun i v hv => ?_
    have hcleared {u : State} {w : Vehicle} (hw : u.vt.slots[i] = some w) (hsec : w.sec = v.sec) (fault : Half)
        (f : Vehicle → Vehicle) (hf : (f w).number = w.number ∧ (f w).sec = w.sec) :
        Keeps r u (clearedByHost v fault (u.modSlot i f)) := by
      unfold clearedByHost
      rw [← hsec]
      exact slotFault_keeps hr hw hf fun _ => queueNotice_keeps
    rw [accept_state]
    have hslot (b : Bool) : ∃ w, (if b = true then
        clearedByHost v 0 (s.modSlot i fun v => { v with leak := false }) else s).vt.slots[i] = some w ∧ w.sec = v.sec := by
      cases b with
      | false => exact ⟨v, hv, rfl⟩
      | true =>
        refine ⟨{ v with leak := false }, ?_, rfl⟩
        change (clearedByHost v 0 (s.modSlot i fun v => { v with leak := false })).vt.slots[i] = _
        rw [clearedByHost, reportFactsOf_vt]
        change (updateAt s.vt.slots i _)[i] = _
        rw [updateAt_same, hv]
        rfl
    obtain ⟨w, hw, hsec⟩ := hslot (v.leak && octetAt p 2 % 2 == 1)
    refine .trans (.ite (fun _ => hcleared hv rfl 0 _ ⟨rfl, rfl⟩) fun _ => .refl s) (.ite (fun _ => ?_) fun _ => .refl _)
    exact hcleared hw hsec 1 _ ⟨rfl, rfl⟩

end Sys2Proof.Machine
end

section
/-!
The Field Loop Controller's operations keep the rules (R143 to R162).
-/

namespace Sys2Proof.Machine

variable {r : Rule} {s t : State} {a : Sta}

/-! ### Failures (R153, R156) -/

theorem tellStation_keeps (a : Sta) (st : StationState) (s : State) : Keeps r s (tellStation a st s) := by
  unfold tellStation
  split
  · exact .refl s
  · exact swStation_keeps _ st s

theorem stationLost_keeps (a : Sta) (s : State) : Keeps r s (stationLost a s) :=
  .trans (modStation_keeps a (fun x => { x with state := .lost }) rfl) ((tellStation_keeps a .lost _).trans queueNotice_keeps)

theorem pollFailed_keeps (a : Sta) (cause : LoopFailure) (s : State) : Keeps r s (pollFailed a cause s) :=
  .trans (modStation_keeps a (fun x => { x with failures := min 3 (x.failures + 1), lastFailure := cause }) rfl)
    (.ite (fun _ => stationLost_keeps a _) fun _ => .refl _)

theorem censusFailed_keeps (a : Sta) (cause : LoopFailure) (s : State) : Keeps r s (censusFailed a cause s) :=
  modStation_keeps a _ rfl

theorem exchangeFailed_keeps (e : Exchange) (cause : LoopFailure) (s : State) : Keeps r s (exchangeFailed e cause s) := by
  unfold exchangeFailed
  refine (dropExchange_keeps s).trans (.trans ?_ (nextExchange_keeps _))
  split
  · exact censusFailed_keeps _ cause _
  · exact pollFailed_keeps _ cause _
  · exact pollFailed_keeps _ cause _

/-! ### Replies (R152, R154, R155, R157) -/

theorem handTelegrams_keeps (hr : r.Whole) (a : Sta) (role : Role) (ts : List Telegram) (s : State) :
    Keeps r s (handTelegrams a role ts s) :=
  keeps_forEach ts (takeTelegram_keeps hr a role) s

theorem handPosition_keeps (k : Sw) (position : Nat) (s : State) : Keeps r s (handPosition k position s) := by
  unfold handPosition
  split
  · exact .refl s
  · exact swPosition_keeps k _ s

theorem handToSwitch_keeps (k : Sw) (c : LoopCommand) (isNew : Bool) (reply : LoopReply) (s : State) :
    Keeps r s (handToSwitch k c isNew reply s) := by
  unfold handToSwitch
  refine .trans ?_ (.trans (.ite (fun _ => keeps_forEach _ (swContact_keeps k) _) fun _ => .refl _) (handPosition_keeps k _ _))
  cases c with
  | drive => exact driveAccepted_keeps k s
  | poll => exact .refl s
  | census => exact .refl s

theorem pollSucceeded_keeps (hr : r.Whole) (e : Exchange) (reply : LoopReply) (s : State) :
    Keeps r s (pollSucceeded e reply s) := by
  unfold pollSucceeded
  refine .trans (modStation_keeps e.station (fun x => { x with failures := 0, mark := some reply.mark }) rfl)
    (.trans ?_ (.ite (fun _ => handTelegrams_keeps hr _ _ _ _) fun _ => .refl _))
  split
  · exact .refl _
  · exact handToSwitch_keeps _ _ _ _ _

theorem censusMismatch_keeps (a : Sta) (reply : LoopReply) (s : State) : Keeps r s (censusMismatch a reply s) :=
  .trans (modStation_keeps a (fun x => { x with state := .disabled }) rfl)
    ((tellStation_keeps a .disabled _).trans queueNotice_keeps)

theorem censusFound_keeps (hr : r.Whole) (a : Sta) (reply : LoopReply) (s : State) : Keeps r s (censusFound a reply s) := by
  unfold censusFound
  refine .trans (modStation_keeps a (fun x => { x with state := .online, failures := 0, mark := some reply.mark }) rfl)
    (.trans (modLoop_keeps (fun l => { l with found := some a }) fun _ => rfl) (.trans ?_
      (.trans (.ite (fun _ => handTelegrams_keeps hr _ _ _ _) fun _ => .refl _) queueNotice_keeps)))
  split
  · exact swOnline_keeps _ _ _ _
  · exact .refl _

theorem censusSucceeded_keeps (hr : r.Whole) (a : Sta) (reply : LoopReply) (s : State) :
    Keeps r s (censusSucceeded a reply s) :=
  .ite (fun _ => censusFound_keeps hr a reply s) fun _ => censusMismatch_keeps a reply s

theorem exchangeSucceeded_keeps (hr : r.Whole) (e : Exchange) (reply : LoopReply) (s : State) :
    Keeps r s (exchangeSucceeded e reply s) := by
  unfold exchangeSucceeded
  refine (dropExchange_keeps s).trans (.trans ?_ (nextExchange_keeps _))
  split
  · exact censusSucceeded_keeps hr _ _ _
  · exact pollSucceeded_keeps hr _ _ _
  · exact pollSucceeded_keeps hr _ _ _

theorem judgeReply_keeps (hr : r.Whole) (e : Exchange) (octets : List Byte) (s : State) :
    Keeps r s (judgeReply e octets s) := by
  unfold judgeReply
  dsimp only
  split
  · exact exchangeFailed_keeps e _ s
  · exact exchangeSucceeded_keeps hr e _ s

/-! ### Events on the loop (R147, R150 to R152) -/

theorem loopSent_keeps (s : State) : Keeps r s (loopSent s) := by
  unfold loopSent
  split
  · exact .refl s
  · split
    · exact modLoop_keeps _ fun _ => rfl
    · exact .refl s
    · exact .refl s

theorem startLimitExpired_keeps (s : State) : Keeps r s (startLimitExpired s) := by
  unfold startLimitExpired
  split
  · exact .refl s
  · split
    · exact exchangeFailed_keeps _ _ s
    · exact .refl s
    · exact .refl s

theorem gapLimitExpired_keeps (s : State) : Keeps r s (gapLimitExpired s) := by
  unfold gapLimitExpired
  split
  · exact .refl s
  · split
    · exact exchangeFailed_keeps _ _ s
    · exact .refl s
    · exact .refl s

theorem loopCompleted_keeps (hr : r.Whole) (octets : List Byte) (s : State) : Keeps r s (loopCompleted octets s) := by
  unfold loopCompleted
  split
  · exact .refl s
  · split
    · exact .refl s
    · exact judgeReply_keeps hr _ _ s
    · exact judgeReply_keeps hr _ _ s

theorem loopReceived_keeps (hr : r.Whole) (e : Exchange) (octets : List Byte) (s : State) :
    Keeps r s (loopReceived e octets s) :=
  .ite (fun _ => exchangeFailed_keeps e _ s) fun _ => .ite (fun _ => judgeReply_keeps hr e octets s)
    fun _ => modLoop_keeps _ fun _ => rfl

theorem loopOctet_keeps (hr : r.Whole) (b : Byte) (s : State) : Keeps r s (loopOctet b s) := by
  unfold loopOctet
  split
  · exact .refl s
  · split
    · exact .refl s
    · exact loopReceived_keeps hr _ _ s
    · exact loopReceived_keeps hr _ _ s

theorem cycleExpired_keeps (s : State) : Keeps r s (cycleExpired s) :=
  .ite (fun _ => .ite (fun _ => modLoop_keeps _ fun _ => rfl) fun _ => newCycle_keeps s) fun _ => .refl s

theorem loopRestart_keeps (s : State) : Keeps r s (loopRestart s) :=
  .trans (modLoop_keeps (fun l => { l with holding := false }) fun _ => rfl) (resetCycle_keeps _)

/-! ### Requests (R143, R144, R148, R159, R160) -/

theorem rewriting_keeps {f : State → State} (h : ∀ t : State, t.loop.stations = s.loop.stations → Keeps r t (f t)) :
    Keeps r s (rewriting a f s) :=
  .ite (fun _ => (dropExchange_keeps s).trans ((h (dropExchange s) rfl).trans (nextExchange_keeps _))) fun _ => h s rfl

theorem endBinding_keeps (before after : Option Sw) (s : State) : Keeps r s (endBinding before after s) := by
  unfold endBinding
  split
  · exact .refl s
  · exact .ite (fun _ => .refl s) fun _ => swUnbind_keeps _ s

theorem Role.switchPoint_eq_some {role : Role} {k : Sw} : role.switchPoint = some k ↔ role = .switch (some k) := by
  cases role <;> simp [Role.switchPoint]

theorem Loop.boundElsewhere_eq_false {l : Loop} {role : Role} (h : l.boundElsewhere a role.switchPoint = false) {b : Sta}
    {k : Sw} (hb : b ≠ a) (hrole : role = .switch (some k)) : l.stations[b].role ≠ .switch (some k) := by
  intro hbound
  have hany : l.boundElsewhere a role.switchPoint = true := by
    simp only [Loop.boundElsewhere, Role.switchPoint_eq_some.mpr hrole, Option.isSome_some, Bool.true_and, List.any_eq_true,
      Bool.and_eq_true, decide_eq_true_eq]
    exact ⟨b, List.mem_finRange b, hb, Role.switchPoint_eq_some.mpr hbound⟩
  rw [h] at hany
  cases hany

/-- A record whose switch point no other record binds. -/
theorem setRole_keeps {x : Station} (h : s.loop.boundElsewhere a x.role.switchPoint = false) :
    Keeps r s (s.modStation a fun _ => x) := by
  cases r with
  | bindings =>
    have hother {b : Sta} (hb : b ≠ a) : (s.modStation a fun _ => x).loop.stations[b] = s.loop.stations[b] :=
      updateAt_other _ hb _
    have hself : (s.modStation a fun _ => x).loop.stations[a] = x := updateAt_same ..
    intro hs b c k hb hc
    by_cases hba : b = a <;> by_cases hca : c = a
    · rw [hba, hca]
    · rw [hba, hself] at hb
      rw [hother hca] at hc
      exact absurd hc (Loop.boundElsewhere_eq_false h hca hb)
    · rw [hother hba] at hb
      rw [hca, hself] at hc
      exact absurd hb (Loop.boundElsewhere_eq_false h hba hc)
    · rw [hother hba] at hb
      rw [hother hca] at hc
      exact hs b c k hb hc
  | _ => exact id

theorem storeStation_keeps {role : Role} (relax : Nat) (h : s.loop.boundElsewhere a role.switchPoint = false) :
    Keeps r s (storeStation a role relax s) := by
  unfold storeStation
  have hset := setRole_keeps (r := r) (x := { role := role, relax := relax, state := .census }) h
  have hend := hset.trans (endBinding_keeps s.loop.stations[a].role.switchPoint role.switchPoint _)
  dsimp only
  split
  · exact hend
  · exact hend.trans (swBind_keeps _ a _)

theorem setStation_keeps (p : List Byte) (s : State) : Keeps r s (setStation p s).state := by
  refine naming_keeps p _ fun a => ?_
  split
  · exact .refl s
  · split
    · exact .refl s
    next hfree =>
      rw [accept_state]
      refine rewriting_keeps fun t ht => storeStation_keeps _ ?_
      rw [Loop.boundElsewhere, ht]
      simpa [Loop.boundElsewhere] using hfree

theorem clearStation_keeps (a : Sta) (s : State) : Keeps r s (clearStation a s) :=
  (endBinding_keeps _ none s).trans (setRole_keeps (x := {}) rfl)

theorem removeStation_keeps (p : List Byte) (s : State) : Keeps r s (removeStation p s).state := by
  refine naming_keeps p _ fun a => ?_
  split
  · exact .refl s
  · rw [accept_state]; exact rewriting_keeps fun t _ => clearStation_keeps a t

theorem setCycleTime_keeps (p : List Byte) (s : State) : Keeps r s (setCycleTime p s).state := modLoop_keeps _ fun _ => rfl

theorem loopSkip_keeps (s : State) : Keeps r s (loopSkip s).state := by
  unfold loopSkip
  split
  · exact .refl s
  · exact abortAndContinue_keeps s

theorem loopReset_keeps (s : State) : Keeps r s (loopReset s).state := resetCycle_keeps s

end Sys2Proof.Machine
end

section
/-!
The operations of the Sample side, the Notice Queue and the Clock keep the rules, and so does cold reset (R12 to R45, R75,
R169, R171, R183).
-/

namespace Sys2Proof.Machine

variable {r : Rule} {s t : State} {n : Sec}

/-! ### Condition Generators (R27 to R35) -/

theorem tellChange_keeps (g : Gen) (before : Bool) (s : State) : Keeps r s (tellChange g before s) :=
  .ite (fun _ => .refl s) fun _ => tellGate_keeps g _ s

theorem evaluateGenerator_keeps (n : Sec) (e : CaptureEntry) (g : Gen) (s : State) : Keeps r s (evaluateGenerator n e g s) :=
  .trans (modGen_keeps g (fun _ => (s.gens[g].evaluated e (s.present n) s.secs[n].feedback).1) s)
    (.trans (.ite (fun _ => queueNotice_keeps) fun _ => .refl _)
      (.trans (tellChange_keeps g s.gens[g].gateOpen _) (.ite (fun _ => tripRequest_keeps n _ _ _) fun _ => .refl _)))

theorem evaluateGenerators_keeps (order : List Gen) (n : Sec) (e : CaptureEntry) (s : State) :
    Keeps r s (evaluateGenerators order n e s) :=
  keeps_forEach order (fun g s => .ite (fun _ => evaluateGenerator_keeps n e g s) fun _ => .refl s) s

theorem generatorOff_keeps (g : Gen) (s : State) : Keeps r s (generatorOff g s) :=
  (modGen_keeps g _ s).trans (tellChange_keeps g _ _)

theorem generatorsRestart_keeps (s : State) : Keeps r s (generatorsRestart s) :=
  keeps_forEach _ (fun g s => (generatorOff_keeps g s).trans (modGen_keeps g _ _)) s

theorem setCondition_keeps (p : List Byte) (s : State) : Keeps r s (setCondition p s).state :=
  naming_keeps p _ fun g => by
    split
    · exact .refl s
    · exact (generatorOff_keeps g s).trans (modGen_keeps g _ _)

theorem ackCondition_keeps (p : List Byte) (s : State) : Keeps r s (ackCondition p s).state :=
  naming_keeps p _ fun g => by
    split
    · exact generatorOff_keeps g s
    · exact .refl s

/-! ### Capture requests (R37, R43) -/

theorem one_le_clamp (hi k : Nat) : 1 ≤ clamp 1 hi k := Nat.le_max_left ..

theorem setCapture_keeps (p : List Byte) (s : State) : Keeps r s (setCapture p s).state :=
  naming_keeps p _ fun n => by
    split
    · exact modCap_keeps n _ fun _ _ => Capture.restarted_rangeOk (one_le_clamp ..)
    · exact .refl s

theorem Capture.fetched_rangeOk {b : Capture} (h : b.RangeOk) (count : Nat) : (b.fetched count).RangeOk := by
  obtain ⟨hlen, hfilling, hdec, hcount⟩ := h
  have hdrop : (b.fetched count).entries.length ≤ b.entries.length := by simp [Capture.fetched]
  exact ⟨hdrop.trans hlen, fun hst => Nat.lt_of_le_of_lt hdrop (hfilling hst), hdec, hcount⟩

theorem fetchCapture_keeps (p : List Byte) (s : State) : Keeps r s (fetchCapture p s).state :=
  naming_keeps p _ fun n => modCap_keeps n _ fun _ h => Capture.fetched_rangeOk h _

/-! ### The computation of an arrival (R12 to R20) -/

/-- The filter moves from where it stands toward the arrival's current, never past it (R18). -/
theorem filterStep_between {shift : Nat} {i acc lo hi : Int} (hi₁ : lo ≤ i * 256) (hi₂ : i * 256 ≤ hi) (ha₁ : lo ≤ acc)
    (ha₂ : acc ≤ hi) : lo ≤ filterStep shift i acc ∧ filterStep shift i acc ≤ hi := by
  have hpow : (0 : Int) < ((2 ^ shift : Nat) : Int) := by positivity
  simp only [filterStep, Int.shiftRight_eq_div_pow]
  obtain hd | hd := le_total 0 (i * 256 - acc)
  · have hnonneg := Int.ediv_nonneg hd hpow.le
    have hle := Int.ediv_le_self ((2 ^ shift : Nat) : Int) hd
    omega
  · have hneg : (i * 256 - acc) / ((2 ^ shift : Nat) : Int) ≤ 0 := Int.ediv_le_of_le_mul hpow (by simpa using hd)
    have hge : i * 256 - acc ≤ (i * 256 - acc) / ((2 ^ shift : Nat) : Int) :=
      (Int.le_ediv_iff_mul_le hpow).mpr (by nlinarith)
    omega

theorem sustainedStep_le (c : Protection) (f : Int) (count : Nat) : sustainedStep c f count ≤ c.duration := by
  unfold sustainedStep
  split
  · exact Nat.min_le_right ..
  · exact Nat.zero_le _

/-- A current code (R186). -/
def CurrentCode (i : Int) : Prop := -16384 ≤ i ∧ i ≤ 16383

theorem currentOf_code (k : Nat) : CurrentCode (currentOf k) := by
  have hlow := BitVec.le_toInt (BitVec.ofNat 15 k)
  have hhigh := BitVec.toInt_lt (x := BitVec.ofNat 15 k)
  norm_num at hlow hhigh
  exact ⟨hlow, Int.le_of_lt_add_one hhigh⟩

theorem parseSampleFrame_code {octets : List Byte} {f : SampleFrame} (h : parseSampleFrame octets = some f) (n : Sec) :
    CurrentCode f.current[n] := by
  unfold parseSampleFrame at h
  split at h
  · cases h
  · obtain rfl := Option.some.inj h
    simpa using currentOf_code _

theorem Fpu.restartHistory_rangeOk {f : Fpu} (h : f.RangeOk) : f.restartHistory.RangeOk := by
  obtain ⟨-, -, hrest⟩ := h
  exact ⟨Nat.zero_le _, nofun, hrest⟩

theorem Fpu.prepared_rangeOk {f : Fpu} {i : Int} (h : f.RangeOk) (hi : CurrentCode i) : (f.prepared i).RangeOk := by
  obtain ⟨hlow, hhigh⟩ := hi
  obtain ⟨hlen, hhist, hl₁, hl₂, ha₁, ha₂, hsus, hdur⟩ := id h
  unfold Fpu.prepared
  split
  · exact h
  · exact ⟨Nat.zero_le _, nofun, hl₁, hl₂, by dsimp only; omega, by dsimp only; omega, Nat.zero_le _, hdur⟩
  · exact ⟨Nat.zero_le _, nofun, hl₁, hl₂, by dsimp only; omega, by dsimp only; omega, Nat.zero_le _, hdur⟩

theorem Fpu.judge_rangeOk {f : Fpu} {i : Int} (h : f.RangeOk) (hi : CurrentCode i) (u nActive : Nat) :
    (f.judge i u nActive).fpu.RangeOk := by
  obtain ⟨hlow, hhigh⟩ := id hi
  obtain ⟨-, hhist, -, -, ha₁, ha₂, -, hdur⟩ := h
  have hfilter := filterStep_between (shift := f.protection.shift) (i := i) (by omega) (by omega) ha₁ ha₂
  refine ⟨List.length_take_le .., fun j hj => ?_, hlow, hhigh, hfilter.1, hfilter.2, (sustainedStep_le ..).trans hdur, hdur⟩
  obtain rfl | hj := List.mem_cons.mp (List.mem_of_mem_take hj)
  · exact hi
  · exact hhist j hj

/-! ### An arrival (R3, R8, R21 to R24) -/

theorem reportRestored_keeps (n : Sec) (s : State) : Keeps r s (reportRestored n s) := by
  unfold reportRestored
  split
  · exact queueNotice_keeps
  · exact .refl s

@[simp] theorem reportRestored_fpus (n : Sec) (s : State) : (reportRestored n s).fpus = s.fpus := by
  unfold reportRestored
  split <;> rfl

theorem handTrips_keeps (n : Sec) (j : Judged) (s : State) : Keeps r s (handTrips n j s) :=
  have hand (b : Bool) (c : Cause) (v : TripValues) (s : State) : Keeps r s (if b then tripRequest n c v s else s) :=
    .ite (fun _ => tripRequest_keeps n c v s) fun _ => .refl s
  (hand j.instant .instant _ s).trans ((hand j.step .step _ _).trans (hand j.sustained .sustained _ _))

theorem handOver_keeps (gens : List Gen) (n : Sec) (j : Judged) (h : HandOver) (s : State) :
    Keeps r s (handOver gens n j h s) := by
  cases h with
  | trips => exact handTrips_keeps n j s
  | values => exact evaluateGenerators_keeps gens n j.entry s
  | entry => exact captureEntry_keeps n j.entry s

theorem arrival_keeps (n : Sec) {i : Int} (hi : CurrentCode i) (u : Nat) (s : State) : Keeps r s (arrival n i u s) := by
  refine (reportRestored_keeps n s).trans (.trans (modFpu_keeps n _ fun h => ?_) (keeps_forEach _ (handOver_keeps _ n _) _))
  exact Fpu.judge_rangeOk (Fpu.prepared_rangeOk h hi) hi ..

/-! ### The Sample Port and measurement loss (R1 to R7) -/

theorem takeCount_keeps (got : Byte) (s : State) : Keeps r s (takeCount got s) := by
  refine .trans ?_ (port_keeps _ _)
  split
  · exact .refl s
  · exact .ite (fun _ => .refl s) fun _ => (mapFpus_keeps _ (fun _ => Fpu.restartHistory_rangeOk) s).trans queueNotice_keeps

theorem deliverSets_keeps {f : SampleFrame} (hf : ∀ n : Sec, CurrentCode f.current[n]) (order : List Sec) (s : State) :
    Keeps r s (deliverSets f order s) :=
  keeps_forEach order (fun n s => .ite (fun _ => arrival_keeps n (hf n) _ s) fun _ => .refl s) s

theorem sampleFrameEnded_keeps (octets : List Byte) (s : State) : Keeps r s (sampleFrameEnded octets s) := by
  unfold sampleFrameEnded
  split
  · exact .refl s
  next f hf =>
    exact (takeCount_keeps f.count s).trans ((deliverSets_keeps (parseSampleFrame_code hf) _ _).trans
      ((deliverToLineTest_keeps f _).trans (drawn_keeps _)))

theorem enterLost_keeps (n : Sec) (cause : LossCause) (s : State) : Keeps r s (enterLost n cause s) := by
  have hlost := modFpu_keeps (r := r) (s := s) n (Fpu.enterLost cause s.clock) id
  unfold enterLost
  dsimp only
  split
  · exact hlost.trans (queueNotice_keeps.trans (tripRequest_keeps n _ _ _))
  · exact hlost.trans queueNotice_keeps

theorem lossExpired_keeps (n : Sec) (s : State) : Keeps r s (lossExpired n s) :=
  .ite (fun _ => enterLost_keeps n _ s) fun _ => .refl s

theorem frameSilence_keeps (s : State) : Keeps r s (frameSilence s) :=
  .ite (fun _ => (port_keeps _ s).trans ((keeps_forEach _ (fun n s => .ite (fun _ => .refl s) fun _ => enterLost_keeps n _ s)
    _).trans (drawn_keeps _))) fun _ => .refl s

/-! ### Protection requests (R10, R19) -/

theorem parseProtection_duration {p : List Byte} {c : Protection} (h : parseProtection p = some c) : c.duration ≤ 65535 := by
  unfold parseProtection at h
  split at h
  · cases h
  · obtain rfl := Option.some.inj h
    dsimp only [clamp]
    omega

theorem setProtection_keeps (p : List Byte) (s : State) : Keeps r s (setProtection p s).state :=
  naming_keeps p _ fun n => by
    split
    · exact .refl s
    next c hc =>
      refine modFpu_keeps n _ fun ⟨hlen, hhist, hl₁, hl₂, ha₁, ha₂, hsus, _⟩ => ?_
      exact ⟨hlen, hhist, hl₁, hl₂, ha₁, ha₂, hsus, parseProtection_duration hc⟩

theorem rebaseFilter_keeps (p : List Byte) (s : State) : Keeps r s (rebaseFilter p s).state :=
  naming_keeps p _ fun n => by
    split
    · refine modFpu_keeps n _ fun ⟨hlen, hhist, hl₁, hl₂, _, _, hsus, hdur⟩ => ?_
      exact ⟨hlen, hhist, hl₁, hl₂, by dsimp only; omega, by dsimp only; omega, hsus, hdur⟩
    · exact .refl s

/-! ### Notices and the Clock (R169, R171, R183) -/

theorem modNotices_keeps (f : NoticeQueue → NoticeQueue) (h : NoticesOk s.notices → NoticesOk (f s.notices)) :
    Keeps r s (s.modNotices f) := by
  cases r with
  | notices => exact h
  | _ => exact id

theorem NoticesOk.fetched {q : NoticeQueue} (h : NoticesOk q) {count : Nat} (hcount : 1 ≤ count) :
    NoticesOk (q.fetched count) := by
  obtain ⟨hlen, hroom, hnewest, hentry, hmask, -⟩ := h
  have hlength : (q.fetched count).records.length = q.records.length - count := List.length_drop ..
  refine ⟨by omega, fun _ => ?_, fun ho => ?_, fun ⟨i, hi⟩ => ?_, hmask, attnLevel_iff⟩
  · cases hq : q.overflow with
    | false => have := hroom hq; omega
    | true => omega
  · obtain ⟨hover, hempty⟩ : q.overflow = true ∧ q.records.isEmpty = true := by
      simpa [NoticeQueue.fetched, NoticeQueue.withAttn] using ho
    simpa [List.isEmpty_iff.mp hempty] using hnewest hover
  · have hi' : count + i < q.records.length := by omega
    have hold : q.records[count + i].entry = _ := hentry ⟨count + i, hi'⟩
    have hdrop : (q.fetched count).records[i] = q.records[count + i] := List.getElem_drop ..
    rw [Fin.getElem_fin, hdrop, hold]
    simp only [hlength, Nat.sub_sub]
    rfl

theorem fetchNotices_keeps (p : List Byte) (s : State) : Keeps r s (fetchNotices p s).state :=
  modNotices_keeps _ fun h => h.fetched (one_le_clamp ..)

theorem setAttention_keeps (p : List Byte) (s : State) : Keeps r s (setAttention p s).state :=
  modNotices_keeps _ fun ⟨hlen, hroom, hnewest, hentry, _, _⟩ =>
    ⟨hlen, hroom, hnewest, hentry, by rw [NoticeQueue.withAttn, clamp_zero]; exact Nat.min_le_right .., attnLevel_iff⟩

theorem setTime_keeps (p : List Byte) (s : State) : Keeps r s (setTime p s).state := clock_keeps _ s

/-! ### One millisecond (R183) -/

theorem tickTimer_isSome (t : Timer) : (tickTimer t).isSome = t.isSome := Option.isSome_map

theorem Section.tick_keepsSec (halted : Bool) (a : Section) : r.KeepsSec halted a (a.tick halted) := by
  cases halted with
  | true => exact .of_core rfl
  | false =>
    cases r with
    | lines =>
      rintro ⟨hclose, htest, hhalt, hrun⟩
      refine ⟨hclose, htest, hhalt, fun h => ?_⟩
      obtain ⟨hreleased, hasserted, hopening⟩ := hrun h
      exact ⟨hreleased, hasserted, fun ho => (tickTimer_isSome _).trans (hopening ho)⟩
    | timers => exact ⟨rfl, tickTimer_isSome _⟩
    | resting => exact fun _ => .inl rfl
    | failure => exact id
    | attempts => exact id
    | facts => exact ⟨rfl, rfl, rfl⟩
    | frogs => exact rfl
    | tests => exact rfl
    | locks => exact rfl
    | _ => trivial

theorem Vehicle.tick_keepsSlot (a : Option Vehicle) : r.KeepsSlot a (a.map Vehicle.tick) := by
  cases a with
  | none => exact Rule.KeepsSlot.refl none
  | some v => cases r <;> simp [Rule.KeepsSlot, Vehicle.tick, Vehicle.facts]

theorem mapSecs_keeps (f : Section → Section) (s : State) (h : ∀ a, r.KeepsSec s.halted a (f a)) :
    Keeps r s { s with secs := s.secs.map f } :=
  secs_keeps (arb := s.arb) (fun _ => rfl) fun m => by simpa using h _

theorem mapSlots_keeps (f : Vehicle → Vehicle) (s : State) (h : ∀ a, r.KeepsSlot a (a.map f)) :
    Keeps r s { s with vt := { s.vt with slots := s.vt.slots.map (Option.map f) } } :=
  vt_keeps rfl fun i => by simpa using h _

theorem mapSws_keeps (f : SwitchPoint → SwitchPoint) (s : State) (h : ∀ w, r.KeepsSw w (f w)) :
    Keeps r s { s with sws := s.sws.map f } :=
  sws_keeps fun k => by simpa using h _

theorem millisecond_keeps (s : State) : Keeps r s (millisecond s) :=
  (mapSecs_keeps (Section.tick s.halted) s fun _ => Section.tick_keepsSec ..).trans
    ((clock_keeps (s.clock + 1) _).trans
    ((port_keeps { s.port with frameTimer := tickTimer s.port.frameTimer } _).trans
    ((mapFpus_keeps (fun f => { f with lossTimer := tickTimer f.lossTimer }) (fun _ => id) _).trans
    ((mapContexts_keeps TestContext.tick (fun _ => rfl) _).trans
    ((mapSlots_keeps Vehicle.tick _ Vehicle.tick_keepsSlot).trans
    ((mapSws_keeps SwitchPoint.tick _ fun _ => .of_core rfl).trans
    ((modLoop_keeps Loop.tick fun _ => rfl).trans (modLink_keeps Link.tick _))))))))

/-! ### Cold reset (R75) -/

theorem Section.cold_linesOk (f : Feedback) : (Section.cold f).LinesOk false := by
  cases f <;> simp [Section.cold, Section.LinesOk, SecState.openLike]

/-- A section at cold reset has no sequence, no hold and no hold timer, and is CLOSED or OPEN. -/
theorem Section.cold_standing (f : Feedback) :
    (Section.cold f).AttemptOk ∧ (Section.cold f).holds = {} ∧ (Section.cold f).holdTimer = none ∧
    ((Section.cold f).state = .closed ∨ (Section.cold f).state = .opened) := by
  cases f <;> simp [Section.cold, Section.AttemptOk]

section
variable (highRate : Bool) (contacts : Vector Contacts 8)

theorem State.cold_secs (n : Sec) :
    (State.cold highRate contacts).secs[n] = Section.cold (Feedback.ofContacts contacts[n]) := by simp [State.cold]

theorem State.cold_sws (k : Sw) : (State.cold highRate contacts).sws[k] = {} := by simp [State.cold]

theorem State.cold_slots (i : Slot) : (State.cold highRate contacts).vt.slots[i] = none := by simp [State.cold]

theorem State.cold_no_vehicles (n : Sec) (p : Vehicle → Bool) : ¬ 0 < (State.cold highRate contacts).countVehicles n p := by
  rw [State.countVehicles_pos]
  rintro ⟨i, v, hv, -⟩
  rw [State.cold_slots] at hv
  cases hv

theorem State.cold_agrees : (State.cold highRate contacts).arb.Agrees ((State.cold highRate contacts).statesBut none) := by
  have htest (n : Sec) : ((State.cold highRate contacts).statesBut none n).onTest = false := by
    obtain ⟨-, -, -, h | h⟩ := Section.cold_standing (Feedback.ofContacts contacts[n]) <;>
      rw [State.statesBut, State.cold_secs, h] <;> rfl
  simp only [SecState.onTest_eq_false] at htest
  refine ⟨.inl rfl, List.nodup_nil, fun n => ⟨nofun, fun h => absurd h (htest n).1⟩, fun n => ?_, fun c d n hc => ?_, fun c => ?_⟩
  · refine ⟨?_, fun h => absurd h (htest n).2⟩
    rintro ⟨c, hc⟩
    simp [State.cold] at hc
  · simp [State.cold] at hc
  · simp [State.cold]

theorem State.cold_holds (hr : r.Whole) (hq : ∀ q, r ≠ .pending q) : r.Holds (State.cold highRate contacts) := by
  have hstanding (n : Sec) := Section.cold_standing (Feedback.ofContacts contacts[n])
  cases r with
  | pending q => exact absurd rfl (hq q)
  | records c => exact absurd rfl (hr.2 c)
  | notices => simp [Rule.Holds, NoticesOk, State.cold]
  | lines => intro n; rw [State.cold_secs]; exact Section.cold_linesOk _
  | failure => rintro (h | h) <;> cases h
  | frogs =>
    refine ⟨⟨fun n => ?_, fun k n hk => ?_⟩, fun k => ?_⟩
    · have hpower : (State.cold highRate contacts).vt.power[n] =
          decide ((Section.cold (Feedback.ofContacts contacts[n])).state = .closed) := by simp [State.cold]
      obtain ⟨-, -, -, h | h⟩ := hstanding n
      · rw [hpower, State.cold_secs, h]; rfl
      · rw [hpower, State.cold_secs, h]; rfl
    · rw [State.cold_sws] at hk; cases hk
    · rw [State.cold_sws]; simp [SwitchPoint.FrogOk]
  | queues => intro k; rw [State.cold_sws]; simp [SwitchPoint.QueueOk]
  | tests grants => exact ⟨State.cold_agrees .., fun _ => ⟨.inl rfl, fun _ => rfl⟩⟩
  | resting => exact nofun
  | attempts => intro n; rw [State.cold_secs]; exact (hstanding n).1
  | facts p =>
    intro n _
    obtain ⟨-, hholds, -⟩ := hstanding n
    rw [State.cold_secs, hholds]
    exact ⟨⟨nofun, fun h => (State.cold_no_vehicles _ _ n _ h.1).elim⟩, ⟨nofun, fun h => (State.cold_no_vehicles _ _ n _ h).elim⟩⟩
  | locks p =>
    intro n _
    obtain ⟨-, hholds, -⟩ := hstanding n
    rw [State.cold_secs, hholds]
    refine ⟨nofun, ?_⟩
    rintro ⟨k, hk, -⟩
    rw [State.cold_sws] at hk
    cases hk
  | timers =>
    intro n
    obtain ⟨-, hholds, htimer, -⟩ := hstanding n
    rw [State.cold_secs, hholds, htimer]
    exact ⟨nofun, nofun⟩
  | fpus => intro n; simp [State.cold, Fpu.RangeOk]
  | captures => intro n; simp [State.cold, Capture.RangeOk]
  | table =>
    refine ⟨fun i j v w hv => ?_, fun i v hv => ?_⟩
    · rw [State.cold_slots] at hv; cases hv
    · rw [State.cold_slots] at hv; cases hv
  | bindings => intro a b k ha; simp [State.cold] at ha

theorem coldReset_keeps (hr : r.Whole) (s : State) : Keeps r s (coldReset highRate contacts s) := by
  cases r with
  | pending q => exact id
  | _ => exact fun _ => State.cold_holds highRate contacts hr nofun

end

end Sys2Proof.Machine
end

section
/-!
The requests of chapter 10 in one form: what each kind's block does and answers, within the checks that every kind shares
(R177, R178).
-/

namespace Sys2Proof.Machine

variable {r : Rule} {s t : State} {kind : Byte} {p : List Byte}

/-! ### The kinds -/

/-- What the block that a request kind is for does and answers; a number that is no kind has none. -/
def ownerOf (n : Nat) : List Byte → State → Answer :=
  match n with
  | 0x01 => setProtection
  | 0x02 => getProtection
  | 0x03 => rebaseFilter
  | 0x04 => getMeasurement
  | 0x08 => setCondition
  | 0x09 => getCondition
  | 0x0A => ackCondition
  | 0x0C => setCapture
  | 0x0D => getCapture
  | 0x0E => fetchCapture
  | 0x10 => setSection
  | 0x11 => getSectionSettings
  | 0x12 => setBackupTrip
  | 0x13 => fun _ => getBackupTrip
  | 0x14 => getSection
  | 0x15 => closeSection
  | 0x16 => openSection
  | 0x17 => forceClose
  | 0x18 => clearLockout
  | 0x19 => isolate
  | 0x1A => deisolate
  | 0x1B => intertrip
  | 0x1C => holdReclose
  | 0x1D => extendHold
  | 0x1E => releaseHold
  | 0x1F => fun _ => releaseBusTrip
  | 0x20 => setTestCircuits
  | 0x21 => fun _ => getTestStatus
  | 0x22 => getTestResult
  | 0x28 => setVehicleTiming
  | 0x29 => fun _ => getVehicleTiming
  | 0x2A => getVehicle
  | 0x2B => listVehicles
  | 0x2C => removeVehicle
  | 0x2D => clearFault
  | 0x30 => configureSwitch
  | 0x31 => setSwitch
  | 0x32 => pinSwitch
  | 0x33 => unpinSwitch
  | 0x34 => clearSwitchLock
  | 0x35 => getSwitch
  | 0x38 => setStation
  | 0x39 => removeStation
  | 0x3A => getStation
  | 0x3B => setCycleTime
  | 0x3C => fun _ => getLoopStatus
  | 0x3D => fun _ => loopSkip
  | 0x3E => fun _ => loopReset
  | 0x40 => fetchNotices
  | 0x41 => setAttention
  | 0x42 => fun _ => getNoticeStatus
  | 0x48 => setTime
  | 0x49 => fun _ => getTime
  | 0x4F => fun _ => restartPart
  | _ => fun _ => badArgument

/-- A request of a kind of the part, taken with the kind's size and its place in a halt (R178, R182). -/
def requestTaken (kind : Byte) (p : List Byte) (s : State) : State :=
  takeRequest kind (decide (kindSize kind p = some p.length)) (haltKinds.contains kind.toNat) (ownerOf kind.toNat p) s

theorem forall_requestKind {P : Byte → Prop} (h : ∀ n ∈ requestKinds, P (BitVec.ofNat 8 n))
    (hk : requestKinds.contains kind.toNat = true) : P kind := by
  have := h kind.toNat (List.contains_iff_mem.mp hk)
  rwa [BitVec.ofNat_toNat, BitVec.setWidth_eq] at this

theorem takeFixed_eq {size : Nat} {duringHalt : Bool} {owner : State → Answer}
    (hsize : kindSize kind p = some size) (hhalt : haltKinds.contains kind.toNat = duringHalt) :
    takeFixed kind size duringHalt p owner s =
      takeRequest kind (decide (kindSize kind p = some p.length)) (haltKinds.contains kind.toNat) owner s := by
  have hfits : (p.length == size) = decide (kindSize kind p = some p.length) := by
    rw [hsize, beq_eq_decide]
    exact decide_eq_decide.mpr (by rw [Option.some_inj, eq_comm])
  rw [takeFixed, hfits, hhalt]

theorem conditionSize_eq : conditionSize p = decide (kindSize 0x08 p = some p.length) := by
  have hkind : kindSize 0x08 p = if 10 ≤ p.length ∧ octetAt p 9 ≤ 4 then some (10 + 3 * octetAt p 9) else none := rfl
  have hsize : conditionSize p = true ↔ (10 ≤ p.length ∧ octetAt p 9 ≤ 4) ∧ 10 + 3 * octetAt p 9 = p.length := by
    simp only [conditionSize, Bool.and_eq_true, decide_eq_true_eq, beq_iff_eq]
    exact and_congr_right' eq_comm
  rw [hkind, Bool.eq_iff_iff, hsize, decide_eq_true_eq]
  split
  next h => rw [and_iff_right h, Option.some_inj]
  next h => exact iff_of_false (fun hs => h hs.1) nofun

theorem requestOf_kind (hk : requestKinds.contains kind.toNat = true) : requestOf kind = some (requestTaken kind) := by
  have fixed {kind : Byte} {size : Nat} {duringHalt : Bool} {f : List Byte → State → State}
      (hsize : ∀ p, kindSize kind p = some size) (hhalt : haltKinds.contains kind.toNat = duringHalt)
      (hf : ∀ p s, f p s = takeFixed kind size duringHalt p (ownerOf kind.toNat p) s) :
      some f = some (requestTaken kind) :=
    congrArg some (funext fun p => funext fun s => (hf p s).trans (takeFixed_eq (hsize p) hhalt))
  refine forall_requestKind (P := fun kind => requestOf kind = some (requestTaken kind)) ?_ hk
  simp only [requestKinds, List.cons_append, List.nil_append, List.forall_mem_cons, List.not_mem_nil,
    IsEmpty.forall_iff, implies_true, and_true]
  and_intros
  pick_goal 5
  · refine congrArg some (funext fun p => funext fun s => ?_)
    rw [reqSetCondition, conditionSize_eq]
    rfl
  all_goals exact fixed (fun _ => rfl) rfl fun _ _ => rfl
theorem exec_requestKind (hk : requestKinds.contains kind.toNat = true) (p : List Byte) (s : State) :
    exec (commandOf kind p) s = .next (requestTaken kind p s) := by
  have hreq : ∃ f, requestOf kind = some f ∧ exec (commandOf kind p) s = .next (f p s) := by
    refine forall_requestKind (P := fun kind => ∃ f, requestOf kind = some f ∧ exec (commandOf kind p) s = .next (f p s)) ?_ hk
    simp only [requestKinds, List.cons_append, List.nil_append, List.forall_mem_cons, List.not_mem_nil,
      IsEmpty.forall_iff, implies_true, and_true]
    and_intros
    all_goals exact ⟨_, rfl, rfl⟩
  obtain ⟨f, hf, hexec⟩ := hreq
  obtain rfl := Option.some.inj ((requestOf_kind hk).symm.trans hf)
  exact hexec

theorem requestOf_unknown : ∀ kind : Byte, requestKinds.contains kind.toNat = false → requestOf kind = none := by
  have hnone : ∀ kind : Byte, requestKinds.contains kind.toNat = false → (requestOf kind).isNone = true := by decide
  exact fun kind hk => Option.isNone_iff_eq_none.mp (hnone kind hk)

theorem commandOf_unknown (hk : requestKinds.contains kind.toNat = false) (p : List Byte) :
    commandOf kind p = .unknownKind kind p := by
  unfold commandOf
  split
  case h_55 => rfl
  all_goals
    rename_i heq
    rw [heq] at hk
    cases hk

theorem exec_unknownKind (hk : requestKinds.contains kind.toNat = false) (p : List Byte) (s : State) :
    exec (commandOf kind p) s = .next (takeUnknown kind s) := by
  rw [commandOf_unknown hk]
  change Host.Outcome.next (unknownTaken kind s) = _
  rw [unknownTaken, requestOf_unknown kind hk]

/-! ### The rules -/

theorem getVehicle_keeps (p : List Byte) (s : State) : Keeps r s (getVehicle p s).state :=
  namingVehicle_keeps p _ _ fun _ _ _ => .refl s

theorem listVehicles_keeps (p : List Byte) (s : State) : Keeps r s (listVehicles p s).state := by
  unfold listVehicles
  split
  · exact .refl s
  · exact .refl s

theorem restartPart_keeps
    (htests : r.aboutTests = true → s.halted = true → ∀ n : Sec, s.secs[n].state.inSequence = false) :
    Keeps r s (restartPart s).state :=
  (sectionsRestart_keeps htests).trans ((switchesRestart_keeps s.halted _).trans ((loopRestart_keeps _).trans
    ((generatorsRestart_keeps _).trans (captureRestart_keeps _))))

theorem owner_keeps (hr : r.Whole) (hk : requestKinds.contains kind.toNat = true)
    (hh : s.halted = true → haltKinds.contains kind.toNat = true)
    (htests : r.aboutTests = true → s.halted = true → ∀ n : Sec, s.secs[n].state.inSequence = false) :
    Keeps r s (ownerOf kind.toNat p s).state := by
  have running {b : Bool} (hh : s.halted = true → b = true) (hb : b = false) : s.halted = false :=
    Bool.eq_false_iff.mpr fun h => nomatch hb.symm.trans (hh h)
  have named {m : Nat} {p : List Byte} {owner : Fin m → State → Answer} (h : ∀ i, (owner i s).state = s) :
      Keeps r s (naming m p owner s).state := naming_keeps p owner fun i => by rw [h i]; exact .refl s
  refine forall_requestKind (P := fun kind => (s.halted = true → haltKinds.contains kind.toNat = true) →
    Keeps r s (ownerOf kind.toNat p s).state) ?_ hk hh
  simp only [requestKinds, List.cons_append, List.nil_append, List.forall_mem_cons, List.not_mem_nil,
    IsEmpty.forall_iff, implies_true, and_true]
  exact ⟨fun _ => setProtection_keeps p s,
    fun _ => named fun _ => rfl,
    fun _ => rebaseFilter_keeps p s,
    fun _ => named fun _ => rfl,
    fun _ => setCondition_keeps p s,
    fun _ => named fun _ => rfl,
    fun _ => ackCondition_keeps p s,
    fun _ => setCapture_keeps p s,
    fun _ => named fun _ => rfl,
    fun _ => fetchCapture_keeps p s,
    fun _ => setSection_keeps p s,
    fun _ => named fun _ => rfl,
    fun _ => setBackupTrip_keeps p s,
    fun _ => .refl s,
    fun _ => named fun _ => rfl,
    fun hh => closeSection_keeps p (running hh rfl),
    fun _ => openSection_keeps p s,
    fun hh => forceClose_keeps p (running hh rfl),
    fun _ => clearLockout_keeps p s,
    fun _ => isolate_keeps p s,
    fun _ => deisolate_keeps p s,
    fun _ => intertrip_keeps p s,
    fun _ => holdReclose_keeps p s,
    fun _ => extendHold_keeps p s,
    fun _ => releaseHold_keeps p s,
    fun hh => releaseBusTrip_keeps (running hh rfl),
    fun hh => setTestCircuits_keeps p (running hh rfl),
    fun _ => .refl s,
    fun _ => named fun _ => rfl,
    fun _ => setVehicleTiming_keeps p s,
    fun _ => .refl s,
    fun _ => getVehicle_keeps p s,
    fun _ => listVehicles_keeps p s,
    fun _ => removeVehicle_keeps hr p s,
    fun _ => clearFault_keeps hr p s,
    fun _ => configureSwitch_keeps p s,
    fun _ => setSwitch_keeps p s,
    fun _ => pinSwitch_keeps p s,
    fun _ => unpinSwitch_keeps p s,
    fun _ => clearSwitchLock_keeps p s,
    fun _ => named fun _ => rfl,
    fun _ => setStation_keeps p s,
    fun _ => removeStation_keeps p s,
    fun _ => named fun _ => rfl,
    fun _ => setCycleTime_keeps p s,
    fun _ => .refl s,
    fun _ => loopSkip_keeps s,
    fun _ => loopReset_keeps s,
    fun _ => fetchNotices_keeps p s,
    fun _ => setAttention_keeps p s,
    fun _ => .refl s,
    fun _ => setTime_keeps p s,
    fun _ => .refl s,
    fun _ => restartPart_keeps htests⟩

theorem requestTaken_keeps (hr : r.Whole) (hk : requestKinds.contains kind.toNat = true)
    (htests : r.aboutTests = true → s.halted = true → ∀ n : Sec, s.secs[n].state.inSequence = false) :
    Keeps r s (requestTaken kind p s) :=
  takeRequest_keeps _ _ _ _ fun t hhalted hsecs hh => owner_keeps hr hk hh fun ht hhalt => by
    rw [hsecs]
    exact htests ht (hhalted ▸ hhalt)

end Sys2Proof.Machine
end

section
/-!
Every command completes and keeps the rules of Safety.lean.
-/

namespace Sys2Proof.Machine

variable {r : Rule} {s t : State}

/-! ### The receiver (R176 to R178) -/

theorem takeUnknown_keeps (kind : Byte) (s : State) : Keeps r s (takeUnknown kind s) :=
  (modLink_keeps Link.toHunting s).trans (.ite (fun _ => .refl _) fun _ => .ite (fun _ => modLink_keeps _ _) fun _ =>
    modLink_keeps _ _)

theorem unknownTaken_keeps (kind : Byte) (s : State) : Keeps r s (unknownTaken kind s) := by
  unfold unknownTaken
  split
  · exact takeUnknown_keeps kind s
  · exact .refl s

theorem gapTimedOut_keeps (s : State) : Keeps r s (gapTimedOut s) := .ite (fun _ => modLink_keeps _ s) fun _ => .refl s

theorem frameAbandoned_keeps (octet : Byte) (s : State) : Keeps r s (frameAbandoned octet s) := by
  unfold frameAbandoned
  split
  · exact .ite (fun _ => modLink_keeps _ s) fun _ => .refl s
  · exact .refl s
  · exact .refl s

theorem frameDiscarded_keeps (octets : List Byte) (s : State) : Keeps r s (frameDiscarded octets s) :=
  .ite (fun _ => modLink_keeps _ s) fun _ => .refl s

section
variable (hr : r.Whole)
  (htests : r.aboutTests = true → s.halted = true → ∀ n : Sec, s.secs[n].state.inSequence = false)

include hr htests

theorem frameCompleted_keeps (octets : List Byte) : Keeps r s (frameCompleted octets s) := by
  refine .ite (fun _ => modLink_keeps _ s) fun _ => ?_
  dsimp only
  cases hk : requestKinds.contains (octets.getD 1 0).toNat with
  | true =>
    rw [requestOf_kind hk]
    exact requestTaken_keeps hr hk htests
  | false =>
    rw [requestOf_unknown _ hk]
    exact takeUnknown_keeps _ s

theorem hostOctet_keeps (b : Byte) : Keeps r s (hostOctet b s) := by
  unfold hostOctet
  split
  · exact .ite (fun _ => modLink_keeps _ s) fun _ => .refl s
  · exact .ite (fun _ => modLink_keeps _ s) fun _ => modLink_keeps _ s
  · exact .ite (fun _ => frameCompleted_keeps hr htests _) fun _ => modLink_keeps _ s

/-! ### Every command -/

theorem exec_keeps (c : Instr) : ∃ t, exec c s = .next t ∧ Keeps r s t := by
  have request (kind : Byte) (p : List Byte) (hk : requestKinds.contains kind.toNat = true) :
      ∃ t, exec (commandOf kind p) s = .next t ∧ Keeps r s t :=
    ⟨_, exec_requestKind hk p s, requestTaken_keeps hr hk htests⟩
  cases c with
  | coldReset highRate contacts => exact ⟨_, rfl, coldReset_keeps highRate contacts hr s⟩
  | sampleFrame octets => exact ⟨_, rfl, sampleFrameEnded_keeps octets s⟩
  | sampleFrameIncomplete octets => exact ⟨_, rfl, sampleFrameEnded_keeps octets s⟩
  | lossTimerExpiry n => exact ⟨_, rfl, lossExpired_keeps n s⟩
  | frameSilence => exact ⟨_, rfl, frameSilence_keeps s⟩
  | breakerFeedbackChange n contacts => exact ⟨_, rfl, feedbackChanged_keeps n contacts s⟩
  | discrepancyTimerExpiry n => exact ⟨_, rfl, discrepancyExpired_keeps n s⟩
  | openingSupervisionExpiry n => exact ⟨_, rfl, openingExpired_keeps n s⟩
  | deadTimerExpiry n => exact ⟨_, rfl, deadExpired_keeps n s⟩
  | holdLimitExpiry n => exact ⟨_, rfl, holdLimitExpired_keeps n s⟩
  | holdTimerExpiry n => exact ⟨_, rfl, holdTimerExpired_keeps n s⟩
  | settleTimerExpiry c => exact ⟨_, rfl, settleExpired_keeps c hr.1 (s := s)⟩
  | closeSupervisionExpiry n => exact ⟨_, rfl, closeExpired_keeps n s⟩
  | reclaimExpiry n => exact ⟨_, rfl, reclaimExpired_keeps n s⟩
  | lostTimerExpiry slot => exact ⟨_, rfl, lostExpired_keeps slot s⟩
  | forgetTimerExpiry slot => exact ⟨_, rfl, forgetExpired_keeps hr slot s⟩
  | poleTimerExpiry k => exact ⟨_, rfl, poleExpired_keeps hr k s⟩
  | passageTimerExpiry k => exact ⟨_, rfl, passageExpired_keeps k s⟩
  | driveSupervisionExpiry k => exact ⟨_, rfl, driveExpired_keeps k s⟩
  | cycleTimerExpiry => exact ⟨_, rfl, cycleExpired_keeps s⟩
  | loopRequestSent => exact ⟨_, rfl, loopSent_keeps s⟩
  | startLimitExpiry => exact ⟨_, rfl, startLimitExpired_keeps s⟩
  | gapLimitExpiry => exact ⟨_, rfl, gapLimitExpired_keeps s⟩
  | loopReplyComplete octets => exact ⟨_, rfl, loopCompleted_keeps hr octets s⟩
  | hostGapTimeout => exact ⟨_, rfl, gapTimedOut_keeps s⟩
  | frameAbandon octet => exact ⟨_, rfl, frameAbandoned_keeps octet s⟩
  | frameDiscard octets => exact ⟨_, rfl, frameDiscarded_keeps octets s⟩
  | unknownKind kind _ => exact ⟨_, rfl, unknownTaken_keeps kind s⟩
  | replySent => exact ⟨_, rfl, modLink_keeps _ s⟩
  | startPeriodEnd => exact ⟨_, rfl, modLink_keeps _ s⟩
  | hostOctetReceived octet => exact ⟨_, rfl, hostOctet_keeps hr htests octet⟩
  | loopOctetReceived octet => exact ⟨_, rfl, loopOctet_keeps hr octet s⟩
  | clockTick => exact ⟨_, rfl, millisecond_keeps s⟩
  | setProtection p => exact request 0x01 p rfl
  | getProtection p => exact request 0x02 p rfl
  | rebaseFilter p => exact request 0x03 p rfl
  | getMeasurement p => exact request 0x04 p rfl
  | setCondition p => exact request 0x08 p rfl
  | getCondition p => exact request 0x09 p rfl
  | ackCondition p => exact request 0x0A p rfl
  | setCapture p => exact request 0x0C p rfl
  | getCapture p => exact request 0x0D p rfl
  | fetchCapture p => exact request 0x0E p rfl
  | setSection p => exact request 0x10 p rfl
  | getSectionSettings p => exact request 0x11 p rfl
  | setBackupTrip p => exact request 0x12 p rfl
  | getBackupTrip p => exact request 0x13 p rfl
  | getSection p => exact request 0x14 p rfl
  | closeSection p => exact request 0x15 p rfl
  | openSection p => exact request 0x16 p rfl
  | forceClose p => exact request 0x17 p rfl
  | clearLockout p => exact request 0x18 p rfl
  | isolate p => exact request 0x19 p rfl
  | deisolate p => exact request 0x1A p rfl
  | intertrip p => exact request 0x1B p rfl
  | holdReclose p => exact request 0x1C p rfl
  | extendHold p => exact request 0x1D p rfl
  | releaseHold p => exact request 0x1E p rfl
  | releaseBusTrip p => exact request 0x1F p rfl
  | setTestCircuits p => exact request 0x20 p rfl
  | getTestStatus p => exact request 0x21 p rfl
  | getTestResult p => exact request 0x22 p rfl
  | setVehicleTiming p => exact request 0x28 p rfl
  | getVehicleTiming p => exact request 0x29 p rfl
  | getVehicle p => exact request 0x2A p rfl
  | listVehicles p => exact request 0x2B p rfl
  | removeVehicle p => exact request 0x2C p rfl
  | clearFault p => exact request 0x2D p rfl
  | configureSwitch p => exact request 0x30 p rfl
  | setSwitch p => exact request 0x31 p rfl
  | pinSwitch p => exact request 0x32 p rfl
  | unpinSwitch p => exact request 0x33 p rfl
  | clearSwitchLock p => exact request 0x34 p rfl
  | getSwitch p => exact request 0x35 p rfl
  | setStation p => exact request 0x38 p rfl
  | removeStation p => exact request 0x39 p rfl
  | getStation p => exact request 0x3A p rfl
  | setCycleTime p => exact request 0x3B p rfl
  | getLoopStatus p => exact request 0x3C p rfl
  | loopSkip p => exact request 0x3D p rfl
  | loopReset p => exact request 0x3E p rfl
  | fetchNotices p => exact request 0x40 p rfl
  | setAttention p => exact request 0x41 p rfl
  | getNoticeStatus p => exact request 0x42 p rfl
  | setTime p => exact request 0x48 p rfl
  | getTime p => exact request 0x49 p rfl
  | restart p => exact request 0x4F p rfl

end

/-- A step keeps what its command keeps; an idle step keeps everything. -/
theorem step_keeps (hr : r.Whole) (hq : ∀ q, r ≠ .pending q) (h : step s = .next t)
    (htests : r.aboutTests = true → s.halted = true → ∀ n : Sec, s.secs[n].state.inSequence = false) : Keeps r s t := by
  unfold step at h
  split at h
  · cases h
    exact .refl s
  next c rest _ =>
    obtain ⟨u, hu, hkeeps⟩ := exec_keeps (s := { s with pending := rest }) hr htests c
    obtain rfl : u = t := Host.Outcome.next.inj (hu.symm.trans h)
    refine .trans ?_ hkeeps
    cases r with
    | pending q => exact absurd rfl (hq q)
    | _ => exact id

/-! ### The obligations -/

/-- A step keeps a rule that asks nothing of the Test Arbiter. -/
theorem step_keeps_rule (hr : r.Whole) (hq : ∀ q, r ≠ .pending q) (htests : r.aboutTests = false) (h : step s = .next t) :
    Keeps r s t := step_keeps hr hq h fun ht => nomatch htests.symm.trans ht

/-- Settles O2: every command's state keeps the rule that the queue stands. -/
theorem everyCommandCompletes : Obligations.EveryCommandCompletes := by
  intro c s
  obtain ⟨t, ht, hkeeps⟩ := exec_keeps (r := .pending s.pending) (s := s) ⟨nofun, nofun⟩ nofun c
  exact ⟨t, ht, hkeeps rfl⟩

/-- Settles O6: `Rule.notices` for a step. -/
theorem noticeQueueRuleIsKept : Obligations.NoticeQueueRuleIsKept :=
  fun _ _ hs h => step_keeps_rule (r := .notices) ⟨nofun, nofun⟩ nofun rfl h hs

/-- Settles O7: `Rule.lines` for a step. -/
theorem sectionLinesRuleIsKept : Obligations.SectionLinesRuleIsKept :=
  fun _ _ hs h => step_keeps_rule (r := .lines) ⟨nofun, nofun⟩ nofun rfl h hs

/-- Settles O8: `Rule.failure` for a step. -/
theorem breakerFailureRuleIsKept : Obligations.BreakerFailureRuleIsKept :=
  fun _ _ hs h => step_keeps_rule (r := .failure) ⟨nofun, nofun⟩ nofun rfl h hs

/-- Settles O9: `Rule.frogs` for a step. -/
theorem frogRuleIsKept : Obligations.FrogRuleIsKept :=
  fun _ _ hs h => step_keeps_rule (r := .frogs) ⟨nofun, nofun⟩ nofun rfl h hs

/-- In a halt no section is in a state of a sequence: the last part of the Test Arbiter's rule. -/
theorem SecState.inSequence_eq_false {st : SecState} : st.inSequence = false ↔
    st ≠ .deadTime ∧ st ≠ .testWait ∧ st ≠ .lineTest ∧ st ≠ .held ∧ st ≠ .closing := by
  cases st <;> simp [SecState.inSequence]

theorem testsOk_iff (grants : Bool) : TestsOk s ∧ (grants = true → GrantsOk s) ↔
    (Rule.tests grants).Holds s ∧ (Rule.resting fun _ _ => true).Holds s := by
  have hstates : s.statesBut none = fun n => s.secs[n].state := funext fun n => if_neg nofun
  have hrest : (Rule.resting fun _ _ => true).Holds s ↔ (s.halted = true → ∀ n : Sec, s.secs[n].state.inSequence = false) := by
    refine forall_congr' fun _ => forall_congr' fun n => ⟨fun h => Bool.eq_false_iff.mpr fun hb => (nomatch h hb), fun h hb => ?_⟩
    exact nomatch h.symm.trans hb
  rw [hrest]
  simp only [Rule.Holds, hstates, SecState.inSequence_eq_false]
  constructor
  · rintro ⟨⟨hcount, hnodup, hwait, hhold, hinj, hctx, hhalt⟩, hgrants⟩
    refine ⟨⟨⟨hcount, hnodup, hwait, hhold, hinj, hctx⟩, fun hg => ⟨hgrants hg, fun hh => ?_⟩⟩, hhalt⟩
    exact List.eq_nil_iff_forall_not_mem.mpr fun n hn => (hhalt hh n).2.1 ((hwait n).mp hn)
  · rintro ⟨⟨⟨hcount, hnodup, hwait, hhold, hinj, hctx⟩, hgrants⟩, hhalt⟩
    exact ⟨⟨hcount, hnodup, hwait, hhold, hinj, hctx, hhalt⟩, fun hg => (hgrants hg).1⟩

theorem step_testsOk {grants : Bool} (h : step s = .next t) (hs : TestsOk s ∧ (grants = true → GrantsOk s)) :
    TestsOk t ∧ (grants = true → GrantsOk t) := by
  rw [testsOk_iff] at hs ⊢
  obtain ⟨htests, hrest⟩ := hs
  have hseq (hh : s.halted = true) (n : Sec) : s.secs[n].state.inSequence = false :=
    Bool.eq_false_iff.mpr fun hn => nomatch hrest hh n hn
  exact ⟨step_keeps (r := .tests grants) ⟨nofun, nofun⟩ nofun h (fun _ => hseq) htests,
    step_keeps_rule (r := .resting fun _ _ => true) ⟨fun _ hp => (Rule.resting.inj hp).symm, nofun⟩ nofun rfl h hrest⟩

/-- Settles O10: the rule with the grants and without them are one argument. -/
theorem testArbiterRuleIsKept : Obligations.TestArbiterRuleIsKept := by
  intro s t hs h
  obtain ⟨htests, -⟩ := step_testsOk (grants := false) h ⟨hs, nofun⟩
  exact ⟨htests, fun hgrants => (step_testsOk (grants := true) h ⟨hs, fun _ => hgrants⟩).2 rfl⟩

/-- Settles O11: the holds' rule is that of the facts, that of the locks and that of the hold timers. -/
theorem holdRuleIsKept : Obligations.HoldRuleIsKept := by
  intro s t hs h
  rw [holdsOk_iff] at hs ⊢
  obtain ⟨hfacts, hlocks, htimers⟩ := hs
  exact ⟨step_keeps_rule (r := .facts fun _ => true) ⟨nofun, nofun⟩ nofun rfl h hfacts,
    step_keeps_rule (r := .locks fun _ => true) ⟨nofun, nofun⟩ nofun rfl h hlocks,
    step_keeps_rule (r := .timers) ⟨nofun, nofun⟩ nofun rfl h htimers⟩

/-- Settles O12: three rules for one step. -/
theorem attemptFilterAndCaptureRangesAreKept : Obligations.AttemptFilterAndCaptureRangesAreKept :=
  fun _ _ h => ⟨step_keeps_rule (r := .attempts) ⟨nofun, nofun⟩ nofun rfl h,
    step_keeps_rule (r := .fpus) ⟨nofun, nofun⟩ nofun rfl h, step_keeps_rule (r := .captures) ⟨nofun, nofun⟩ nofun rfl h⟩

/-- Settles O13: three rules for one step. -/
theorem queueTableAndBindingRulesAreKept : Obligations.QueueTableAndBindingRulesAreKept :=
  fun _ _ h => ⟨step_keeps_rule (r := .queues) ⟨nofun, nofun⟩ nofun rfl h,
    step_keeps_rule (r := .table) ⟨nofun, nofun⟩ nofun rfl h, step_keeps_rule (r := .bindings) ⟨nofun, nofun⟩ nofun rfl h⟩

/-! ### Cold reset (R75) -/

/-- Cold reset leaves a state that meets every rule, with any queue and count of draws. -/
theorem State.cold_ok (highRate : Bool) (contacts : Vector Contacts 8) :
    let t := State.cold highRate contacts
    NoticesOk t.notices ∧ LinesOk t ∧ FailureOk t ∧ FrogsOk t ∧ QueuesOk t ∧ TestsOk t ∧ GrantsOk t ∧ AttemptsOk t ∧
      HoldsOk t ∧ FpusOk t ∧ CapturesOk t ∧ TableOk t ∧ BindingsOk t := by
  have holds (r : Rule) := State.cold_holds (r := r) highRate contacts
  have htests := (testsOk_iff true).mpr
    ⟨holds (.tests true) ⟨nofun, nofun⟩ nofun, holds (.resting fun _ _ => true) ⟨fun _ hp => (Rule.resting.inj hp).symm, nofun⟩ nofun⟩
  have hholds := holdsOk_iff.mpr ⟨holds (.facts fun _ => true) ⟨nofun, nofun⟩ nofun,
    holds (.locks fun _ => true) ⟨nofun, nofun⟩ nofun, holds .timers ⟨nofun, nofun⟩ nofun⟩
  exact ⟨holds .notices ⟨nofun, nofun⟩ nofun, holds .lines ⟨nofun, nofun⟩ nofun, holds .failure ⟨nofun, nofun⟩ nofun,
    holds .frogs ⟨nofun, nofun⟩ nofun, holds .queues ⟨nofun, nofun⟩ nofun, htests.1, htests.2 rfl,
    holds .attempts ⟨nofun, nofun⟩ nofun, hholds, holds .fpus ⟨nofun, nofun⟩ nofun,
    holds .captures ⟨nofun, nofun⟩ nofun, holds .table ⟨nofun, nofun⟩ nofun, holds .bindings ⟨nofun, nofun⟩ nofun⟩

/-- Settles O3: the state at reset is that of a cold reset with every breaker read OPEN. -/
theorem resetKeepsTheRules : Obligations.ResetKeepsTheRules := State.cold_ok false _

/-- Settles O4: the rules hold by `State.cold_ok`, and the reset values stand in the definition. -/
theorem coldResetTakesTheReadings : Obligations.ColdResetTakesTheReadings := by
  intro highRate contacts s
  have hsec (n : Sec) : (coldReset highRate contacts s).secs[n] = Section.cold (Feedback.ofContacts contacts[n]) :=
    State.cold_secs highRate contacts n
  refine ⟨coldReset highRate contacts s, rfl, fun n => ⟨?_, ?_, ?_, ?_, ?_⟩, rfl, rfl, rfl, rfl, rfl, rfl, rfl, rfl, rfl, rfl, rfl, rfl, rfl,
    rfl, rfl, rfl, State.cold_ok highRate contacts⟩
  · rw [hsec]
    obtain ⟨posOpen, posClosed⟩ := contacts[n]
    cases posOpen <;> cases posClosed <;> rfl
  · simp [coldReset, State.cold]
  · simp [coldReset, State.cold]
  · simp [coldReset, State.cold]
  · change (contacts.map fun c => decide ((Section.cold (Feedback.ofContacts c)).state = .closed))[n] = _
    rw [Fin.getElem_fin, Vector.getElem_map, ← Fin.getElem_fin]
    obtain ⟨posOpen, posClosed⟩ := contacts[n]
    cases posOpen <;> cases posClosed <;> rfl

/-! ### The queue of commands -/

/-- Settles O1: both parts are `step`'s two branches. -/
theorem stepTakesFrontCommand : Obligations.StepTakesFrontCommand :=
  ⟨fun _ _ _ => rfl, fun s hs => by rw [step, hs]⟩

end Sys2Proof.Machine
end

section
/-!
The Notice Queue's storing and fetching (R165 to R169, R172) and the Clock (R183).
-/

namespace Sys2Proof.Machine

variable {s : State}

/-! ### Storing a notice (R165 to R167) -/

theorem modifyNewest_append {α : Type} (f : α → α) (older : List α) (newest : α) :
    modifyNewest f (older ++ [newest]) = older ++ [f newest] := by
  induction older with
  | nil => rfl
  | cons x xs ih =>
    cases xs with
    | nil => rfl
    | cons y ys => exact congrArg (x :: ·) ih

theorem word_of_le {k : Nat} (h : k ≤ 65535) : word k = BitVec.ofNat 16 k := by rw [word, Nat.min_eq_left h]

theorem word_toNat (w : Half) : word w.toNat = w := by
  rw [word_of_le (Nat.le_of_lt_succ w.isLt), BitVec.ofNat_toNat, BitVec.setWidth_eq]

theorem countDropped_words {priority : Nat} (hp : priority ≤ 7) (k f dropped highest : Half) :
    countDropped priority [k, f, dropped, highest] = [k, f, if dropped = 65535 then 65535 else dropped + 1,
      if highest.toNat < priority then BitVec.ofNat 16 priority else highest] := by
  have hcount : (if dropped = 65535 then dropped else dropped + 1) = if dropped = 65535 then 65535 else dropped + 1 :=
    ite_congr rfl id fun _ => rfl
  have hhighest : word (max highest.toNat priority) = if highest.toNat < priority then BitVec.ofNat 16 priority else highest := by
    split
    next h => rw [Nat.max_eq_right h.le, word_of_le (by omega)]
    next h => rw [Nat.max_eq_left (Nat.le_of_not_lt h), word_toNat]
  rw [countDropped, hcount, hhighest]

/-- Settles O52: the three ways in which the queue takes a notice. -/
theorem noticesAreStoredOrCountedAsDropped : Obligations.NoticesAreStoredOrCountedAsDropped := by
  intro s kind priority source words q stored
  have hqueue {q' : NoticeQueue} (h : q.take s.clock kind priority source words = q') :
      queueNotice kind priority source words s = { s with notices := q' } := congrArg (fun q => { s with notices := q }) h
  refine ⟨fun ho hl => hqueue ?_, fun ho hl => hqueue ?_, fun older newest k f dropped highest ho hp hq hw => hqueue ?_⟩
  · rw [NoticeQueue.take, if_neg (by simp [ho]), if_pos hl]
    simp only [stored, ← ho]
    rfl
  · rw [NoticeQueue.take, if_neg (by simp [ho]), if_neg (Nat.not_lt.mpr hl)]
    rfl
  · rw [NoticeQueue.take, if_pos ho, hq, modifyNewest_append, hw, countDropped_words hp]

/-! ### Fetching and reading the queue (R168, R169, R172) -/

theorem exec_fetchNotices {p : List Byte} (hs : Reachable s) (hp : p.length = 1) :
    let q := s.notices
    let count := clamp 1 8 (octetAt p 0)
    exec (.fetchNotices p) s = .next (answered 0x40 .ok
      ((q.records.take count).flatMap Notice.fields ++
        [.nat 2 (q.records.take count).length, .nat 2 (q.fetched count).records.length, fieldMark q.overflow,
          fieldMark (q.fetched count).attn]) { s with notices := q.fetched count }) :=
  taken_in_halt hs hp rfl

theorem exec_getNoticeStatus (hs : Reachable s) :
    let q := s.notices
    exec (.getNoticeStatus []) s = .next (answered 0x42 .ok ([.nat 2 q.records.length] ++
      ([1, 2, 3, 4, 5, 6, 7].map fun p => fieldVal (q.records.countP fun r => r.priority == p)) ++
      [.nat 2 ((q.records.head?.map (·.entry)).getD q.counter).toNat, .nat 2 q.counter.toNat, fieldMark q.overflow] ++
      q.droppedFields ++ [.nat 1 q.mask, fieldMark q.attn]) s) :=
  taken_in_halt hs rfl rfl

/-- Settles O51: the block's queue is `NoticeQueue.fetched`, and its status reads the queue as it stands. -/
theorem noticesAreFetchedOldestFirst : Obligations.NoticesAreFetchedOldestFirst := by
  intro p s hs q attn
  refine ⟨fun hp => ?_, fun ho => ?_, fun older newest kind first dropped highest ho hq hw => ?_⟩
  · refine ⟨q.records.take (clamp 1 8 (octetAt p 0)), q.records.drop (clamp 1 8 (octetAt p 0)),
      (List.take_append_drop ..).symm, ?_, exec_fetchNotices hs hp⟩
    rw [List.length_take, clamp_eq]
  · rw [exec_getNoticeStatus hs, NoticeQueue.droppedFields, if_neg (by simp [show s.notices.overflow = _ from ho])]
    simp only [show s.notices.overflow = _ from ho]
    rfl
  · refine ⟨_, exec_getNoticeStatus hs, rfl, ?_⟩
    have hdropped : q.droppedFields = [.nat 2 dropped.toNat, .nat 2 highest.toNat] := by
      rw [NoticeQueue.droppedFields, if_pos ho, hq, List.getLast?_concat]
      simp [hw, fieldVal]
    rw [hdropped, show s.notices.overflow = _ from ho]
    rfl

/-! ### The Clock (R183) -/

theorem wideAt_toNat (p : List Byte) (k : Nat) : (BitVec.ofNat 32 (wideAt p k)).toNat = wideAt p k := by
  have hhigh := halfAt_le p k
  have hlow := halfAt_le p (k + 2)
  rw [BitVec.toNat_ofNat]
  refine Nat.mod_eq_of_lt ?_
  rw [wideAt]
  omega

theorem exec_setTime {p : List Byte} (hs : Reachable s) (hp : p.length = 4) :
    exec (.setTime p) s = .next (answered 0x48 .ok [.nat 4 s.clock.toNat, .nat 4 (wideAt p 0)]
      { s with clock := BitVec.ofNat 32 (wideAt p 0) }) := by
  refine taken_in_halt hs hp ?_
  rw [setTime, wideAt_toNat]
  rfl

section
variable (s)

@[simp] theorem millisecond_fpus (n : Sec) :
    (millisecond s).fpus[n] = { s.fpus[n] with lossTimer := tickTimer s.fpus[n].lossTimer } := Vector.getElem_map ..

@[simp] theorem millisecond_secs (n : Sec) : (millisecond s).secs[n] = s.secs[n].tick s.halted := Vector.getElem_map ..

@[simp] theorem millisecond_slots (i : Slot) : (millisecond s).vt.slots[i] = (s.vt.slots[i]).map Vehicle.tick :=
  Vector.getElem_map ..

@[simp] theorem millisecond_sws (k : Sw) : (millisecond s).sws[k] = s.sws[k].tick := Vector.getElem_map ..

@[simp] theorem millisecond_contexts (c : Circuit) :
    (millisecond s).arb.contexts[c] = (s.arb.contexts[c]).map TestContext.tick := Vector.getElem_map ..

end

/-- A switch point's timer that runs counts down; one that does not stays. -/
theorem SwTimer.tick_spec (t : SwTimer) :
    (∀ left, t = .running left → t.tick = .running (left - 1)) ∧ ((∀ left, t ≠ .running left) → t.tick = t) := by
  cases t with
  | running n => exact ⟨fun left h => (SwTimer.running.inj h) ▸ rfl, fun h => absurd rfl (h n)⟩
  | _ => exact ⟨nofun, fun _ => rfl⟩

theorem Exchange.tick_awaiting {e : Exchange} {limit : Nat} (h : e.phase = .awaiting limit) :
    e.tick = { e with phase := .awaiting (limit - 1) } := by rw [Exchange.tick, h]

theorem Exchange.tick_of_other {e : Exchange} (h : ∀ limit, e.phase ≠ .awaiting limit) : e.tick = e := by
  unfold Exchange.tick
  split
  next limit hp => exact absurd hp (h limit)
  · rfl
  · rfl

/-- Settles O53: the fields of `millisecond`, block by block. -/
theorem clockCountsAndIsSet : Obligations.ClockCountsAndIsSet := by
  intro s
  refine ⟨fun p => exec_setTime, fun hs => taken_in_halt hs rfl rfl, millisecond s, rfl, rfl, rfl, millisecond_fpus s,
    fun n => ⟨fun hh => ?_, fun hh => ?_⟩, fun i v hv => ?_, fun i hi => ?_, rfl, fun k => ?_, fun c x hx => ?_,
    fun c hc => ?_, rfl, rfl, fun e limit he hp => ?_, fun he => ?_, rfl, rfl, rfl, rfl, rfl, rfl, rfl, rfl, rfl, rfl⟩
  · rw [millisecond_secs, hh]; rfl
  · rw [millisecond_secs, hh]; rfl
  · rw [millisecond_slots, hv]; rfl
  · rw [millisecond_slots, hi]; rfl
  · obtain ⟨hpole, hpole'⟩ := s.sws[k].poleTimer.tick_spec
    obtain ⟨hpass, hpass'⟩ := s.sws[k].passTimer.tick_spec
    exact ⟨_, _, millisecond_sws s k, hpole, hpass, hpole', hpass'⟩
  · rw [millisecond_contexts, hx]; rfl
  · rw [millisecond_contexts, hc]; rfl
  · change s.loop.exchange.map Exchange.tick = _
    rw [he, Option.map_some, Exchange.tick_awaiting hp]
  · change s.loop.exchange.map Exchange.tick = _
    cases hx : s.loop.exchange with
    | none => rfl
    | some e => rw [Option.map_some, Exchange.tick_of_other fun limit => he e limit hx]

end Sys2Proof.Machine
end

section
/-!
The receiver (R175 to R178, R185), and a request frame taken octet by octet (R176).
-/

namespace Sys2Proof.Machine

variable {s : State} {kind b : Byte} {p : List Byte}

/-! ### A request of no kind (R178) -/

theorem unknownTaken_eq (hk : requestKinds.contains kind.toNat = false) (s : State) : unknownTaken kind s = takeUnknown kind s := by
  rw [unknownTaken, requestOf_unknown kind hk]

theorem takeUnknown_discarded (h : s.link.reply.isSome = true) : takeUnknown kind s = hunting s := if_pos h

theorem takeUnknown_busy (hr : s.link.reply = none) (hp : s.link.startPeriod.isSome = true) :
    takeUnknown kind s = answered kind .busy [] s := by
  have hr' : ¬ s.link.reply.isSome = true := by simp [hr]
  exact (if_neg hr').trans (if_pos hp)

theorem takeUnknown_answered (hs : Reachable s) : takeUnknown kind s = answered kind .unknownKind [] s := by
  have hr : ¬ s.link.reply.isSome = true := by simp [hs.1]
  have hp : ¬ s.link.startPeriod.isSome = true := by simp [hs.2]
  exact (if_neg hr).trans (if_neg hp)

/-! ### The receiver's states (R176, R177) -/

theorem badLengthOctet_iff : badLengthOctet b = true ↔ b = 0 ∨ 250 < b.toNat := by simp [badLengthOctet]

theorem badLengthOctet_eq_false (h₁ : 1 ≤ b.toNat) (h₂ : b.toNat ≤ 250) : badLengthOctet b = false := by
  rw [← Bool.not_eq_true, badLengthOctet_iff]
  rintro (rfl | h)
  · exact absurd h₁ (by decide)
  · omega

theorem hostOctet_length (hrec : s.link.receiver = .length) (hb : badLengthOctet b = false) :
    hostOctet b s = s.modLink (Link.receiving (.body b.toNat [])) := by
  rw [hostOctet, hrec]
  simp only [hb]
  rfl

theorem hostOctet_abandoned (hrec : s.link.receiver = .length) (hb : badLengthOctet b = true) : hostOctet b s = hunting s := by
  rw [hostOctet, hrec]
  exact if_pos hb

theorem hostOctet_body {len : Nat} {got : List Byte} (hrec : s.link.receiver = .body len got) (hmore : got.length + 1 < len + 2) :
    hostOctet b s = s.modLink (Link.receiving (.body len (got ++ [b]))) := by
  rw [hostOctet, hrec]
  exact if_neg (by simpa using hmore)

theorem hostOctet_last {len : Nat} {got : List Byte} (hrec : s.link.receiver = .body len got) (hfull : len + 2 ≤ got.length + 1) :
    hostOctet b s = frameCompleted (BitVec.ofNat 8 len :: (got ++ [b])) s := by
  rw [hostOctet, hrec]
  exact if_pos (by simpa using hfull)

theorem hostFrameBad_iff {o : List Byte} : hostFrameBad o = true ↔
    o.length ≠ octetAt o 0 + 3 ∨ (crc16 (o.take (octetAt o 0 + 1))).toNat ≠ halfAt o (octetAt o 0 + 1) := by
  rw [hostFrameBad, Bool.not_eq_true', Bool.and_eq_false_iff, decide_eq_false_iff_not, beq_eq_false_iff_ne]

theorem replyEnded_restart {l : Link} {r : Reply} (hr : l.reply = some r) (hk : r.kind = 0x4F ∧ r.status = .ok) :
    l.replyEnded = { l with receiver := .hunting, gapTimer := none, reply := none } := by
  have : l.answersRestart = true := by simp [Link.answersRestart, hr, hk]
  rw [Link.replyEnded, if_pos this]
  rfl

theorem replyEnded_other {l : Link} {r : Reply} (hr : l.reply = some r) (hk : ¬ (r.kind = 0x4F ∧ r.status = .ok)) :
    l.replyEnded = { l with reply := none } := by
  have : ¬ l.answersRestart = true := by simpa [Link.answersRestart, hr] using hk
  rw [Link.replyEnded, if_neg this]

/-- Settles O54: each event by the state in which the receiver takes it. -/
theorem linkEventsMoveTheReceiver : Obligations.LinkEventsMoveTheReceiver := by
  intro s b l linked
  have frame {t u : State} (h : t = u) : (.next t : Host.Outcome State Fault Refusal) = .next u := congrArg _ h
  refine ⟨fun hrec hb => frame ?_, fun hrec hb => frame ?_, fun hrec h₁ h₂ => frame ?_, fun hrec hb => ⟨frame ?_, frame ?_⟩,
    fun len got hrec hmore => frame (hostOctet_body hrec hmore), fun left hgap => frame ?_, fun o ho => frame ?_,
    fun payload hk => ⟨fun hs => frame ?_, fun hr hp => frame ?_⟩, fun r hr => ⟨fun hk => frame ?_, fun hk => frame ?_⟩, rfl⟩
  · rw [hostOctet, show s.link.receiver = _ from hrec]
    exact if_pos hb
  · rw [hostOctet, show s.link.receiver = _ from hrec]
    exact if_neg hb
  · exact hostOctet_length hrec (badLengthOctet_eq_false h₁ h₂)
  · exact hostOctet_abandoned hrec (badLengthOctet_iff.mpr hb)
  · rw [frameAbandoned, show s.link.receiver = _ from hrec]
    exact if_pos (badLengthOctet_iff.mpr hb)
  · exact if_pos (by rw [show s.link.gapTimer = _ from hgap]; rfl)
  · refine if_pos ?_
    rw [Bool.or_eq_true, hostFrameBad_iff]
    exact ho.symm
  · exact (unknownTaken_eq hk s).trans (takeUnknown_answered hs)
  · exact (unknownTaken_eq hk s).trans (takeUnknown_busy hr hp)
  · exact congrArg linked (replyEnded_restart hr hk)
  · exact congrArg linked (replyEnded_other hr hk)

/-! ### A request frame, octet by octet (R176, R177) -/

/-- A request is taken in the same way from states that differ only in the receiver. -/
theorem takeRequest_of_hunting {t : State} (h : hunting t = hunting s) {sizeOk duringHalt : Bool} {owner : State → Answer} :
    takeRequest kind sizeOk duringHalt owner t = takeRequest kind sizeOk duringHalt owner s := by
  change takeRequest kind sizeOk duringHalt owner (hunting t) = takeRequest kind sizeOk duringHalt owner (hunting s)
  rw [h]

theorem takeUnknown_of_hunting {t : State} (h : hunting t = hunting s) : takeUnknown kind t = takeUnknown kind s := by
  change takeUnknown kind (hunting t) = takeUnknown kind (hunting s)
  rw [h]

theorem requestFrame_length (kind : Byte) (p : List Byte) : (requestFrame kind p).length = p.length + 4 := by
  simp [requestFrame, bigEndian]

/-- The octets of a body, but for the last, stand in the receiver. -/
theorem execAll_body {len : Nat} : ∀ (rest got : List Byte) (s : State), s.link.receiver = .body len got → rest ≠ [] →
    got.length + rest.length = len + 2 → ∃ t, hunting t = hunting s ∧
      execAll (rest.map Instr.hostOctetReceived) s = .next (frameCompleted (BitVec.ofNat 8 len :: (got ++ rest)) t) := by
  intro rest
  induction rest with
  | nil => exact fun _ _ _ h => absurd rfl h
  | cons b rest ih =>
    intro got s hrec _ hlen
    rw [List.length_cons] at hlen
    have hexec : execAll ((b :: rest).map Instr.hostOctetReceived) s =
        execAll (rest.map Instr.hostOctetReceived) (hostOctet b s) := rfl
    rw [hexec]
    cases rest with
    | nil =>
      rw [hostOctet_last hrec (by simpa using hlen.ge)]
      exact ⟨s, rfl, rfl⟩
    | cons c rest =>
      rw [hostOctet_body hrec (by rw [List.length_cons] at hlen; omega)]
      obtain ⟨t, ht, hall⟩ := ih (got ++ [b]) (s.modLink (Link.receiving (.body len (got ++ [b])))) rfl nofun
        (by rw [List.length_append, List.length_singleton]; omega)
      exact ⟨t, ht, by rw [hall, List.append_assoc]; rfl⟩

/-- What a frame's kind and payload do in state `s`. -/
def kindTaken (kind : Byte) (p : List Byte) (s : State) : State :=
  if requestKinds.contains kind.toNat then requestTaken kind p s else takeUnknown kind s

theorem exec_commandOf (kind : Byte) (p : List Byte) (s : State) : exec (commandOf kind p) s = .next (kindTaken kind p s) := by
  unfold kindTaken
  split
  next hk => exact exec_requestKind hk p s
  next hk => exact exec_unknownKind (Bool.eq_false_iff.mpr hk) p s

theorem kindTaken_of_hunting {t : State} (h : hunting t = hunting s) : kindTaken kind p t = kindTaken kind p s := by
  rw [kindTaken, kindTaken, requestTaken, requestTaken, takeRequest_of_hunting h, takeUnknown_of_hunting h]

theorem kindTaken_discarded (h : s.link.reply.isSome = true) : kindTaken kind p s = hunting s := by
  rw [kindTaken, requestTaken, takeRequest_discarded s _ _ _ _ h, takeUnknown_discarded h, ite_self]

theorem frameCompleted_eq {o : List Byte} (hbad : hostFrameBad o = false) :
    frameCompleted o s = kindTaken (o.getD 1 0) ((o.drop 2).take (octetAt o 0 - 1)) s := by
  rw [frameCompleted, hbad, Bool.false_or]
  split
  next hr => exact (kindTaken_discarded hr).symm
  · dsimp only
    unfold kindTaken
    cases hk : requestKinds.contains (o.getD 1 0).toNat with
    | true => rw [requestOf_kind hk]; rfl
    | false => rw [requestOf_unknown _ hk]; rfl

theorem halfAt_bigEndian (covered : List Byte) (v : Half) :
    halfAt (covered ++ bigEndian 2 v.toNat) covered.length = v.toNat := by
  have hv := v.isLt
  have hhigh : octetAt (covered ++ bigEndian 2 v.toNat) covered.length = v.toNat / 256 % 256 := by
    simp [octetAt, bigEndian, List.getD_eq_getElem?_getD]
  have hlow : octetAt (covered ++ bigEndian 2 v.toNat) (covered.length + 1) = v.toNat % 256 := by
    simp [octetAt, bigEndian, List.getD_eq_getElem?_getD]
  rw [halfAt, hhigh, hlow]
  omega

section
variable (hp : p.length ≤ 249)
include hp

theorem requestFrame_count : octetAt (requestFrame kind p) 0 = p.length + 1 := by
  change (BitVec.ofNat 8 (p.length + 1)).toNat = _
  rw [BitVec.toNat_ofNat]
  omega

theorem requestFrame_good : hostFrameBad (requestFrame kind p) = false := by
  rw [← Bool.not_eq_true, hostFrameBad_iff, requestFrame_count hp, requestFrame_length, not_or, not_not, not_not]
  have hcovered : (BitVec.ofNat 8 (p.length + 1) :: kind :: p).length = p.length + 1 + 1 := rfl
  refine ⟨rfl, ?_⟩
  rw [← hcovered, requestFrame, List.take_left, halfAt_bigEndian]

theorem frameCompleted_requestFrame : frameCompleted (requestFrame kind p) s = kindTaken kind p s := by
  rw [frameCompleted_eq (requestFrame_good hp), requestFrame_count hp]
  change kindTaken kind ((p ++ _).take p.length) s = _
  rw [List.take_left]

end

/-- Settles O14: the octets reach the receiver as the frame does, and the frame as its command. -/
theorem requestFrameOctetsActAsTheirCommand : Obligations.RequestFrameOctetsActAsTheirCommand := by
  intro kind p s hp hrec
  have hcount : (BitVec.ofNat 8 (p.length + 1)).toNat = p.length + 1 := by rw [BitVec.toNat_ofNat]; omega
  have hsync : hostOctet 0xC5 s = s.modLink (Link.receiving .length) := by rw [hostOctet, hrec]; rfl
  have hlength : hostOctet (BitVec.ofNat 8 (p.length + 1)) (s.modLink (Link.receiving .length)) =
      (s.modLink (Link.receiving .length)).modLink (Link.receiving (.body (p.length + 1) [])) := by
    rw [hostOctet_length rfl (badLengthOctet_eq_false (by omega) (by omega)), hcount]
  obtain ⟨t, ht, hall⟩ := execAll_body (kind :: p ++ bigEndian 2 (crc16 (BitVec.ofNat 8 (p.length + 1) :: kind :: p)).toNat) []
    ((s.modLink (Link.receiving .length)).modLink (Link.receiving (.body (p.length + 1) []))) rfl nofun (by simp [bigEndian])
  calc execAll ((0xC5 :: requestFrame kind p).map Instr.hostOctetReceived) s
    _ = execAll ((requestFrame kind p).map Instr.hostOctetReceived) (hostOctet 0xC5 s) := rfl
    _ = execAll ((kind :: p ++ bigEndian 2 (crc16 (BitVec.ofNat 8 (p.length + 1) :: kind :: p)).toNat).map
        Instr.hostOctetReceived) ((s.modLink (Link.receiving .length)).modLink (Link.receiving (.body (p.length + 1) []))) := by
      rw [hsync, ← hlength]; rfl
    _ = .next (frameCompleted (requestFrame kind p) t) := hall
    _ = .next (kindTaken kind p s) := by rw [frameCompleted_requestFrame hp, kindTaken_of_hunting ht]; rfl
    _ = exec (commandOf kind p) s := (exec_commandOf kind p s).symm

end Sys2Proof.Machine
end

section
/-!
A loop reply taken octet by octet (R151, R152).
-/

namespace Sys2Proof.Machine

variable {s t : State} {e : Exchange} {o : List Byte}

/-- What the end of an exchange depends on is the exchange's station and command and the state without the exchange. -/
theorem judgeReply_of_dropped (phase : Phase) (h : dropExchange t = dropExchange s) :
    judgeReply { e with phase } o t = judgeReply e o s := by
  have hstations : t.loop.stations = s.loop.stations := congrArg (fun s => s.loop.stations) h
  have hfailed (cause : LoopFailure) : exchangeFailed { e with phase } cause t = exchangeFailed e cause s := by
    rw [exchangeFailed, exchangeFailed, h]
  have hsucceeded (r : LoopReply) : exchangeSucceeded { e with phase } r t = exchangeSucceeded e r s := by
    rw [exchangeSucceeded, exchangeSucceeded, h]
    rfl
  rw [judgeReply, judgeReply, hstations]
  dsimp only
  cases parseLoopReply e.station (decide (e.command = .census)) ((s.loop.stations[e.station].role.kindCode).getD 0) o with
  | error cause => exact hfailed cause
  | ok r => exact hsucceeded r

theorem loopReceived_whole (hle : octetAt o 0 ≤ 64) (hlen : octetAt o 0 ≤ o.length) : loopReceived e o s = judgeReply e o s := by
  rw [loopReceived, if_neg (by omega), loopComplete, decide_eq_true hlen, if_pos rfl]

/-- The exchange listens, the octets `got` of its reply received. -/
def Exchange.HasGot (got : List Byte) (e : Exchange) : Prop :=
  (∃ limit, e.phase = .awaiting limit) ∧ got = [] ∨ ∃ gap, e.phase = .receiving gap got

theorem loopOctet_listening {got : List Byte} (he : s.loop.exchange = some e) (hgot : e.HasGot got) (b : Byte) :
    loopOctet b s = loopReceived e (got ++ [b]) s := by
  obtain ⟨⟨limit, hp⟩, rfl⟩ | ⟨gap, hp⟩ := hgot
  · exact loopOctet_awaiting he hp b
  · exact loopOctet_receiving he hp b

theorem octetAt_append_of_ne_nil {got : List Byte} (h : got ≠ []) (rest : List Byte) : octetAt (got ++ rest) 0 = octetAt got 0 := by
  cases got with
  | nil => exact absurd rfl h
  | cons => rfl

/-- The octets that make a reply whole end in its judgement. -/
theorem execAll_listening : ∀ (rest got : List Byte) (e : Exchange) (s : State), s.loop.exchange = some e → e.HasGot got →
    rest ≠ [] → octetAt (got ++ rest) 0 ≤ 64 → (got ++ rest).length = max 1 (octetAt (got ++ rest) 0) →
    execAll (rest.map Instr.loopOctetReceived) s = .next (judgeReply e (got ++ rest) s) := by
  intro rest
  induction rest with
  | nil => exact fun _ _ _ _ _ h => absurd rfl h
  | cons b rest ih =>
    intro got e s he hgot _ hle hlen
    have happend : got ++ b :: rest = (got ++ [b]) ++ rest := by simp
    have hfirst : octetAt ((got ++ [b]) ++ rest) 0 = octetAt (got ++ [b]) 0 := octetAt_append_of_ne_nil (by simp) rest
    rw [happend] at hle hlen ⊢
    have hexec : execAll ((b :: rest).map Instr.loopOctetReceived) s =
        execAll (rest.map Instr.loopOctetReceived) (loopReceived e (got ++ [b]) s) := by
      rw [← loopOctet_listening he hgot]
      rfl
    rw [hexec]
    cases rest with
    | nil =>
      rw [List.append_nil] at hle hlen ⊢
      rw [loopReceived_whole hle (by omega)]
      rfl
    | cons c rest =>
      have hmore : (got ++ [b]).length < octetAt (got ++ [b]) 0 := by
        rw [hfirst, List.length_append, List.length_cons] at hlen
        simp only [List.length_append, List.length_singleton] at hlen ⊢
        omega
      rw [loopReceived_partial (hfirst ▸ hle) hmore, ih (got ++ [b]) _ _ rfl (.inr ⟨_, rfl⟩) nofun hle hlen]
      exact congrArg _ (judgeReply_of_dropped _ rfl)

/-- Settles O15: every octet but the last leaves the exchange listening. -/
theorem loopReplyOctetsActAsTheReply : Obligations.LoopReplyOctetsActAsTheReply := by
  intro e limit octets s he hp hwhole
  have hcomplete : exec (.loopReplyComplete octets) s = .next (judgeReply e octets s) :=
    congrArg _ (loopCompleted_listening he (by rw [hp]; nofun))
  rw [hcomplete]
  unfold loopReplyWhole at hwhole
  split at hwhole
  · cases hwhole
  next n rest =>
    obtain ⟨hle, hlen⟩ : n.toNat ≤ 64 ∧ rest.length = n.toNat - 1 := by simpa using hwhole
    refine execAll_listening (n :: rest) [] e s he (.inl ⟨⟨limit, hp⟩, rfl⟩) nofun hle ?_
    change rest.length + 1 = max 1 n.toNat
    omega

end Sys2Proof.Machine
end

section
/-!
The checks of R178 in their order, for every kind of request.
-/

namespace Sys2Proof.Machine

variable {s t : State} {kind : Byte} {p : List Byte}

/-! ### What a block may answer (R178 checks 5 and 6) -/

/-- The statuses that a block decides; the others are the Link Controller's. -/
def Status.ofBlock : Status → Bool
  | .ok => true | .badArgument => true | .refusedState => true | .refusedHold => true
  | .busy => false | .unknownKind => false | .badLength => false | .halted => false

theorem Status.ofBlock_iff {st : Status} : st.ofBlock = true ↔
    st ≠ .busy ∧ st ≠ .unknownKind ∧ st ≠ .badLength ∧ st ≠ .halted := by
  cases st <;> simp [Status.ofBlock]

section
variable (p : List Byte) (s : State)

theorem setBackupTrip_status : (setBackupTrip p s).status.ofBlock = true := by
  unfold setBackupTrip
  split <;> rfl

theorem releaseBusTrip_status : (releaseBusTrip s).status.ofBlock = true := by
  unfold releaseBusTrip
  split
  · rfl
  · split <;> rfl

theorem listVehicles_status : (listVehicles p s).status.ofBlock = true := by
  unfold listVehicles
  split <;> rfl

theorem loopSkip_status : (loopSkip s).status.ofBlock = true := by
  unfold loopSkip
  split <;> rfl

theorem naming_status {m : Nat} {p : List Byte} {owner : Fin m → State → Answer} (h : ∀ i, (owner i s).status.ofBlock = true) :
    (naming m p owner s).status.ofBlock = true := by
  unfold naming
  split
  · rfl
  · exact h _

theorem namingVehicle_status {p : List Byte} (missing : List ReplyField) {owner : Slot → Vehicle → State → Answer}
    (h : ∀ i v, (owner i v s).status.ofBlock = true) : (namingVehicle p missing owner s).status.ofBlock = true := by
  unfold namingVehicle
  dsimp only
  split
  · rfl
  · split
    · rfl
    · split
      · rfl
      · exact h _ _

theorem configureSwitch_status : (configureSwitch p s).status.ofBlock = true :=
  naming_status s fun _ => by
    split
    · split <;> rfl
    · rfl

theorem setSwitch_status : (setSwitch p s).status.ofBlock = true :=
  naming_status s fun _ => by
    split
    · rfl
    · split <;> rfl

theorem setStation_status : (setStation p s).status.ofBlock = true :=
  naming_status s fun _ => by
    split
    · rfl
    · split <;> rfl

theorem owner_status : ∀ n ∈ requestKinds, (ownerOf n p s).status.ofBlock = true := by
  have ite {c : Prop} [Decidable c] {a b : Answer} (ha : a.status.ofBlock = true) (hb : b.status.ofBlock = true) :
      (if c then a else b).status.ofBlock = true := by
    split
    · exact ha
    · exact hb
  have named {m : Nat} {p : List Byte} {owner : Fin m → State → Answer} := naming_status s (m := m) (p := p) (owner := owner)
  have vehicle {p : List Byte} := namingVehicle_status s (p := p)
  simp only [requestKinds, List.cons_append, List.nil_append, List.forall_mem_cons, List.not_mem_nil,
    IsEmpty.forall_iff, implies_true, and_true]
  exact ⟨named fun _ => by split <;> rfl,
    named fun _ => rfl,
    named fun _ => ite rfl rfl,
    named fun _ => rfl,
    named fun _ => by split <;> rfl,
    named fun _ => rfl,
    named fun _ => ite rfl rfl,
    named fun _ => by split <;> rfl,
    named fun _ => rfl,
    named fun _ => rfl,
    named fun _ => by split <;> rfl,
    named fun _ => rfl,
    setBackupTrip_status p s,
    rfl,
    named fun _ => rfl,
    named fun _ => ite (ite rfl rfl) rfl,
    named fun _ => by split <;> rfl,
    named fun _ => ite (ite rfl rfl) rfl,
    named fun _ => ite rfl rfl,
    named fun _ => ite rfl rfl,
    named fun _ => ite rfl rfl,
    named fun _ => rfl,
    named fun _ => rfl,
    named fun _ => by split <;> rfl,
    named fun _ => rfl,
    releaseBusTrip_status s,
    rfl,
    rfl,
    named fun _ => rfl,
    rfl,
    rfl,
    vehicle _ fun _ _ => rfl,
    listVehicles_status p s,
    vehicle _ fun _ _ => ite rfl rfl,
    ite rfl (vehicle _ fun _ _ => rfl),
    configureSwitch_status p s,
    setSwitch_status p s,
    named fun _ => ite rfl (ite rfl rfl),
    named fun _ => ite rfl rfl,
    named fun _ => ite rfl rfl,
    named fun _ => rfl,
    setStation_status p s,
    named fun _ => ite rfl rfl,
    named fun _ => rfl,
    rfl,
    rfl,
    loopSkip_status s,
    rfl,
    rfl,
    rfl,
    rfl,
    rfl,
    rfl,
    rfl⟩

end

/-! ### The Link Controller's checks (R177, R178, R182) -/

theorem kind_of_size {size : Nat} (h : kindSize kind p = some size) : requestKinds.contains kind.toNat = true := by
  unfold kindSize at h
  split at h
  case h_28 =>
    split at h
    next hk => exact hk
    · cases h
  all_goals
    rename_i heq
    rw [heq]
    rfl

theorem requestTaken_sized {status : Status} {fields : List ReplyField} (hs : Reachable s) (hsize : kindSize kind p = some p.length)
    (hh : s.halted = true → haltKinds.contains kind.toNat = true)
    (ho : ownerOf kind.toNat p (hunting s) = ⟨hunting t, status, fields⟩) :
    requestTaken kind p s = answered kind status fields t := by
  rw [requestTaken, decide_eq_true hsize, takeRequest_owner s kind _ _ hs hh, ho]
  rfl

/-! ### Numbers outside their range (R181) -/

section
variable (s)

theorem owner_section_outside (h : octetAt p 0 = 0 ∨ 8 < octetAt p 0) :
    ∀ n ∈ [0x01, 0x02, 0x03, 0x04, 0x08, 0x09, 0x0A, 0x0C, 0x0D, 0x0E, 0x10, 0x11, 0x14, 0x15, 0x16, 0x17, 0x18,
        0x19, 0x1A, 0x1B, 0x1C, 0x1D, 0x1E, 0x22], ownerOf n p s = badArgument s := by
  simp only [List.forall_mem_cons, List.not_mem_nil, IsEmpty.forall_iff, implies_true, and_true]
  and_intros
  all_goals
    simp only [ownerOf, setProtection, getProtection, rebaseFilter, getMeasurement, setCondition, getCondition, ackCondition,
      setCapture, getCapture, fetchCapture, setSection, getSectionSettings, getSection, closeSection, openSection, forceClose,
      clearLockout, isolate, deisolate, intertrip, holdReclose, extendHold, releaseHold, getTestResult]
    exact naming_outside s p _ h

theorem owner_switch_outside (h : octetAt p 0 = 0 ∨ 16 < octetAt p 0) :
    ∀ n ∈ [0x30, 0x31, 0x32, 0x33, 0x34, 0x35], ownerOf n p s = badArgument s := by
  simp only [List.forall_mem_cons, List.not_mem_nil, IsEmpty.forall_iff, implies_true, and_true]
  and_intros
  all_goals
    simp only [ownerOf, configureSwitch, setSwitch, pinSwitch, unpinSwitch, clearSwitchLock, getSwitch]
    exact naming_outside s p _ h

theorem owner_station_outside (h : octetAt p 0 = 0 ∨ 32 < octetAt p 0) :
    ∀ n ∈ [0x38, 0x39, 0x3A], ownerOf n p s = badArgument s := by
  simp only [List.forall_mem_cons, List.not_mem_nil, IsEmpty.forall_iff, implies_true, and_true]
  and_intros
  all_goals
    simp only [ownerOf, setStation, removeStation, getStation]
    exact naming_outside s p _ h

theorem namingVehicle_outside (h : halfAt p 0 = 0 ∨ 9999 < halfAt p 0) (missing : List ReplyField)
    (owner : Slot → Vehicle → State → Answer) : namingVehicle p missing owner s = badArgument s := if_pos h

theorem getVehicle_outside (h : halfAt p 0 = 0 ∨ 9999 < halfAt p 0) : getVehicle p s = badArgument s :=
  namingVehicle_outside s h _ _

theorem removeVehicle_outside (h : halfAt p 0 = 0 ∨ 9999 < halfAt p 0) : removeVehicle p s = badArgument s := by
  unfold removeVehicle
  exact namingVehicle_outside s h _ _

theorem clearFault_outside (h : halfAt p 0 = 0 ∨ 9999 < halfAt p 0) : clearFault p s = badArgument s := by
  unfold clearFault
  dsimp only
  split
  · rfl
  · exact namingVehicle_outside s h _ _

theorem owner_vehicle_outside (h : halfAt p 0 = 0 ∨ 9999 < halfAt p 0) :
    ∀ n ∈ [0x2A, 0x2C, 0x2D], ownerOf n p s = badArgument s := by
  simp only [List.forall_mem_cons, List.not_mem_nil, IsEmpty.forall_iff, implies_true, and_true]
  exact ⟨getVehicle_outside s h, removeVehicle_outside s h, clearFault_outside s h⟩

theorem listVehicles_outside (h : 8 < octetAt p 0 ∧ octetAt p 0 ≠ 255 ∨ octetAt p 1 = 0 ∨ 64 < octetAt p 1) :
    listVehicles p s = badArgument s := by
  unfold listVehicles
  split
  next sel start hsel hstart =>
    rcases h with ⟨h8, h255⟩ | h
    · unfold selectorOf at hsel
      split at hsel
      · omega
      · omega
      · rw [indexOf_eq_none.mpr (.inr h8)] at hsel
        cases hsel
    · rw [indexOf_eq_none.mpr h] at hstart
      cases hstart
  · rfl

end

/-- Settles O16: the checks in `takeRequest`'s order; a number outside its range is refused by the block that is named. -/
theorem requestChecksInTheirOrder : Obligations.RequestChecksInTheirOrder := by
  refine ⟨fun kind p s => ⟨_, exec_commandOf kind p s, kindTaken_discarded, fun hr hp => ?_, fun hs => ⟨fun hk => ?_,
    fun hk hsize => ?_, fun hsize hh hhalt => ?_, fun hsize hh => ?_⟩⟩, fun kind p s hs hsize h => ?_⟩
  · rw [kindTaken, requestTaken, takeRequest_busy s _ _ _ _ hr hp, takeUnknown_busy hr hp, ite_self]
  · rw [kindTaken, hk, takeUnknown_answered hs]
    rfl
  · rw [kindTaken, hk, if_pos rfl, requestTaken, decide_eq_false hsize, takeRequest_badLength s _ _ _ hs]
  · rw [kindTaken, kind_of_size hsize, if_pos rfl, requestTaken, decide_eq_true hsize, hhalt, takeRequest_halted s _ _ hs hh]
  · have hk := kind_of_size hsize
    rw [kindTaken, hk, if_pos rfl, requestTaken, decide_eq_true hsize, takeRequest_owner s _ _ _ hs hh]
    refine ⟨rfl, fun r hr => ?_⟩
    obtain rfl := Option.some.inj hr
    exact ⟨rfl, Status.ofBlock_iff.mp (owner_status p _ _ (List.contains_iff_mem.mp hk))⟩
  · have hbad : ownerOf kind.toNat p (hunting s) = badArgument (hunting s) := by
      rcases h with ⟨hk, h⟩ | ⟨hk, h⟩ | ⟨hk, h⟩ | ⟨hk, h⟩ | ⟨hk, h⟩
      · exact owner_section_outside _ h _ hk
      · exact owner_switch_outside _ h _ hk
      · exact owner_station_outside _ h _ hk
      · exact owner_vehicle_outside _ h _ hk
      · rw [hk]
        exact listVehicles_outside _ h
    rw [exec_commandOf, kindTaken, kind_of_size hsize, if_pos rfl]
    exact congrArg _ (requestTaken_sized hs.reachable hsize (by simp [hs.halted_eq_false]) hbad)

end Sys2Proof.Machine
end

section
/-!
The Section Controller's requests (R48, R55, R63 to R67), over the record of the section that they name.
-/

namespace Sys2Proof.Machine

variable {s : State} {n : Sec} {r : Section} {p : List Byte}

/-! ### One section's record -/

/-- The state with the record of section `n` replaced. -/
def State.withSec (s : State) (n : Sec) (r : Section) : State := { s with secs := s.secs.set n r }

@[simp] theorem State.withSec_sec (s : State) (n : Sec) (r : Section) : (s.withSec n r).secs[n] = r := Vector.getElem_set_self ..

theorem State.withSec_withSec (s : State) (n : Sec) (r r' : Section) : (s.withSec n r).withSec n r' = s.withSec n r' :=
  congrArg (fun secs => { s with secs }) (Vector.set_set ..)

theorem State.withSec_self (s : State) (n : Sec) : s.withSec n s.secs[n] = s :=
  congrArg (fun secs => { s with secs }) (Vector.set_getElem_self ..)

theorem State.modSec_eq (s : State) (n : Sec) (f : Section → Section) : s.modSec n f = s.withSec n (f s.secs[n]) := rfl

@[simp] theorem State.modSec_withSec (s : State) (n : Sec) (r : Section) (f : Section → Section) :
    (s.withSec n r).modSec n f = s.withSec n (f r) := by
  rw [State.modSec_eq, State.withSec_withSec, State.withSec_sec]

theorem enter_eq (n : Sec) (st : SecState) (s : State) : enter n st s = s.withSec n (s.secs[n].entered s.halted st) := rfl

theorem enter_withSec (n : Sec) (st : SecState) (s : State) (r : Section) :
    enter n st (s.withSec n r) = s.withSec n (r.entered s.halted st) := State.modSec_withSec ..

/-! ### The record at entry into a state, with the part not halted (R46) -/

theorem Section.entered_openLike {st : SecState} (hst : st.openLike = true) (r : Section) :
    r.entered false st = r.standingOpen st := by
  cases st with
  | opened => simp [Section.entered, Section.withLines, Section.standingOpen, Section.standing, SecState.openLike, SecState.tripAtEntry]
  | lockout => simp [Section.entered, Section.withLines, Section.standingOpen, Section.standing, SecState.openLike, SecState.tripAtEntry]
  | isolated => simp [Section.entered, Section.withLines, Section.standingOpen, Section.standing, SecState.openLike, SecState.tripAtEntry]
  | _ => cases hst

theorem Section.entered_closing (r : Section) : r.entered false .closing =
    { r.standing .closing with tripLine := false, closeLine := true, closing := some r.settings.closeLimit } := by
  simp [Section.entered, Section.withLines, Section.standing, SecState.openLike, SecState.tripAtEntry]

/-! ### Joining the test list (R77, R78) -/

theorem enterTestWait_joining (hh : s.halted = false) (ht : TestsOk s) (hg : GrantsOk s) (hn : s.secs[n].state ≠ .testWait)
    (r : Section) : enterTestWait n (s.withSec n r) = s.joining n r := by
  obtain ⟨-, -, hwait, -⟩ := ht
  exact enterTestWait_eq s n r hh (fun h => hn ((hwait n).mp h)) hg

/-- The record that joins the list, waiting or granted a circuit, keeps its holds, its hold timer and its manual flag. -/
theorem State.joining_sec (n : Sec) (r : Section) (s : State) :
    (s.joining n r).secs[n].holds = r.holds ∧ (s.joining n r).secs[n].holdTimer = r.holdTimer ∧
    (r.manual = true → (s.joining n r).secs[n].attempt = r.attempt) := by
  unfold State.joining
  dsimp only
  split
  · simp [Section.standing]
  · simp +contextual [Section.standing]

theorem State.joining_hunting (n : Sec) (r : Section) (s : State) : (hunting s).joining n r = hunting (s.joining n r) := by
  unfold State.joining
  change (match (if s.arb.waiting = [] ∧ s.arb.held < s.arb.count then s.arb.freeCircuit else none) with
    | none => _ | some c => _) = _
  cases (if s.arb.waiting = [] ∧ s.arb.held < s.arb.count then s.arb.freeCircuit else none) with
  | none => rfl
  | some c => rfl

theorem Holds.isEmpty_iff {h : Holds} : h.isEmpty = true ↔ h = ⟨false, false, false, false, false⟩ := by
  obtain ⟨timer, leak, dewired, switchLock, noSupply⟩ := h
  simp [Holds.isEmpty, and_assoc]

/-- A section that the change of its holds leaves where it is (R56). -/
theorem holdsChanged_stays (h : r.state ≠ .deadTime ∨ r.held = false ∨ r.holds ≠ ⟨false, false, false, false, false⟩) :
    holdsChanged n (s.withSec n r) = s.withSec n r := by
  refine if_neg fun hgo => ?_
  rw [State.withSec_sec, Bool.and_eq_true, Bool.and_eq_true, Bool.and_eq_true, decide_eq_true_eq, Holds.isEmpty_iff] at hgo
  obtain ⟨⟨⟨-, hst⟩, hheld⟩, hempty⟩ := hgo
  rcases h with h | h | h
  · exact h hst
  · exact nomatch h.symm.trans hheld
  · exact h hempty

/-- A held section whose last hold is gone (R56). -/
theorem holdsChanged_joins (hh : s.halted = false) (ht : TestsOk s) (hg : GrantsOk s) (hn : s.secs[n].state = .deadTime)
    (hst : r.state = .deadTime) (hheld : r.held = true) (hempty : r.holds = ⟨false, false, false, false, false⟩) :
    holdsChanged n (s.withSec n r) = s.joining n r := by
  rw [← enterTestWait_joining hh ht hg (by rw [hn]; nofun) r]
  refine if_pos ?_
  rw [State.withSec_sec, hst, hheld, hempty, show (s.withSec n r).halted = false from hh]
  rfl

/-! ### CLOSE SECTION (R63) -/

theorem closeSection_eq (hn : octetAt p 0 = number n) (s : State) : closeSection p s =
    if s.secs[n].state = .opened ∧ s.secs[n].feedback = .opened then
      if s.secs[n].holds.isEmpty then acceptSection n (enterTestWait n (s.withSec n s.secs[n].manualSequence))
      else refuseHold s (sectionReply n s)
    else refuseSection n s := naming_named s p _ n hn

theorem closeSection_joins (hn : octetAt p 0 = number n) (hh : s.halted = false) (ht : TestsOk s) (hg : GrantsOk s)
    (hst : s.secs[n].state = .opened) (hf : s.secs[n].feedback = .opened)
    (hholds : s.secs[n].holds = ⟨false, false, false, false, false⟩) :
    closeSection p s = acceptSection n (s.joining n s.secs[n].manualSequence) := by
  rw [closeSection_eq hn, if_pos ⟨hst, hf⟩, if_pos (Holds.isEmpty_iff.mpr hholds),
    enterTestWait_joining hh ht hg (by rw [hst]; nofun)]

/-- Settles O22: the record that joins is `Section.manualSequence`. -/
theorem closeSectionBeginsAManualSequence : Obligations.CloseSectionBeginsAManualSequence := by
  intro n p s hs hp hn r limit
  refine ⟨fun ht hg hst hf hholds => taken_when_ready hs hp ?_, fun hst hf hholds => taken_when_ready hs hp ?_,
    fun h => taken_when_ready hs hp ?_⟩
  · obtain ⟨hsame, -, hattempt⟩ := State.joining_sec n r.manualSequence s
    refine (closeSection_joins (s := hunting s) hn hs.halted_eq_false ht hg hst hf hholds).trans ?_
    change acceptSection n ((hunting s).joining n r.manualSequence) = _
    rw [State.joining_hunting, acceptSection, accept, sectionReply]
    change Answer.mk _ .ok [.nat 1 (s.joining n r.manualSequence).secs[n].state.code,
      .nat 2 (s.joining n r.manualSequence).secs[n].attempt, .nat 2 (s.joining n r.manualSequence).secs[n].holds.word] = _
    rw [hattempt rfl, hsame, show r.manualSequence.holds = ⟨false, false, false, false, false⟩ from hholds]
    rfl
  · have hempty : ¬ r.holds.isEmpty = true := by rw [Holds.isEmpty, hholds]; nofun
    refine (closeSection_eq hn (hunting s)).trans ((if_pos ⟨hst, hf⟩).trans ((if_neg hempty).trans ?_))
    rw [refuseHold, sectionReply, show (hunting s).secs[n].state = _ from hst]
    rfl
  · exact (closeSection_eq hn (hunting s)).trans (if_neg fun ⟨hst, hf⟩ => h.elim (· hst) (· hf))

/-! ### OPEN SECTION of a waiting section (R64) -/

theorem openSection_waiting (hn : octetAt p 0 = number n)
    (hst : s.secs[n].state = .deadTime ∨ s.secs[n].state = .testWait ∨ s.secs[n].state = .lineTest ∨ s.secs[n].state = .held) :
    openSection p s = acceptSection n (enter n .opened (abandonTest n s)) := by
  rw [openSection, naming_named s p _ n hn]
  rcases hst with h | h | h | h <;> rw [h]

theorem openSection_refused (hn : octetAt p 0 = number n)
    (hst : s.secs[n].state = .opened ∨ s.secs[n].state = .lockout ∨ s.secs[n].state = .isolated ∨ s.secs[n].state = .breakerFail) :
    openSection p s = refuseSection n s := by
  rw [openSection, naming_named s p _ n hn]
  rcases hst with h | h | h | h <;> rw [h]

/-- OPEN SECTION's answer, once its test is abandoned with only the arbiter's record changed. -/
theorem openSection_opens (hn : octetAt p 0 = number n) (hh : s.halted = false)
    (hst : s.secs[n].state = .deadTime ∨ s.secs[n].state = .testWait ∨ s.secs[n].state = .lineTest ∨ s.secs[n].state = .held)
    {arb : Arbiter} (habandon : abandonTest n s = { s with arb }) :
    openSection p s = ⟨{ s.withSec n (s.secs[n].standingOpen .opened) with arb }, .ok, [.nat 1 8, .nat 2 s.secs[n].attempt,
      .nat 2 (s.secs[n].standingOpen .opened).holds.word]⟩ := by
  have henter : enter n .opened { s with arb } = { s.withSec n (s.secs[n].standingOpen .opened) with arb } := by
    have hrec : s.secs[n].entered s.halted .opened = s.secs[n].standingOpen .opened := by
      rw [hh, Section.entered_openLike rfl]
    exact congrArg (fun r => ({ s.withSec n r with arb } : State)) hrec
  rw [openSection_waiting hn hst, habandon, henter, acceptSection, accept, sectionReply]
  change Answer.mk _ _ [_, _, _] = _
  rw [show ({ s.withSec n (s.secs[n].standingOpen .opened) with arb } : State).secs[n] = _ from s.withSec_sec n _]
  rfl

/-- Settles O23. -/
theorem openSectionEndsASequence : Obligations.OpenSectionEndsASequence := by
  intro n p s hs hp hn r opened fields
  have hh : (hunting s).halted = false := hs.halted_eq_false
  refine ⟨fun hst => taken_when_ready hs hp ?_, fun hst => taken_when_ready hs hp ?_,
    fun c ht hst hc hw => taken_when_ready hs hp ?_, fun hst => taken_when_ready hs hp ?_⟩
  · refine openSection_opens (arb := s.arb) hn hh (by tauto) ?_
    rcases hst with h | h <;> rw [abandonTest, show (hunting s).secs[n].state = _ from h] <;> rfl
  · refine openSection_opens hn hh (.inr (.inl hst)) ?_
    rw [abandonTest, show (hunting s).secs[n].state = _ from hst]
    rfl
  · obtain ⟨-, -, -, -, hinj, -⟩ := ht
    refine openSection_opens (arb := s.arb.clear c) hn hh (.inr (.inr (.inl hst))) ?_
    have hcircuit : (hunting s).arb.circuitOf n = some c := Arbiter.circuitOf_of_holder (fun d e => hinj d e n) hc
    rw [abandonTest, show (hunting s).secs[n].state = _ from hst]
    dsimp only
    rw [releaseCircuit, hcircuit]
    exact applyGrants_idle (.inl hw)
  · exact openSection_refused hn hst

end Sys2Proof.Machine
end

section
/-!
FORCE CLOSE, the lockout requests, the hold timer and the settings (R48, R55, R56, R65, R66).
-/

namespace Sys2Proof.Machine

variable {s : State} {n : Sec} {r : Section} {p : List Byte}

/-! ### FORCE CLOSE, CLEAR LOCKOUT, ISOLATE, DEISOLATE (R65, R66) -/

theorem forceClose_eq (hn : octetAt p 0 = number n) (s : State) : forceClose p s =
    if s.secs[n].state = .held then
      if s.secs[n].holds.dewired || s.secs[n].holds.switchLock then refuseHold s (sectionReply n s)
      else acceptSection n (enterClosing n s)
    else refuseSection n s := naming_named s p _ n hn

theorem clearLockout_eq (hn : octetAt p 0 = number n) (s : State) : clearLockout p s =
    if s.secs[n].state = .lockout then acceptSection n (moveOpen n .opened s) else refuseSection n s :=
  naming_named s p _ n hn

theorem isolate_eq (hn : octetAt p 0 = number n) (s : State) : isolate p s =
    if s.secs[n].state = .opened ∨ s.secs[n].state = .lockout then acceptSection n (moveOpen n .isolated s)
    else refuseSection n s := naming_named s p _ n hn

theorem deisolate_eq (hn : octetAt p 0 = number n) (s : State) : deisolate p s =
    if s.secs[n].state = .isolated then acceptSection n (moveOpen n .opened s) else refuseSection n s :=
  naming_named s p _ n hn

theorem readsClosed_eq_false (hf : r.feedback ≠ .closed) (hd : r.feedback = .discrepant → r.asClosed = false) :
    r.readsClosed = false := by
  rw [Section.readsClosed, decide_eq_false hf, Bool.false_or, Bool.and_eq_false_iff, decide_eq_false_iff_not]
  exact or_iff_not_imp_left.mpr fun h => hd (not_not.mp h)

theorem enterClosing_eq (hh : s.halted = false) (hreads : s.secs[n].readsClosed = false) :
    enterClosing n s = s.withSec n { s.secs[n].standing .closing with
      tripLine := false, closeLine := true, closing := some s.secs[n].settings.closeLimit } := by
  have henter : enter n .closing s = s.withSec n { s.secs[n].standing .closing with
      tripLine := false, closeLine := true, closing := some s.secs[n].settings.closeLimit } := by
    rw [enter_eq, hh, Section.entered_closing]
  rw [enterClosing, henter, State.withSec_sec]
  exact if_neg (by rw [Bool.not_eq_true]; exact hreads)

theorem moveOpen_eq {st : SecState} (hst : st.openLike = true) (hh : s.halted = false) :
    moveOpen n st s = s.withSec n { s.secs[n].standingOpen st with manual := false } := by
  rw [moveOpen, enter_eq, hh, Section.entered_openLike hst, State.modSec_withSec]

theorem acceptSection_withSec (n : Sec) (r : Section) (s : State) : acceptSection n (s.withSec n r) =
    ⟨s.withSec n r, .ok, [.nat 1 r.state.code, .nat 2 r.attempt, .nat 2 r.holds.word]⟩ := by
  rw [acceptSection, accept, sectionReply, State.withSec_sec]
  rfl

/-- Settles O25. -/
theorem forceCloseAndLockoutRequestsMoveTheSection : Obligations.ForceCloseAndLockoutRequestsMoveTheSection := by
  intro n p s hs hp hn r refused closing
  have hh : (hunting s).halted = false := hs.halted_eq_false
  refine ⟨fun hst hd hl hf ha => taken_when_ready hs hp ?_, fun hst hhold => taken_when_ready hs hp ?_,
    fun hst => taken_when_ready hs hp ?_, fun c kind st from_ hc => ?_⟩
  · refine (forceClose_eq hn _).trans ((if_pos hst).trans ((if_neg ?_).trans ?_))
    · simp only [show (hunting s).secs[n] = r from rfl, hd, hl]
      nofun
    · rw [enterClosing_eq hh (readsClosed_eq_false hf ha), acceptSection_withSec]
      rfl
  · refine (forceClose_eq hn _).trans ((if_pos hst).trans (if_pos ?_))
    rwa [Bool.or_eq_true]
  · exact (forceClose_eq hn _).trans (if_neg hst)
  · have move {st : SecState} (hst : st.openLike = true) : acceptSection n (moveOpen n st (hunting s)) =
        ⟨hunting (s.withSec n { r.standingOpen st with manual := false }), .ok,
          [.nat 1 st.code, .nat 2 r.attempt, .nat 2 (r.standingOpen st).holds.word]⟩ := by
      rw [moveOpen_eq hst hh, acceptSection_withSec]
      rfl
    rcases hc with ⟨rfl, rfl, rfl, rfl⟩ | ⟨rfl, rfl, rfl, rfl⟩ | ⟨rfl, rfl, rfl, rfl⟩
    · exact ⟨fun h => taken_when_ready hs hp ((clearLockout_eq hn _).trans ((if_pos (List.mem_singleton.mp h)).trans (move rfl))),
        fun h => taken_when_ready hs hp ((clearLockout_eq hn _).trans (if_neg fun h' => h (List.mem_singleton.mpr h')))⟩
    · have hmem : r.state ∈ [.opened, .lockout] ↔ r.state = .opened ∨ r.state = .lockout := by simp
      exact ⟨fun h => taken_when_ready hs hp ((isolate_eq hn _).trans ((if_pos (hmem.mp h)).trans (move rfl))),
        fun h => taken_when_ready hs hp ((isolate_eq hn _).trans (if_neg fun h' => h (hmem.mpr h')))⟩
    · exact ⟨fun h => taken_when_ready hs hp ((deisolate_eq hn _).trans ((if_pos (List.mem_singleton.mp h)).trans (move rfl))),
        fun h => taken_when_ready hs hp ((deisolate_eq hn _).trans (if_neg fun h' => h (List.mem_singleton.mpr h')))⟩

/-! ### The hold timer (R55) -/

theorem setHolds_withSec (n : Sec) (f : Holds → Holds) (s : State) (r : Section) :
    setHolds n f (s.withSec n r) = holdsChanged n (s.withSec n { r with holds := f r.holds }) := by
  rw [setHolds, State.modSec_withSec]

/-- The record without its hold timer and the hold TIMER. -/
def Section.unheld (r : Section) : Section := { r with holdTimer := none, holds := { r.holds with timer := false } }

theorem holdReclose_eq (hn : octetAt p 0 = number n) (s : State) : holdReclose p s =
    let t := setHolds n (fun h => { h with timer := true })
      (s.withSec n { s.secs[n] with holdTimer := some (clamp 1 maxHold (wideAt p 1)) })
    accept t (holdReply n t) := naming_named s p _ n hn

theorem extendHold_eq (hn : octetAt p 0 = number n) (s : State) : extendHold p s =
    match s.secs[n].holdTimer with
    | none => refuseState s (holdReply n s)
    | some t =>
      let u := s.withSec n { s.secs[n] with holdTimer := some (min maxHold (t + clamp 1 maxHold (wideAt p 1))) }
      accept u (holdReply n u) := naming_named s p _ n hn

/-- Ending the hold timer, by request or by expiry. -/
def endHold (n : Sec) (s : State) : State :=
  setHolds n (fun h => { h with timer := false }) (s.withSec n { s.secs[n] with holdTimer := none })

theorem releaseHold_eq (hn : octetAt p 0 = number n) (s : State) : releaseHold p s =
    accept (endHold n s) (holdReply n (endHold n s)) := naming_named s p _ n hn

theorem holdTimerExpired_eq {left : Nat} (hh : s.halted = false) (ht : s.secs[n].holdTimer = some left) :
    holdTimerExpired n s = endHold n s := by
  refine if_pos ?_
  rw [timerRuns, hh, ht]
  rfl

theorem endHold_eq (n : Sec) (s : State) : endHold n s = holdsChanged n (s.withSec n s.secs[n].unheld) := setHolds_withSec ..

theorem holdReply_withSec (n : Sec) (r : Section) (s : State) :
    holdReply n (s.withSec n r) = [.nat 4 (r.holdTimer.getD 0), .nat 2 r.holds.word] := by
  rw [holdReply, State.withSec_sec]
  rfl

theorem endHold_stays (h : s.secs[n].state ≠ .deadTime ∨ s.secs[n].held = false ∨
    s.secs[n].unheld.holds ≠ ⟨false, false, false, false, false⟩) : endHold n s = s.withSec n s.secs[n].unheld :=
  (endHold_eq n s).trans (holdsChanged_stays h)

theorem endHold_joins (hh : s.halted = false) (ht : TestsOk s) (hg : GrantsOk s) (h : ¬ (s.secs[n].state ≠ .deadTime ∨
    s.secs[n].held = false ∨ s.secs[n].unheld.holds ≠ ⟨false, false, false, false, false⟩)) :
    endHold n s = s.joining n s.secs[n].unheld := by
  simp only [not_or, not_not, ne_eq, Bool.not_eq_false] at h
  obtain ⟨hst, hheld, hempty⟩ := h
  exact (endHold_eq n s).trans (holdsChanged_joins hh ht hg hst hst hheld hempty)

/-- Settles O26: the request and the expiry end the hold timer alike. -/
theorem holdTimerSetsTheTimerHold : Obligations.HoldTimerSetsTheTimerHold := by
  intro n s hh r without stays
  have hclamp (p : List Byte) : clamp 1 maxHold (wideAt p 1) = max 1 (min (wideAt p 1) 3600000) := clamp_eq ..
  refine ⟨fun p hs hp hn => ⟨taken_when_ready hs hp ?_, fun left ht => taken_when_ready hs hp ?_,
    fun ht => taken_when_ready hs hp ?_⟩, fun p hs hp hn => ⟨fun h => taken_when_ready hs hp ?_,
    fun h ht hg => taken_when_ready hs hp ?_⟩, fun left ht => ⟨fun h => congrArg Host.Outcome.next ?_,
      fun h htests hg => congrArg Host.Outcome.next ?_⟩⟩
  · rw [holdReclose_eq hn, setHolds_withSec, holdsChanged_stays (.inr (.inr fun h => Bool.noConfusion (show true = false from congrArg Holds.timer h))),
      hclamp]
    dsimp only
    rw [holdReply_withSec]
    rfl
  · rw [extendHold_eq hn, show (hunting s).secs[n].holdTimer = _ from ht, hclamp]
    dsimp only
    rw [holdReply_withSec]
    rfl
  · rw [extendHold_eq hn, show (hunting s).secs[n].holdTimer = _ from ht]
    dsimp only
    rw [holdReply, show (hunting s).secs[n].holdTimer = _ from ht]
    rfl
  · rw [releaseHold_eq hn, endHold_stays (s := hunting s) h, holdReply_withSec]
    rfl
  · obtain ⟨hholds, htimer, -⟩ := State.joining_sec n without s
    have hempty : without.holds = ⟨false, false, false, false, false⟩ := by
      simp only [stays, not_or, not_not, ne_eq] at h
      exact h.2.2
    have hreply : holdReply n (hunting (s.joining n without)) = [.nat 4 0, .nat 2 0] := by
      rw [holdReply]
      change [fieldMs ((s.joining n without).secs[n].holdTimer.getD 0), fieldVal (s.joining n without).secs[n].holds.word] = _
      rw [htimer, hholds, hempty]
      rfl
    rw [releaseHold_eq hn, endHold_joins (s := hunting s) hh ht hg h, State.joining_hunting]
    exact congrArg (Answer.mk _ .ok) hreply
  · exact (holdTimerExpired_eq hh ht).trans (endHold_stays h)
  · exact (holdTimerExpired_eq hh ht).trans (endHold_joins hh htests hg h)

/-! ### Settings (R48) -/

theorem switchCode_of_le {k : Nat} (h : k ≤ 1) : switchCode k = some (k == 1) := by
  interval_cases k <;> rfl

theorem switchCode_of_gt {k : Nat} (h : 1 < k) : switchCode k = none := by
  unfold switchCode
  split
  · omega
  · omega
  · rfl

theorem setSection_eq (hn : octetAt p 0 = number n) (s : State) : setSection p s =
    match parseSettings p with
    | none => badArgument s
    | some c => accept (reportFacts n (s.withSec n { s.secs[n] with settings := c })) c.fields := naming_named s p _ n hn

/-- The settings that a payload with a known leak hold code carries. -/
theorem parseSettings_of_known (h : octetAt p 24 ≤ 1) :
    let fault := max 10 (min (halfAt p 26) 5000)
    let dead (k : Nat) := max 500 (min (wideAt p k) 120000)
    parseSettings p = some
      { tests := min (octetAt p 1) 3, dead := ⟨dead 2, dead 6, dead 10⟩, openLimit := max 20 (min (halfAt p 14) 500)
        closeLimit := max 50 (min (halfAt p 16) 1000), reclaim := max 1000 (min (halfAt p 18) 60000)
        holdLimit := max 10000 (min (wideAt p 20) 3600000), leakHold := octetAt p 24 == 1
        resistor := max 1 (octetAt p 25), faultLevel := fault, clearLevel := max fault (min (halfAt p 28) 20000)
        vehicle := max 100 (min (halfAt p 30) 60000), settle := max 50 (min (halfAt p 32) 2000) } := by
  intro fault dead
  have hresistor : min (octetAt p 25) 255 = octetAt p 25 := Nat.min_eq_left (Nat.le_of_lt_succ (octetAt_lt p 25))
  rw [parseSettings, switchCode_of_le h]
  simp only [clamp_eq, hresistor]
  rfl

theorem parseSettings_of_unknown (h : 1 < octetAt p 24) : parseSettings p = none := by
  rw [parseSettings, switchCode_of_gt h]

/-- The holds as the Vehicle Table's facts make them under the settings of the record. -/
def State.factHolds (s : State) (n : Sec) (r : Section) : Holds :=
  { r.holds with leak := decide (0 < s.leaking n) && r.settings.leakHold, dewired := decide (0 < s.dewired n) }

theorem reportFacts_withSec (n : Sec) (s : State) (r : Section) :
    reportFacts n (s.withSec n r) = holdsChanged n (s.withSec n { r with holds := s.factHolds n r }) := by
  rw [reportFacts, setHolds_withSec, State.withSec_sec]
  rfl

/-- Settles O27. -/
theorem setSectionStoresTheClampedRecord : Obligations.SetSectionStoresTheClampedRecord := by
  intro n p q s hs
  refine ⟨fun hp hn hcode => taken_when_ready hs hp ?_, fun hp hn hcode => ?_, fun hq => ⟨fun hcode => taken_when_ready hs hq ?_,
    fun hcode => taken_when_ready hs hq ?_⟩⟩
  · rw [setSection_eq hn, parseSettings_of_unknown hcode]
    rfl
  · intro r fault dead c r'
    have hanswer : setSection p (hunting s) = accept (holdsChanged n ((hunting s).withSec n r')) c.fields := by
      rw [setSection_eq hn, parseSettings_of_known hcode]
      exact congrArg (accept · c.fields) (reportFacts_withSec ..)
    refine ⟨fun h => taken_when_ready hs hp (hanswer.trans ?_), fun hst hheld hempty ht hg => taken_when_ready hs hp (hanswer.trans ?_)⟩
    · rw [holdsChanged_stays h]
      rfl
    · rw [holdsChanged_joins (s := hunting s) (r := r') hs.halted_eq_false ht hg hst hst hheld hempty, State.joining_hunting]
      rfl
  · rw [setBackupTrip, switchCode_of_le hcode]
    interval_cases h : octetAt q 0 <;> rfl
  · rw [setBackupTrip, switchCode_of_gt hcode]
    rfl

end Sys2Proof.Machine
end

section
/-!
What the Section Controller's operations make of one section's record and of the Notice Queue: each as an equation over
`State.put`, the state with both replaced (R46, R49 to R53, R59, R61, R69).
-/

namespace Sys2Proof.Machine

variable {s : State} {n : Sec} {r : Section} {q : NoticeQueue}

/-! ### One section's record and the notices -/

/-- The state with the record of section `n` and the notices replaced. -/
def State.put (s : State) (n : Sec) (r : Section) (q : NoticeQueue) : State :=
  { s with secs := s.secs.set n r, notices := q }

section
variable (s : State) (n : Sec) (r : Section) (q : NoticeQueue)

@[simp] theorem State.put_sec : (s.put n r q).secs[n] = r := Vector.getElem_set_self ..

theorem State.put_self : s.put n s.secs[n] s.notices = s :=
  congrArg (fun secs => { s with secs }) (Vector.set_getElem_self ..)

theorem State.put_put (r' : Section) (q' : NoticeQueue) : (s.put n r q).put n r' q' = s.put n r' q' :=
  congrArg (fun secs => { s with secs, notices := q' }) (Vector.set_set ..)

theorem modSec_put (f : Section → Section) : (s.put n r q).modSec n f = s.put n (f r) q := by
  rw [State.modSec_eq, State.put_sec]
  exact State.put_put ..

theorem enter_put (st : SecState) : enter n st (s.put n r q) = s.put n (r.entered s.halted st) q := modSec_put ..

theorem queueNotice_put (kind : NoticeKind) (p : Nat) (src : Source) (ws : List Half) :
    queueNotice kind p src ws (s.put n r q) = s.put n r (q.take s.clock kind p src ws) := rfl

theorem reported_put (m : Sec) (b : Bool) : (s.put n r q).reported m b = (s.reported m b).put n r q := rfl

theorem enterLockout_put (why : LockoutReason) : enterLockout n why (s.put n r q) =
    s.put n (r.entered s.halted .lockout) (q.take s.clock .lockout 5 (.sec n) [word why.code, word r.attempt]) := by
  rw [enterLockout, enter_put]
  rw [queueNotice_put, State.put_sec]
  rfl

theorem enterDead_put (k : Nat) : enterDead n k (s.put n r q) =
    s.put n { r.entered s.halted .deadTime with deadTimer := some (r.dead.time k) } q := by
  rw [enterDead, enter_put, modSec_put]
  rfl

theorem enterHeld_put : enterHeld n (s.put n r q) = s.put n { r.entered s.halted .held with
    heldSince := some s.clock, holdLimit := some r.settings.holdLimit } q := by
  rw [enterHeld, enter_put, modSec_put]
  rfl

theorem reportChange_put (was : SecState) : reportChange n was (s.put n r q) =
    if was.powered = r.state.powered then s.put n r q else (s.reported n r.state.powered).put n r q := by
  rw [reportChange, State.put_sec]
  split
  · rfl
  · rw [reportPower_eq, reported_put]

end

/-! ### The record at entry into a state (R46) -/

namespace Section

variable (halted : Bool) (r : Section)

theorem entered_tripping : r.entered halted .tripping =
    { r.standing .tripping with tripLine := true, opening := some r.settings.openLimit, trippingMs := 0 } := by
  simp [entered, withLines, standing, SecState.openLike, SecState.tripAtEntry]

theorem entered_deadTime : r.entered halted .deadTime = { r.standing .deadTime with tripLine := true } := by
  simp [entered, withLines, standing, SecState.openLike, SecState.tripAtEntry]

theorem entered_held : r.entered halted .held = { r.standing .held with tripLine := true } := by
  simp [entered, withLines, standing, SecState.openLike, SecState.tripAtEntry]

theorem entered_breakerFail : r.entered halted .breakerFail = { r.standing .breakerFail with tripLine := true } := by
  simp [entered, withLines, standing, SecState.openLike, SecState.tripAtEntry]

theorem entered_closed : r.entered halted .closed =
    { r.standing .closed with tripLine := halted, holds := { r.holds with noSupply := false } } := by
  simp [entered, withLines, standing, SecState.openLike, SecState.tripAtEntry]

theorem entered_reclaim : r.entered halted .reclaim =
    { r.standing .reclaim with tripLine := halted, reclaim := some r.settings.reclaim } := by
  simp [entered, withLines, standing, SecState.openLike, SecState.tripAtEntry]

/-- The breaker reads OPEN: the trip line only for a halt, and no supervision. -/
theorem entered_openLike_of_opened {st : SecState} (hst : st.openLike = true) (hf : r.feedback = .opened) :
    r.entered halted st = { r.standingOpen st with tripLine := halted } := by
  cases st with
  | opened => simp [entered, withLines, standingOpen, standing, SecState.openLike, SecState.tripAtEntry, hf]
  | lockout => simp [entered, withLines, standingOpen, standing, SecState.openLike, SecState.tripAtEntry, hf]
  | isolated => simp [entered, withLines, standingOpen, standing, SecState.openLike, SecState.tripAtEntry, hf]
  | _ => cases hst

end Section

/-! ### Where a trip leaves TRIPPING for (R52) -/

section
variable {halted : Bool} {t : TripRecord}

theorem Section.afterTrip_opened (hh : halted = false) (hm : .manual ∈ t.causes) : r.afterTrip halted t = .opened := by
  rw [afterTrip, if_neg (by simp [hh]), if_pos hm]

/-- R52's lines to LOCKOUT. -/
def Section.Locks (halted : Bool) (r : Section) (t : TripRecord) : Prop :=
  halted = true ∨ .bus ∈ t.causes ∨ .instant ∈ t.causes ∧ t.origin = .reclaim ∨ t.origin = .sequence ∨ r.manual = true ∨
    r.limit ≤ r.attempt

theorem Section.nextDead_eq_none : r.nextDead = none ↔ r.manual = true ∨ r.limit ≤ r.attempt := by
  unfold nextDead
  split
  next h => simp [h]
  next h =>
    split
    next hlt => simp [h, hlt]
    next hlt => simp [Nat.not_lt.mp hlt]

theorem Section.afterTrip_lockout (ho : ¬ (halted = false ∧ .manual ∈ t.causes)) (hl : r.Locks halted t) :
    r.afterTrip halted t = .lockout := by
  unfold afterTrip
  split
  · rfl
  next hh =>
    have hh : halted = false := Bool.eq_false_iff.mpr hh
    rw [if_neg fun hm => ho ⟨hh, hm⟩]
    rcases hl with hl | hl | hl | hl | hl
    · exact nomatch hh.symm.trans hl
    · rw [if_pos hl]
    · rw [if_pos hl, ite_self]
    · rw [if_pos hl, ite_self, ite_self]
    · rw [nextDead_eq_none.mpr hl, ite_self, ite_self, ite_self]

theorem Section.afterTrip_of_next (ho : ¬ (halted = false ∧ .manual ∈ t.causes)) (hl : ¬ r.Locks halted t) :
    r.afterTrip halted t = .dead (r.attempt + 1) := by
  simp only [Locks, not_or] at hl
  obtain ⟨hh, hbus, hinstant, hsequence, hmanual, hlimit⟩ := hl
  have hnext : r.nextDead = some (r.attempt + 1) :=
    nextDead_eq_some.mpr ⟨Bool.eq_false_iff.mpr hmanual, Nat.lt_of_not_le hlimit, rfl⟩
  rw [afterTrip, if_neg hh, if_neg fun hm => ho ⟨Bool.eq_false_iff.mpr hh, hm⟩, if_neg hbus, if_neg hinstant,
    if_neg hsequence, hnext]

theorem DeadTimes.time_next (d : DeadTimes) (k : Nat) :
    d.time (k + 1) = match k with | 0 => d.first | 1 => d.second | _ => d.third := by
  match k with
  | 0 => rfl
  | 1 => rfl
  | k + 2 => rfl

end

/-- The record whose trip has opened the breaker. -/
def Section.timed (r : Section) (t : TripRecord) : Section :=
  { r with record := some { t with openingTime := some r.trippingMs } }

/-- The notices with the TRIP notice of the record's trip. -/
def NoticeQueue.tripped (q : NoticeQueue) (time : ClockValue) (n : Sec) (r : Section) (t : TripRecord) (next : SecState) :
    NoticeQueue :=
  q.take time .trip t.principal.priority (.sec n)
    [word t.principal.code, word (causeWord t.causes), word next.code, word r.trippingMs]

section
variable {t : TripRecord} (hrec : r.record = some t)
include hrec

theorem leaveTripping_opened (h : r.afterTrip s.halted t = .opened) : leaveTripping n (s.put n r q) =
    s.put n ((r.timed t).entered s.halted .opened) (q.tripped s.clock n r t .opened) := by
  unfold leaveTripping
  simp only [State.put_sec, hrec]
  rw [show (s.put n r q).halted = s.halted from rfl, h, modSec_put]
  exact enter_put s n (r.timed t) (q.tripped s.clock n r t .opened) .opened

theorem leaveTripping_lockout (h : r.afterTrip s.halted t = .lockout) : leaveTripping n (s.put n r q) =
    s.put n ((r.timed t).entered s.halted .lockout)
      ((q.tripped s.clock n r t .lockout).take s.clock .lockout 5 (.sec n) [0, word r.attempt]) := by
  unfold leaveTripping
  simp only [State.put_sec, hrec]
  rw [show (s.put n r q).halted = s.halted from rfl, h, modSec_put]
  exact enterLockout_put s n (r.timed t) (q.tripped s.clock n r t .lockout) .trip

theorem leaveTripping_dead {k : Nat} (h : r.afterTrip s.halted t = .dead k) : leaveTripping n (s.put n r q) =
    s.put n { (r.timed t).entered s.halted .deadTime with deadTimer := some (r.dead.time k) }
      (q.tripped s.clock n r t .deadTime) := by
  unfold leaveTripping
  simp only [State.put_sec, hrec]
  rw [show (s.put n r q).halted = s.halted from rfl, h, modSec_put]
  exact enterDead_put s n (r.timed t) (q.tripped s.clock n r t .deadTime) k

end

/-! ### The start of a trip (R49) -/

/-- The state with the Capture Buffer of section `n` triggered by cause `c`, its post-trigger count above 0 (R40). -/
def State.triggered (n : Sec) (c : Cause) (s : State) : State :=
  { s with caps := if s.caps[n].state = .awaitTrip then
      s.caps.set n { s.caps[n] with remainder := s.caps[n].setting.post, trigger := some c, state := .postTrigger }
    else s.caps }

theorem captureTrigger_eq (c : Cause) (h : s.caps[n].state = .awaitTrip → s.caps[n].setting.post ≠ 0) :
    captureTrigger n c s = s.triggered n c := by
  unfold captureTrigger State.triggered
  dsimp only
  split
  next hst => rw [if_neg (h hst)]; rfl
  · rfl

/-- The record in TRIPPING under a new trip record. -/
def Section.tripping (t : TripRecord) (r : Section) : Section :=
  { r.standing .tripping with
    tripLine := true, opening := some r.settings.openLimit, trippingMs := 0, record := some t }

theorem beginTripping_put (c : Cause) (o : Origin) (v : TripValues)
    (h : s.caps[n].state = .awaitTrip → s.caps[n].setting.post ≠ 0) :
    beginTripping n c o v (s.put n r q) = (s.triggered n c).put n (r.tripping (newRecord n c o v s)) q := by
  rw [beginTripping, modSec_put, enter_put, Section.entered_tripping]
  exact captureTrigger_eq c h

/-- The record as a trip of origin `o` takes it: from CLOSED a new sequence begins. -/
def Section.sequenced (o : Origin) (r : Section) : Section := if o = .closed then r.newSequence else r

/-- What a started trip leaves, before its breaker reads OPEN. -/
def State.tripStarted (s : State) (n : Sec) (c : Cause) (o : Origin) (v : TripValues) (r : Section) (q : NoticeQueue) : State :=
  reportChange n r.state ((s.triggered n c).put n ((r.sequenced o).tripping (newRecord n c o v s)) q)

theorem startTrip_put (c : Cause) {o : Origin} (v : TripValues)
    (h : s.caps[n].state = .awaitTrip → s.caps[n].setting.post ≠ 0) : startTrip n c o v (s.put n r q) =
    if r.feedback = .opened then leaveTripping n (s.tripStarted n c o v r q) else s.tripStarted n c o v r q := by
  have hsequence : (if o = .closed then (s.put n r q).modSec n Section.newSequence else s.put n r q) =
      s.put n (r.sequenced o) q := by
    rw [modSec_put, Section.sequenced]
    exact (apply_ite (fun r => s.put n r q) _ _ _).symm
  have hbegin : startTrip n c o v (s.put n r q) = if (s.tripStarted n c o v r q).secs[n].feedback = .opened then
      leaveTripping n (s.tripStarted n c o v r q) else s.tripStarted n c o v r q := by
    unfold startTrip
    dsimp only
    rw [hsequence, beginTripping_put c o v h, State.put_sec]
    rfl
  have hfeedback : (s.tripStarted n c o v r q).secs[n].feedback = r.feedback := by
    rw [State.tripStarted, reportChange_secs, State.put_sec]
    unfold Section.sequenced
    split <;> rfl
  rw [hbegin, hfeedback]

/-- A trip from CLOSED or RECLAIM is reported; one from CLOSING finds the section UNPOWERED (R61). -/
theorem State.tripStarted_eq (s : State) (n : Sec) (c : Cause) (o : Origin) (v : TripValues) (r : Section) (q : NoticeQueue) :
    s.tripStarted n c o v r q =
      (if r.state.powered then (s.triggered n c).reported n false else s.triggered n c).put n
        ((r.sequenced o).tripping (newRecord n c o v s)) q := by
  rw [State.tripStarted, reportChange_put]
  cases r.state.powered with
  | true => rfl
  | false => rfl

theorem tripRequest_put (c : Cause) {o : Origin} (v : TripValues)
    (ho : r.state = .closed ∧ o = .closed ∨ r.state = .reclaim ∧ o = .reclaim ∨ r.state = .closing ∧ o = .closing) :
    tripRequest n c v (s.put n r q) = startTrip n c o v (s.put n r q) := by
  rw [tripRequest, State.put_sec]
  rcases ho with ⟨hst, rfl⟩ | ⟨hst, rfl⟩ | ⟨hst, rfl⟩ <;> rw [hst]

theorem ownValues_put : ownValues n (s.put n r q) = ownValues n s := rfl

end Sys2Proof.Machine
end

section
/-!
The trip requests of the host (R49 to R51, R64, R67).
-/

namespace Sys2Proof.Machine

variable {s : State} {n : Sec} {p : List Byte}

theorem acceptSection_put (n : Sec) (r : Section) (q : NoticeQueue) (s : State) : acceptSection n (s.put n r q) =
    ⟨s.put n r q, .ok, [.nat 1 r.state.code, .nat 2 r.attempt, .nat 2 r.holds.word]⟩ := by
  rw [acceptSection, accept, sectionReply, State.put_sec]
  rfl

/-- The part of a host trip request that is the section's, once its block takes it (R64, R67). -/
def hostTrip (n : Sec) (cause : Cause) (s : State) : Answer := acceptSection n (tripRequest n cause (ownValues n s) s)

theorem openSection_trips (hn : octetAt p 0 = number n)
    (hst : s.secs[n].state = .closed ∨ s.secs[n].state = .reclaim ∨ s.secs[n].state = .closing ∨ s.secs[n].state = .tripping) :
    openSection p s = hostTrip n .manual s := by
  rw [openSection, naming_named s p _ n hn]
  rcases hst with h | h | h | h <;> rw [h] <;> rfl

theorem intertrip_eq (hn : octetAt p 0 = number n) (s : State) : intertrip p s = hostTrip n .intertrip s :=
  naming_named s p _ n hn

/-- The request `c`, its cause and its kind: OPEN SECTION or INTERTRIP. -/
def IsHostTrip (p : List Byte) (c : Instr) (kind : Byte) (cause : Cause) : Prop :=
  c = .openSection p ∧ kind = 0x16 ∧ cause = .manual ∨ c = .intertrip p ∧ kind = 0x1B ∧ cause = .intertrip

theorem IsHostTrip.exec {c : Instr} {kind : Byte} {cause : Cause} (hc : IsHostTrip p c kind cause) (hs : Ready s)
    (hp : p.length = 1) (hn : octetAt p 0 = number n) (hst : s.secs[n].state = .closed ∨ s.secs[n].state = .reclaim ∨
      s.secs[n].state = .closing ∨ s.secs[n].state = .tripping ∨ cause = .intertrip) {t : State} {fields : List ReplyField}
    (h : hostTrip n cause (hunting s) = ⟨hunting t, .ok, fields⟩) : Machine.exec c s = .next (answered kind .ok fields t) := by
  rcases hc with ⟨rfl, rfl, rfl⟩ | ⟨rfl, rfl, rfl⟩
  · refine taken_when_ready hs hp ((openSection_trips (s := hunting s) hn ?_).trans h)
    exact hst.imp_right (Or.imp_right (Or.imp_right fun h => h.resolve_right nofun))
  · exact taken_when_ready hs hp ((intertrip_eq hn _).trans h)

theorem hostTrip_starts {cause : Cause} {o : Origin} (hf : s.secs[n].feedback ≠ .opened)
    (hcap : s.caps[n].state = .awaitTrip → s.caps[n].setting.post ≠ 0)
    (ho : s.secs[n].state = .closed ∧ o = .closed ∨ s.secs[n].state = .reclaim ∧ o = .reclaim ∨
      s.secs[n].state = .closing ∧ o = .closing) :
    let t := s.tripStarted n cause o (ownValues n s) s.secs[n] s.notices
    let r := (s.secs[n].sequenced o).tripping (newRecord n cause o (ownValues n s) s)
    hostTrip n cause s = ⟨t, .ok, [.nat 1 1, .nat 2 r.attempt, .nat 2 r.holds.word]⟩ := by
  intro t r
  have htrip : tripRequest n cause (ownValues n s) s = t := by
    conv_lhs => rw [← s.put_self n]
    rw [tripRequest_put cause _ ho, startTrip_put cause _ hcap, if_neg hf]
    rfl
  have ht : t = _ := s.tripStarted_eq n cause o (ownValues n s) s.secs[n] s.notices
  rw [hostTrip, htrip, ht, acceptSection_put]
  rfl

theorem TripRecord.join_eq (c : Cause) (t : TripRecord) : t.join c = if c ∈ t.causes then t else { t with
    causes := t.causes ++ [c], principal := if c.priority ≤ t.principal.priority then t.principal else c } := by
  have hprincipal : (if t.principal.priority < c.priority then c else t.principal) =
      if c.priority ≤ t.principal.priority then t.principal else c := by
    by_cases h : t.principal.priority < c.priority
    · rw [if_pos h, if_neg (Nat.not_le.mpr h)]
    · rw [if_neg h, if_pos (Nat.not_lt.mp h)]
  rw [TripRecord.join, hprincipal]

theorem hostTrip_joins {cause : Cause} {t : TripRecord} (hst : s.secs[n].state = .tripping) (hrec : s.secs[n].record = some t) :
    hostTrip n cause s = ⟨s.put n { s.secs[n] with record := some (t.join cause) } s.notices, .ok,
      [.nat 1 1, .nat 2 s.secs[n].attempt, .nat 2 s.secs[n].holds.word]⟩ := by
  have htrip : tripRequest n cause (ownValues n s) s = s.put n { s.secs[n] with record := some (t.join cause) } s.notices := by
    rw [tripRequest, hst]
    dsimp only
    rw [State.modSec_eq, hrec]
    rfl
  rw [hostTrip, htrip, acceptSection_put, hst]
  rfl

theorem tripRequest_discarded (c : Cause) (v : TripValues) (h : s.secs[n].state ∉ [.closed, .reclaim, .closing, .tripping]) :
    tripRequest n c v s = s := by
  unfold tripRequest
  generalize s.secs[n].state = st at h
  cases st with
  | closed => simp at h
  | reclaim => simp at h
  | closing => simp at h
  | tripping => simp at h
  | _ => rfl

/-- Settles O24. -/
theorem hostTripRequestsStartOrJoinATrip : Obligations.HostTripRequestsStartOrJoinATrip := by
  intro n p s c kind cause hs hp hn hc r f b
  have exec := IsHostTrip.exec (n := n) hc hs hp hn
  refine ⟨fun o hf hcap ho => ?_, fun tr hst hrec => ?_, fun hst hcause => ?_⟩
  · have hstate : r.state = .closed ∨ r.state = .reclaim ∨ r.state = .closing ∨ r.state = .tripping ∨ cause = .intertrip := by
      tauto
    refine exec hstate ((hostTrip_starts (s := hunting s) hf hcap ho).trans ?_)
    rw [State.tripStarted_eq]
    rcases ho with ⟨hst, rfl⟩ | ⟨hst, rfl⟩ | ⟨hst, rfl⟩
    · rw [show (hunting s).secs[n].state = _ from hst]
      rfl
    · rw [show (hunting s).secs[n].state = _ from hst]
      rfl
    · rw [show (hunting s).secs[n].state = _ from hst]
      rfl
  · refine exec (by tauto) ((hostTrip_joins (s := hunting s) hst hrec).trans ?_)
    rw [TripRecord.join_eq]
    rfl
  · refine exec (by tauto) ?_
    rw [hostTrip, tripRequest_discarded (s := hunting s) _ _ hst]
    rfl

end Sys2Proof.Machine
end

section
/-!
The readings of a breaker (R46, R47, R52, R59, R69, R73), and the section timers (R53, R56, R59, R60).
-/

namespace Sys2Proof.Machine

variable {s : State} {n : Sec} {r : Section} {q : NoticeQueue}

/-! ### A reading of OPEN (R46, R52, R69) -/

/-- The record once the contacts have been read. -/
def Section.reading (f : Feedback) (r : Section) : Section :=
  { r with feedback := f, asClosed := false, discrepancy := if f = .discrepant then some 200 else none }

theorem exec_reading {c : Contacts} {f : Feedback} (hc : Feedback.ofContacts c = f) (hf : s.secs[n].feedback ≠ f) :
    exec (.breakerFeedbackChange n c) s = .next (match f with
      | .opened => onOpened n (s.put n (s.secs[n].reading f) s.notices)
      | .closed => onClosed n (s.put n (s.secs[n].reading f) s.notices)
      | .travel => s.put n (s.secs[n].reading f) s.notices
      | .discrepant => s.put n (s.secs[n].reading f) s.notices) := by
  subst hc
  exact congrArg Host.Outcome.next (if_neg hf)

theorem exec_readsOpen (hf : s.secs[n].feedback ≠ .opened) : exec (.breakerFeedbackChange n ⟨true, false⟩) s =
    .next (onOpened n (s.put n (s.secs[n].reading .opened) s.notices)) := exec_reading (f := .opened) rfl hf

theorem onOpened_tripping (hst : r.state = .tripping) : onOpened n (s.put n r q) = leaveTripping n (s.put n r q) := by
  rw [onOpened, State.put_sec, hst]

theorem onOpened_closed {o : Origin} (hf : r.feedback = .opened) (hcap : s.caps[n].state ≠ .awaitTrip)
    (ho : r.state = .closed ∧ o = .closed ∨ r.state = .reclaim ∧ o = .reclaim) :
    onOpened n (s.put n r q) = leaveTripping n ((s.reported n false).put n
      ((r.sequenced o).tripping (newRecord n .breakerOwn o (ownValues n s) s)) q) := by
  have htriggered : s.triggered n .breakerOwn = s := by rw [State.triggered, if_neg hcap]
  have htrip : onOpened n (s.put n r q) = tripRequest n .breakerOwn (ownValues n s) (s.put n r q) := by
    rw [onOpened, State.put_sec]
    rcases ho with ⟨hst, -⟩ | ⟨hst, -⟩ <;> rw [hst] <;> rfl
  have hpower : r.state.powered = true := by rcases ho with ⟨hst, -⟩ | ⟨hst, -⟩ <;> rw [hst] <;> rfl
  rw [htrip, tripRequest_put .breakerOwn (ownValues n s) (by tauto), startTrip_put _ _ (absurd · hcap), if_pos hf,
    State.tripStarted_eq, htriggered, hpower]
  rfl

theorem onOpened_openLike (hst : r.state = .opened ∨ r.state = .lockout ∨ r.state = .isolated) :
    onOpened n (s.put n r q) = s.put n { r with opening := none, tripLine := s.halted } q := by
  have hrelease : onOpened n (s.put n r q) = releaseTrip n (s.put n r q) := by
    rw [onOpened, State.put_sec]
    rcases hst with hst | hst | hst <;> rw [hst]
  rw [hrelease, releaseTrip, modSec_put]
  rfl

theorem onOpened_ignored (hst : r.state ∈ [.deadTime, .testWait, .lineTest, .closing, .held, .breakerFail]) :
    onOpened n (s.put n r q) = s.put n r q := by
  rw [onOpened, State.put_sec]
  simp only [List.mem_cons, List.not_mem_nil, or_false] at hst
  rcases hst with hst | hst | hst | hst | hst | hst <;> rw [hst]

/-- The record in DEAD_TIME, its dead time the one after the attempt count (R52, R53). -/
def Section.resting (r : Section) : Section :=
  { r.standing .deadTime with
    tripLine := true
    deadTimer := some (match r.attempt with | 0 => r.dead.first | 1 => r.dead.second | _ => r.dead.third) }

theorem Section.entered_resting (halted : Bool) (r : Section) :
    { r.entered halted .deadTime with deadTimer := some (r.dead.time (r.attempt + 1)) } = r.resting := by
  rw [entered_deadTime, DeadTimes.time_next]
  rfl

section
variable {t : TripRecord} (hrec : r.record = some t)
include hrec

theorem leaveTripping_opens (h : s.halted = false ∧ .manual ∈ t.causes) :
    leaveTripping n (s.put n r q) = s.put n ((r.timed t).standingOpen .opened) (q.tripped s.clock n r t .opened) := by
  rw [leaveTripping_opened hrec (Section.afterTrip_opened h.1 h.2), h.1, Section.entered_openLike rfl]

theorem leaveTripping_locks (hf : r.feedback = .opened) (ho : ¬ (s.halted = false ∧ .manual ∈ t.causes)) (hl : r.Locks s.halted t) :
    leaveTripping n (s.put n r q) = s.put n { (r.timed t).standingOpen .lockout with tripLine := s.halted }
      ((q.tripped s.clock n r t .lockout).take s.clock .lockout 5 (.sec n) [0, word r.attempt]) := by
  rw [leaveTripping_lockout hrec (Section.afterTrip_lockout ho hl), Section.entered_openLike_of_opened (r := r.timed t) _ rfl hf]

theorem leaveTripping_rests (ho : ¬ (s.halted = false ∧ .manual ∈ t.causes)) (hl : ¬ r.Locks s.halted t) :
    leaveTripping n (s.put n r q) = s.put n (r.timed t).resting (q.tripped s.clock n r t .deadTime) := by
  rw [leaveTripping_dead hrec (Section.afterTrip_of_next ho hl)]
  exact congrArg (s.put n · _) (Section.entered_resting s.halted (r.timed t))

end

/-- Settles O28: the reading ends TRIPPING, at once for a trip of the breaker's own, or releases the trip line. -/
theorem openReadingMovesTheSection : Obligations.OpenReadingMovesTheSection := by
  intro n s hf c old read tripped locked dead
  have hexec : exec c s = .next (onOpened n (s.put n read s.notices)) := exec_readsOpen hf
  refine ⟨fun tr₀ hst hrec => ?_, fun o ho hcap => ?_, fun hst => ?_, fun hst => ?_⟩
  · intro tr r opens locks
    have hleave : exec c s = .next (leaveTripping n (s.put n read s.notices)) := by rw [hexec, onOpened_tripping (r := read) hst]
    refine ⟨fun ho => ?_, fun hl => ?_, fun ho hl => ?_⟩
    · rw [hleave, leaveTripping_opens (r := read) hrec ho]
      rfl
    · rw [hleave, leaveTripping_locks (r := read) hrec rfl hl.1 hl.2]
      rfl
    · rw [hleave, leaveTripping_rests (r := read) hrec ho fun hl' => hl ⟨ho, hl'⟩]
      rfl
  · intro f tr r
    let t : TripRecord := newRecord n .breakerOwn o (ownValues n s) s
    have hleave : exec c s = .next (leaveTripping n ((s.reported n false).put n ((read.sequenced o).tripping t) s.notices)) := by
      rw [hexec, onOpened_closed (r := read) rfl hcap ho]
    have hopens : ¬ ((s.reported n false).halted = false ∧ .manual ∈ t.causes) := by
      rintro ⟨-, hm⟩
      cases List.mem_singleton.mp hm
    have hlocks : ((read.sequenced o).tripping t).Locks (s.reported n false).halted t ↔
        s.halted = true ∨ r.manual = true ∨ r.limit ≤ r.attempt := by
      rcases ho with ⟨-, rfl⟩ | ⟨-, rfl⟩ <;>
        simp [Section.Locks, t, newRecord, r, State.reported, Section.sequenced, Section.tripping, Section.standing,
          Section.newSequence, read, old]
    refine ⟨fun hl => ?_, fun hh hm hl => ?_⟩
    · rw [hleave, leaveTripping_locks (t := t) rfl ?_ hopens (hlocks.mpr hl)]
      · rcases ho with ⟨-, rfl⟩ | ⟨-, rfl⟩ <;> rfl
      · rcases ho with ⟨-, rfl⟩ | ⟨-, rfl⟩ <;> rfl
    · rw [hleave, leaveTripping_rests (t := t) rfl hopens (mt hlocks.mp ?_)]
      · rcases ho with ⟨-, rfl⟩ | ⟨-, rfl⟩ <;> rfl
      · simp [hh, hm, hl]
  · rw [hexec, onOpened_openLike (r := read) hst]
    rfl
  · rw [hexec, onOpened_ignored (r := read) hst]
    rfl

end Sys2Proof.Machine
end

section
/-!
A reading of CLOSED (R47, R59, R69, R73), and the section timers (R53, R56, R59, R60).
-/

namespace Sys2Proof.Machine

variable {s : State} {n : Sec} {r : Section} {q : NoticeQueue}

/-! ### A reading of CLOSED -/

theorem onClosed_closing (hh : s.halted = false) (hst : r.state = .closing) : onClosed n (s.put n r q) =
    (s.reported n true).put n { r.standing .reclaim with tripLine := false, reclaim := some r.settings.reclaim }
      (q.take s.clock .reclosed 2 (.sec n) [word r.attempt, word (markCode r.manual)]) := by
  rw [onClosed, State.put_sec, hst]
  dsimp only
  have hreport : reportChange n .closing (enter n .reclaim (s.put n r q)) = (s.reported n true).put n
      { r.standing .reclaim with tripLine := false, reclaim := some r.settings.reclaim } q := by
    rw [enter_put, reportChange_put, Section.entered_reclaim, hh]
    rfl
  rw [reclosed, hreport, queueNotice_put, State.put_sec]
  rfl

/-- The record after a local close, in a halt or out of it (R69, R73). -/
def Section.closedByHand (halted : Bool) (r : Section) : Section :=
  { r.standing .closed with
    tripLine := halted, attempt := 0, manual := false, holds := { r.holds with noSupply := false } }

theorem onClosed_byHand (hst : r.state = .opened ∨ r.state = .lockout ∨ r.state = .isolated)
    (hline : s.halted = true ∨ r.tripLine = false) : onClosed n (s.put n r q) =
    (s.reported n true).put n (r.closedByHand s.halted) (q.take s.clock .localClose 6 (.sec n) [word r.state.code]) := by
  have hgo : (s.halted || !r.tripLine) = true := by simpa using hline
  have hclose : onClosed n (s.put n r q) = localClose n (s.put n r q) := by
    rw [onClosed, State.put_sec]
    rcases hst with h | h | h <;> rw [h] <;> exact if_pos hgo
  have hpower : r.state.powered = false := by rcases hst with h | h | h <;> rw [h] <;> rfl
  rw [hclose, localClose, queueLocalClose, State.put_sec, queueNotice_put, enter_put, modSec_put, reportChange_put, hpower,
    Section.entered_closed]
  rfl

theorem onClosed_ignored (h : r.state = .closed ∨ r.state = .reclaim ∨ r.state = .tripping ∨ r.state = .breakerFail ∨
    (r.state = .opened ∨ r.state = .lockout ∨ r.state = .isolated) ∧ s.halted = false ∧ r.tripLine = true) :
    onClosed n (s.put n r q) = s.put n r q := by
  rw [onClosed, State.put_sec]
  rcases h with h | h | h | h | ⟨hst, hline⟩
  · rw [h]
  · rw [h]
  · rw [h]
  · rw [h]
  · have hgo : ¬ (s.halted || !r.tripLine) = true := by simp [hline]
    rcases hst with h | h | h <;> rw [h] <;> exact if_neg hgo

theorem onClosed_inSequence (hst : r.state = .deadTime ∨ r.state = .held) (hcap : s.caps[n].state ≠ .awaitTrip) :
    onClosed n (s.put n r q) = s.put n (r.tripping (newRecord n .breakerOwn .sequence (ownValues n s) s))
      (q.take s.clock .localClose 6 (.sec n) [word r.state.code]) := by
  have hclose : onClosed n (s.put n r q) = closeInSequence n (s.put n r q) := by
    rw [onClosed, State.put_sec]
    rcases hst with h | h <;> rw [h]
  have habandon (q : NoticeQueue) : abandonTest n (s.put n r q) = s.put n r q := by
    rw [abandonTest, State.put_sec]
    rcases hst with h | h <;> rw [h]
  have htriggered : s.triggered n .breakerOwn = s := by rw [State.triggered, if_neg hcap]
  rw [hclose, closeInSequence, queueLocalClose, State.put_sec, queueNotice_put, habandon, ownValues_put,
    beginTripping_put _ _ _ (absurd · hcap), htriggered]

/-- The record once its contacts read `f`, treated as closed or not. -/
def Section.readAs (f : Feedback) (closed : Bool) (r : Section) : Section :=
  { r with feedback := f, asClosed := closed, discrepancy := none }

theorem exec_discrepancyTimerExpiry (hh : s.halted = false) (hd : s.secs[n].discrepancy.isSome = true) :
    exec (.discrepancyTimerExpiry n) s = .next (onClosed n (s.put n (s.secs[n].readAs s.secs[n].feedback true)
      (s.noticed .breakerDiscrepancy 5 (.sec n) [word s.secs[n].state.code]))) := by
  refine congrArg Host.Outcome.next ((if_pos ?_).trans ?_)
  · rw [timerRuns, hh, hd]
    rfl
  · conv_lhs => rw [← s.put_self n]
    dsimp only
    rw [modSec_put, State.put_sec, queueNotice_put]
    rfl

/-- Settles O29: both the reading and the discrepancy timer hand the section's record, read anew, to `onClosed`. -/
theorem closedReadingReclosesOrIsALocalClose : Obligations.ClosedReadingReclosesOrIsALocalClose := by
  intro n s c r byTimer read notices localClose closes
  have hread : ∃ f b, read = r.readAs f b := by
    by_cases hc : c = .discrepancyTimerExpiry n
    · exact ⟨r.feedback, true, if_pos hc⟩
    · exact ⟨.closed, false, if_neg hc⟩
  have hbyReading (hc : c = .breakerFeedbackChange n ⟨false, true⟩) (hf : r.feedback ≠ .closed) :
      exec c s = .next (onClosed n (s.put n read notices)) ∧ notices = s.notices := by
    have hne : ¬ c = .discrepancyTimerExpiry n := by rw [hc]; nofun
    have hnotices : notices = s.notices := if_neg hne
    have hread : read = r.readAs .closed false := if_neg hne
    rw [hnotices, hread, hc]
    exact ⟨exec_reading (f := .closed) rfl hf, rfl⟩
  have hbyTimer (hh : s.halted = false) (h : byTimer) : exec c s = .next (onClosed n (s.put n read notices)) := by
    have hnotices : notices = _ := if_pos h.1
    have hread : read = r.readAs r.feedback true := if_pos h.1
    rw [hnotices, hread, h.1]
    exact exec_discrepancyTimerExpiry hh h.2
  clear_value read notices
  obtain ⟨f, b, rfl⟩ := hread
  refine ⟨fun hh hc => ?_, fun hh hc hf => ?_, fun hh => ?_, fun hf => exec_reading (f := .travel) rfl hf,
    fun hf => exec_reading (f := .discrepant) rfl hf⟩
  · have hexec : exec c s = .next (onClosed n (s.put n (r.readAs f b) notices)) :=
      hc.elim (fun h => (hbyReading h.1 h.2).1) (hbyTimer hh)
    refine ⟨fun hst => ?_, fun hst hline => ?_, fun h => ?_, fun hst hcap => ?_⟩
    · rw [hexec, onClosed_closing (r := r.readAs f b) hh hst]
      rfl
    · rw [hexec, onClosed_byHand (r := r.readAs f b) hst (.inr hline)]
      rfl
    · rw [hexec, onClosed_ignored (r := r.readAs f b) (by have := hh; tauto)]
      rfl
    · rw [hexec, onClosed_inSequence (r := r.readAs f b) hst hcap]
      rfl
  · obtain ⟨hexec, hnotices⟩ := hbyReading hc hf
    refine ⟨fun hst => ?_, fun h => ?_⟩
    · rw [hexec, onClosed_byHand (r := r.readAs f b) hst (.inl hh)]
      rfl
    · rw [hexec, onClosed_ignored (r := r.readAs f b) (by tauto), hnotices]
      rfl
  · refine congrArg Host.Outcome.next (if_neg ?_)
    rw [timerRuns, hh]
    nofun

/-! ### The section timers -/

theorem timerRuns_some (hh : s.halted = false) (left : Nat) : timerRuns s (some left) = true := by
  rw [timerRuns, hh]
  rfl

/-- The record once the dead timer has expired. -/
def Section.supplied (r : Section) : Section := { r with deadTimer := none, holds := { r.holds with noSupply := false } }

/-- What follows the end of the dead time (R53). -/
def deadTimeOver (n : Sec) (s : State) : State :=
  if s.secs[n].holds.isEmpty then enterTestWait n s
  else
    let s := s.modSec n fun r => { r with held := true, heldSince := some s.clock, holdLimit := some r.settings.holdLimit }
    queueNotice .recloseHeld 3 (.sec n) [word s.secs[n].holds.word] s

theorem deadExpired_eq {left : Nat} (hh : s.halted = false) (hst : s.secs[n].state = .deadTime)
    (ht : s.secs[n].deadTimer = some left) : deadExpired n s = deadTimeOver n (s.put n s.secs[n].supplied s.notices) := by
  refine if_pos ?_
  rw [ht, timerRuns_some hh, hst]
  rfl

theorem deadTimeOver_free (h : r.holds.isEmpty = true) : deadTimeOver n (s.put n r q) = enterTestWait n (s.put n r q) :=
  if_pos (by rwa [State.put_sec])

theorem deadTimeOver_held (h : ¬ r.holds.isEmpty = true) : deadTimeOver n (s.put n r q) = s.put n
    { r with held := true, heldSince := some s.clock, holdLimit := some r.settings.holdLimit }
    (q.take s.clock .recloseHeld 3 (.sec n) [word r.holds.word]) := by
  refine (if_neg (by rwa [State.put_sec])).trans ?_
  rw [modSec_put]
  dsimp only
  rw [queueNotice_put, State.put_sec]
  rfl

/-- LOCKOUT after a notice about the section (R56, R59). -/
theorem noticed_enterLockout (hh : s.halted = false) (why : LockoutReason) (kind : NoticeKind) (p : Nat) (src : Source)
    (ws : List Half) : enterLockout n why (queueNotice kind p src ws s) =
    s.put n (s.secs[n].standingOpen .lockout)
      ((s.noticed kind p src ws).take s.clock .lockout 5 (.sec n) [word why.code, word s.secs[n].attempt]) := by
  conv_lhs => rw [← s.put_self n]
  rw [queueNotice_put, enterLockout_put, hh, Section.entered_openLike rfl]
  rfl

/-- Settles O30: each timer runs, so its expiry does what its rule says. -/
theorem sectionTimersExpire : Obligations.SectionTimersExpire := by
  intro n s left hh r supplied none_
  refine ⟨fun hst ht hempty htests hg => congrArg Host.Outcome.next ?_, fun hst ht hheld => congrArg Host.Outcome.next ?_,
    fun hst ht => congrArg Host.Outcome.next ?_, fun hst ht => congrArg Host.Outcome.next ?_,
    fun hst ht => congrArg Host.Outcome.next ?_⟩
  · rw [deadExpired_eq hh hst ht, deadTimeOver_free (r := r.supplied) (Holds.isEmpty_iff.mpr hempty)]
    exact enterTestWait_joining hh htests hg (by rw [hst]; nofun) supplied
  · rw [deadExpired_eq hh hst ht, deadTimeOver_held (r := r.supplied) (mt Holds.isEmpty_iff.mp hheld)]
    rfl
  · refine (if_pos ?_).trans (noticed_enterLockout hh .closeFail ..)
    rw [ht, timerRuns_some hh, hst]
    rfl
  · refine (if_pos ?_).trans (noticed_enterLockout hh .holdLimit ..)
    rw [ht, timerRuns_some hh]
    rcases hst with ⟨hst, hheld⟩ | hst
    · rw [hst, hheld]
      rfl
    · rw [hst]
      simp
  · refine (if_pos ?_).trans ?_
    · rw [ht, timerRuns_some hh, hst]
      rfl
    · have hclosed : r.entered s.halted .closed =
          { r.standing .closed with tripLine := false, holds := { r.holds with noSupply := false } } := by
        rw [hh, Section.entered_closed]
      conv_lhs => rw [← s.put_self n]
      rw [enter_put, modSec_put, hclosed]
      rfl

end Sys2Proof.Machine
end

section
/-!
The result of a test moves the section in LINE_TEST (R58, R80, R88).
-/

namespace Sys2Proof.Machine

variable {s : State} {n : Sec} {c : Circuit} {r : Section} {q : NoticeQueue}

theorem enterClosing_put (hh : s.halted = false) (hreads : r.readsClosed = false) : enterClosing n (s.put n r q) =
    s.put n { r.standing .closing with
      tripLine := false, closeLine := true, closing := some r.settings.closeLimit } q := by
  have henter : enter n .closing (s.put n r q) = s.put n { r.standing .closing with
      tripLine := false, closeLine := true, closing := some r.settings.closeLimit } q := by
    rw [enter_put, hh, Section.entered_closing]
  rw [enterClosing, henter, State.put_sec]
  exact if_neg (by rw [Bool.not_eq_true]; exact hreads)

theorem afterResult_clear (hh : s.halted = false) (hf : r.feedback = .opened) : afterResult n .clear (s.put n r q) =
    s.put n { r.standing .closing with
      tripLine := false, closeLine := true, closing := some r.settings.closeLimit } q :=
  enterClosing_put hh (by rw [Section.readsClosed, hf]; rfl)

theorem afterResult_fault_locks (hh : s.halted = false) (h : r.manual = true ∨ r.limit ≤ r.attempt) :
    afterResult n .fault (s.put n r q) =
      s.put n (r.standingOpen .lockout) (q.take s.clock .lockout 5 (.sec n) [1, word r.attempt]) := by
  rw [afterResult, State.put_sec, Section.nextDead_eq_none.mpr h]
  dsimp only
  rw [enterLockout_put, hh, Section.entered_openLike rfl]
  rfl

theorem afterResult_fault_rests (hm : r.manual = false) (hl : r.attempt < r.limit) :
    afterResult n .fault (s.put n r q) = s.put n { r.standing .deadTime with
      tripLine := true, deadTimer := some (r.dead.time (r.attempt + 1)) } q := by
  rw [afterResult, State.put_sec, Section.nextDead_eq_some.mpr ⟨hm, hl, rfl⟩]
  dsimp only
  rw [enterDead_put, Section.entered_deadTime]

theorem afterResult_inconclusive : afterResult n .inconclusive (s.put n r q) = s.put n { r.standing .held with
    tripLine := true, heldSince := some s.clock, holdLimit := some r.settings.holdLimit } q := by
  rw [afterResult, enterHeld_put, Section.entered_held]

/-- The record to which a test without supply gives its attempt back. -/
def Section.unsupplied (r : Section) : Section :=
  { r with holds := { r.holds with noSupply := true }, attempt := if r.manual then r.attempt else r.attempt - 1 }

theorem afterResult_noSupply (ha : 1 ≤ r.attempt) : afterResult n .noSupply (s.put n r q) =
    s.put n { r.unsupplied.standing .deadTime with
      tripLine := true, deadTimer := some (r.dead.time (if r.manual then 1 else r.attempt)) } q := by
  rw [afterResult, modSec_put, State.put_sec, Nat.sub_add_cancel ha]
  exact (enterDead_put s n r.unsupplied q _).trans (by rw [Section.entered_deadTime]; rfl)

theorem releaseCircuit_eq (hc : s.arb.circuitOf n = some c) (hw : s.arb.waiting = []) :
    releaseCircuit n s = s.modArb fun a => a.clear c := by
  rw [releaseCircuit, hc]
  exact applyGrants_idle (.inl hw)

/-- The settle timer's expiry, the section waiting in LINE_TEST for its result and no other for a circuit. -/
theorem settleExpired_eq {x : TestContext} (ht : TestsOk s) (hw : s.arb.waiting = []) (hx : s.arb.contexts[c] = some x)
    (hn : x.sec = n) :
    settleExpired c s = afterResult n (decideTest c x s).result
      (State.put { s with arb := s.arb.clear c } n { s.secs[n] with lastTest := some (decideTest c x s) }
        (s.noticed .testResult (if (decideTest c x s).result = .clear then 1 else 5) (.sec n)
          [word (decideTest c x s).us, word (decideTest c x s).ub, word (decideTest c x s).rload,
            word (testWord (decideTest c x s).result (decideTest c x s).reason (decideTest c x s).nPresent)])) := by
  subst hn
  obtain ⟨-, -, -, hhold, hinj, hctx, -⟩ := ht
  have hc : s.arb.holders[c] = some x.sec := by rw [← hctx c, hx]; rfl
  have hst : s.secs[x.sec].state = .lineTest := (hhold x.sec).mp ⟨c, hc⟩
  have hcircuit : s.arb.circuitOf x.sec = some c := Arbiter.circuitOf_of_holder (fun d e => hinj d e x.sec) hc
  have hclear : ({ s.arb with contexts := s.arb.contexts.set c none } : Arbiter).clear c = s.arb.clear c :=
    congrArg (fun contexts => { s.arb with holders := s.arb.holders.set c none, contexts }) (Vector.set_set ..)
  unfold settleExpired
  rw [hx]
  dsimp only
  generalize decideTest c x s = d
  generalize hq : s.noticed .testResult (if d.result = .clear then 1 else 5) (.sec x.sec)
    [word d.us, word d.ub, word d.rload, word (testWord d.result d.reason d.nPresent)] = q
  have hput : queueNotice .testResult (if d.result = .clear then 1 else 5) (.sec x.sec)
      [word d.us, word d.ub, word d.rload, word (testWord d.result d.reason d.nPresent)]
      ((s.modArb fun a => { a with contexts := a.contexts.set c none }).modSec x.sec fun r => { r with lastTest := some d }) =
      State.put { s with arb := { s.arb with contexts := s.arb.contexts.set c none } } x.sec
        { s.secs[x.sec] with lastTest := some d } q := by
    rw [← hq]
    rfl
  have hrelease : releaseCircuit x.sec
      (State.put { s with arb := { s.arb with contexts := s.arb.contexts.set c none } } x.sec
        { s.secs[x.sec] with lastTest := some d } q) =
      State.put { s with arb := s.arb.clear c } x.sec { s.secs[x.sec] with lastTest := some d } q := by
    rw [← hclear]
    exact releaseCircuit_eq (s := State.put _ _ _ _) hcircuit hw
  rw [hput, takeResult_of_lineTest (by rw [State.put_sec]; exact hst), hrelease]

/-- Settles O36: the result moves the section, its circuit free, by one rule for each result. -/
theorem testResultMovesTheSection : Obligations.TestResultMovesTheSection := by
  intro c n x s hh ht hw hx hn hf d r ends dead
  let t : State := { s with arb := s.arb.clear c }
  let q := s.noticed .testResult (if d.result = .clear then 1 else 5) (.sec n)
    [word d.us, word d.ub, word d.rload, word (testWord d.result d.reason d.nPresent)]
  have moved {result : TestResult} {u : State} (hd : d.result = result) (hu : afterResult n result (t.put n r q) = u) :
      exec (.settleTimerExpiry c) s = .next u := by
    rw [← hu, ← hd]
    exact congrArg Host.Outcome.next (settleExpired_eq ht hw hx hn)
  exact ⟨fun hd => moved hd (afterResult_clear hh hf), fun hd hl => moved hd (afterResult_fault_locks hh hl),
    fun hd hm hl => moved hd (afterResult_fault_rests hm hl), fun hd => moved hd afterResult_inconclusive,
    fun hd ha => moved hd (afterResult_noSupply ha)⟩

end Sys2Proof.Machine
end

section
/-!
RELEASE BUS TRIP (R71): the sections served in turn, and the notices they queue.
-/

namespace Sys2Proof.Machine

variable {s : State} {n : Sec} {q : NoticeQueue}

/-! ### The sections served in turn -/

/-- Each section of the list is served once, on what `own` shows of it; what the others' turns may do to that besides, `Q`,
is taken up by what its own turn does, `P`. -/
theorem forEach_turns {α : Type} {own : State → Sec → α} {I : State → Prop} {P : Sec → α → α → Prop} {Q : α → α → Prop}
    {f : Sec → State → State} (hrefl : ∀ r, Q r r) (htrans : ∀ r₀ r₁ r₂, Q r₀ r₁ → Q r₁ r₂ → Q r₀ r₂)
    (hafter : ∀ n r₀ r₁ r₂, Q r₀ r₁ → P n r₁ r₂ → P n r₀ r₂) (hbefore : ∀ n r₀ r₁ r₂, P n r₀ r₁ → Q r₁ r₂ → P n r₀ r₂)
    (hf : ∀ n s, I s → I (f n s) ∧ P n (own s n) (own (f n s) n) ∧ ∀ m : Sec, m ≠ n → Q (own s m) (own (f n s) m))
    {l : List Sec} (hl : l.Nodup) (hs : I s) : I (forEach l f s) ∧
      ∀ m : Sec, (m ∈ l → P m (own s m) (own (forEach l f s) m)) ∧ (m ∉ l → Q (own s m) (own (forEach l f s) m)) := by
  induction l generalizing s with
  | nil => exact ⟨hs, fun m => ⟨nofun, fun _ => hrefl _⟩⟩
  | cons n l ih =>
    obtain ⟨hn, hl⟩ := List.nodup_cons.mp hl
    obtain ⟨hI, hP, hother⟩ := hf n s hs
    obtain ⟨hI, hrest⟩ := ih hl hI
    refine ⟨hI, fun m => ⟨fun hm => ?_, fun hm => ?_⟩⟩
    · rw [forEach_cons]
      by_cases hmn : m = n
      · subst hmn
        exact hbefore _ _ _ _ hP ((hrest m).2 hn)
      · exact hafter _ _ _ _ (hother m hmn) ((hrest m).1 (List.mem_of_ne_of_mem hmn hm))
    · obtain ⟨hmn, hml⟩ := not_or.mp (mt List.mem_cons.mpr hm)
      exact htrans _ _ _ (hother m hmn) ((hrest m).2 hml)

/-- Each section of the list is served once, on its own record. -/
theorem forEach_served {I : State → Prop} {P : Sec → Section → Section → Prop} {Q : Section → Section → Prop}
    {f : Sec → State → State} (hrefl : ∀ r, Q r r) (htrans : ∀ r₀ r₁ r₂, Q r₀ r₁ → Q r₁ r₂ → Q r₀ r₂)
    (hafter : ∀ n r₀ r₁ r₂, Q r₀ r₁ → P n r₁ r₂ → P n r₀ r₂) (hbefore : ∀ n r₀ r₁ r₂, P n r₀ r₁ → Q r₁ r₂ → P n r₀ r₂)
    (hf : ∀ n s, I s → I (f n s) ∧ P n s.secs[n] (f n s).secs[n] ∧ ∀ m : Sec, m ≠ n → Q s.secs[m] (f n s).secs[m])
    {l : List Sec} (hl : l.Nodup) (hs : I s) : I (forEach l f s) ∧
      ∀ m : Sec, (m ∈ l → P m s.secs[m] (forEach l f s).secs[m]) ∧ (m ∉ l → Q s.secs[m] (forEach l f s).secs[m]) :=
  forEach_turns (own := fun s n => s.secs[n]) hrefl htrans hafter hbefore hf hl hs

/-- Each section of the list is served once, on its own record, and no other turn touches it. -/
theorem forEach_sections {I : State → Prop} {P : Sec → Section → Section → Prop} {f : Sec → State → State}
    (hf : ∀ n s, I s → I (f n s) ∧ P n s.secs[n] (f n s).secs[n] ∧ ∀ m : Sec, m ≠ n → (f n s).secs[m] = s.secs[m])
    {l : List Sec} (hl : l.Nodup) (hs : I s) : I (forEach l f s) ∧
      ∀ m : Sec, (m ∈ l → P m s.secs[m] (forEach l f s).secs[m]) ∧ (m ∉ l → (forEach l f s).secs[m] = s.secs[m]) :=
  forEach_served (Q := fun r r' => r' = r) (fun _ => rfl) (fun _ _ _ h h' => h'.trans h) (fun _ _ _ _ h h' => h ▸ h')
    (fun _ _ _ _ h h' => h' ▸ h) hf hl hs

theorem State.put_other (s : State) {m : Sec} (r : Section) (q : NoticeQueue) (h : m ≠ n) :
    (s.put n r q).secs[m] = s.secs[m] :=
  Vector.getElem_set_ne n.isLt m.isLt fun hnm => h (Fin.ext hnm.symm)

/-! ### A notice that stands while more are queued (R165 to R167) -/

theorem modifyNewest_older {α : Type} (f : α → α) {k : Nat} {l : List α} (h : k + 1 < l.length) :
    (modifyNewest f l)[k]? = l[k]? := by
  induction l generalizing k with
  | nil => cases h
  | cons x xs ih =>
    cases xs with
    | nil => simp at h
    | cons y ys =>
      cases k with
      | zero => rfl
      | succ k => exact ih (Nat.lt_of_succ_lt_succ h)

/-- Record `k` of the queue is `r`, and no drop will be counted in it. -/
def NoticeQueue.Shows (q : NoticeQueue) (k : Nat) (r : Notice) : Prop :=
  q.records[k]? = some r ∧ (q.overflow = true → k + 1 < q.records.length)

theorem NoticeQueue.Shows.take {k : Nat} {r : Notice} (h : q.Shows k r) (time : ClockValue) (kind : NoticeKind) (p : Nat)
    (src : Source) (ws : List Half) : (q.take time kind p src ws).Shows k r := by
  obtain ⟨hr, hlen⟩ := h
  have hk : k < q.records.length := (List.getElem?_eq_some_iff.mp hr).1
  rcases q.take_cases time kind p src ws with ⟨ho, -, h⟩ | ⟨-, -, h⟩ | ⟨ho, h⟩
  · rw [h]
    exact ⟨(List.getElem?_append_left hk).trans hr, fun h => nomatch ho.symm.trans h⟩
  · rw [h]
    refine ⟨(List.getElem?_append_left hk).trans hr, fun _ => ?_⟩
    simpa [NoticeQueue.store, NoticeQueue.withAttn] using hk
  · rw [h]
    exact ⟨(modifyNewest_older _ (hlen ho)).trans hr, fun _ => by simpa using hlen ho⟩

/-- A notice that finds room is the newest record. -/
theorem NoticeQueue.shows_taken (ho : q.overflow = false) (hl : q.records.length < 47) (time : ClockValue) (kind : NoticeKind)
    (p : Nat) (src : Source) (ws : List Half) : (q.take time kind p src ws).Shows q.records.length
      { entry := q.counter, kind, priority := p, time, source := src, words := ws } := by
  have htake : q.take time kind p src ws = q.store time kind p src ws := by
    rw [NoticeQueue.take, if_neg (by rw [ho]; nofun), if_pos hl]
  rw [htake]
  exact ⟨List.getElem?_concat_length, fun h => nomatch ho.symm.trans h⟩

/-! ### RELEASE BUS TRIP (R71) -/

/-- Only section records and notices have changed. -/
def SectionsMoved (s t : State) : Prop := ∃ secs notices, t = { s with secs, notices }

theorem State.failed_head {first : Sec} {rest : List Sec} (h : s.failed = first :: rest) (m : Sec)
    (hm : s.secs[m].state = .breakerFail) : first ≤ m := by
  have hsorted : s.failed.Pairwise (· < ·) := (List.pairwise_lt_finRange 8).filter _
  rw [h, List.pairwise_cons] at hsorted
  rcases List.mem_cons.mp (h ▸ State.mem_failed.mpr hm) with rfl | hrest
  · exact le_rfl
  · exact (hsorted.1 m hrest).le

theorem enterLockout_eq (hh : s.halted = false) (n : Sec) (why : LockoutReason) : enterLockout n why s =
    s.put n (s.secs[n].standingOpen .lockout)
      (s.notices.take s.clock .lockout 5 (.sec n) [word why.code, word s.secs[n].attempt]) := by
  conv_lhs => rw [← s.put_self n]
  rw [enterLockout_put, hh, Section.entered_openLike rfl]

/-- The sections of the list, each in LOCKOUT for the release of the bus trip. -/
theorem lockedByRelease (hh : s.halted = false) {l : List Sec} (hl : l.Nodup) :
    SectionsMoved s (forEach l (fun m => enterLockout m .busRelease) s) ∧
    (∀ k r, s.notices.Shows k r → (forEach l (fun m => enterLockout m .busRelease) s).notices.Shows k r) ∧
    ∀ m : Sec,
      (m ∈ l → (forEach l (fun m => enterLockout m .busRelease) s).secs[m] = s.secs[m].standingOpen .lockout) ∧
      (m ∉ l → (forEach l (fun m => enterLockout m .busRelease) s).secs[m] = s.secs[m]) := by
  have hserve (n : Sec) (t : State) (ht : SectionsMoved s t ∧ ∀ k r, s.notices.Shows k r → t.notices.Shows k r) :
      (SectionsMoved s (enterLockout n .busRelease t) ∧
        ∀ k r, s.notices.Shows k r → (enterLockout n .busRelease t).notices.Shows k r) ∧
      (enterLockout n .busRelease t).secs[n] = t.secs[n].standingOpen .lockout ∧
      ∀ m : Sec, m ≠ n → (enterLockout n .busRelease t).secs[m] = t.secs[m] := by
    obtain ⟨⟨secs, notices, rfl⟩, hshows⟩ := ht
    rw [enterLockout_eq (s := { s with secs, notices }) hh]
    exact ⟨⟨⟨_, _, rfl⟩, fun k r h => (hshows k r h).take ..⟩, State.put_sec .., fun m hm => State.put_other _ _ _ hm⟩
  obtain ⟨⟨hmoved, hshows⟩, hsecs⟩ := forEach_sections
    (I := fun t => SectionsMoved s t ∧ ∀ k r, s.notices.Shows k r → t.notices.Shows k r)
    (P := fun _ r r' => r' = r.standingOpen .lockout) hserve hl ⟨⟨_, _, rfl⟩, fun _ _ h => h⟩
  exact ⟨hmoved, hshows, hsecs⟩

/-- Settles O32: each failed section is served on its own record, and the release's notice stands while theirs are queued. -/
theorem releaseBusTripEndsTheFailure : Obligations.ReleaseBusTripEndsTheFailure := by
  intro s hs
  refine ⟨fun first hfail hfirst hopened => ?_, fun h => taken_when_ready hs rfl ?_⟩
  · cases hfailed : s.failed with
    | nil => exact absurd (State.mem_failed.mpr hfail) (hfailed ▸ List.not_mem_nil)
    | cons n ns =>
      have hn : s.secs[n].state = .breakerFail := State.mem_failed.mp (hfailed ▸ List.mem_cons_self)
      obtain rfl : n = first := le_antisymm (State.failed_head hfailed first hfail) (hfirst n hn)
      have hmem (m : Sec) : m ∈ s.order.filter (· ∈ n :: ns) ↔ s.secs[m].state = .breakerFail := by
        rw [← State.mem_failed, hfailed]
        simp [s.mem_order m]
      have hall : ((n :: ns).all fun m => decide (s.secs[m].feedback = .opened)) = true :=
        List.all_eq_true.mpr fun m hm => decide_eq_true (hopened m (State.mem_failed.mp (hfailed ▸ hm)))
      let u := queueNotice .busTripReleased 3 (.sec n) [word (ns.length + 1)] { hunting s with busTrip := false }
      obtain ⟨⟨secs, notices, ht⟩, hshows, hsecs⟩ := lockedByRelease (s := u) (l := s.order.filter (· ∈ n :: ns))
        hs.halted_eq_false (s.order_nodup.filter _)
      refine ⟨forEach (s.order.filter (· ∈ n :: ns)) (fun m => enterLockout m .busRelease) u,
        taken_when_ready hs rfl ?_, fun m hm => ((hsecs m).1 ((hmem m).mpr hm)), fun m hm => ((hsecs m).2 (mt (hmem m).mp hm)),
        fun ho hl => ?_⟩
      · rw [releaseBusTrip, show (hunting s).failed = _ from hfailed]
        refine (if_pos hall).trans ?_
        change accept (forEach (s.order.filter (· ∈ n :: ns)) (fun m => enterLockout m .busRelease) u).drawn [] = _
        rw [ht]
        rfl
      · have hcount : (List.finRange 8).countP (fun m => s.secs[m].state = .breakerFail) = ns.length + 1 := by
          rw [List.countP_eq_length_filter]
          exact congrArg List.length hfailed
        have hle : ns.length + 1 ≤ 65535 := by
          have := List.countP_le_length (p := fun m : Sec => decide (s.secs[m].state = .breakerFail)) (l := List.finRange 8)
          rw [hcount, List.length_finRange] at this
          omega
        refine ⟨_, (hshows _ _ (NoticeQueue.shows_taken ho hl ..)).1, rfl, rfl, rfl, ?_⟩
        rw [word_of_le hle, hcount]
  · unfold releaseBusTrip
    split
    next => rfl
    next n ns hfailed =>
      refine if_neg fun hall => ?_
      rcases h with h | ⟨m, hm, hf⟩
      · exact h n (State.mem_failed (s := hunting s).mp (hfailed ▸ List.mem_cons_self))
      · exact hf (of_decide_eq_true (List.all_eq_true.mp hall m (hfailed ▸ State.mem_failed.mpr hm)))

end Sys2Proof.Machine
end

section
/-!
Opening supervision that expires fails the breaker (R70, R72): what one failure makes of every section.
-/

namespace Sys2Proof.Machine

variable {s t : State} {n m : Sec} {r r' : Section} {q : NoticeQueue}

/-! ### What a failure leaves as it is -/

/-- The sections, their buffers, their switch points, the arbiter, the power copies and the notices may have changed. -/
def Cascaded (s t : State) : Prop :=
  ∃ caps secs arb power sws notices, t = { s with caps, secs, arb, sws, notices, vt := { s.vt with power } }

theorem Cascaded.refl (s : State) : Cascaded s s := ⟨_, _, _, _, _, _, rfl⟩

theorem Cascaded.trans {u : State} (h : Cascaded s t) (h' : Cascaded t u) : Cascaded s u := by
  obtain ⟨_, _, _, _, _, _, rfl⟩ := h
  obtain ⟨_, _, _, _, _, _, rfl⟩ := h'
  exact ⟨_, _, _, _, _, _, rfl⟩

theorem Cascaded.of_put (caps : Vector Capture 8) (power : Vector Bool 8) (sws : Vector SwitchPoint 16) (r : Section)
    (q : NoticeQueue) : Cascaded s (State.put { s with caps, sws, vt := { s.vt with power } } n r q) :=
  ⟨_, _, _, _, _, _, rfl⟩

theorem reported_cascaded (n : Sec) (b : Bool) (s : State) :
    ∃ power sws, s.reported n b = { s with sws, vt := { s.vt with power } } := ⟨_, _, rfl⟩

/-! ### A section's BUS request -/

/-- The lines as a halt asks. -/
def Section.Halted (r : Section) : Prop := r.tripLine = true ∧ r.closeLine = false ∧ r.testLine = false

theorem Section.entered_halted {st : SecState} (r : Section) (h : st ≠ .closing) (ht : st ≠ .lineTest) : (r.entered true st).Halted := by
  refine ⟨?_, ?_, ?_⟩ <;> simp [entered, withLines, h, ht]

/-- A section's part in a failure keeps its settings and its reading, and a halt's lines. -/
def Section.SameBreaker (halted : Bool) (r r' : Section) : Prop :=
  r'.settings = r.settings ∧ r'.feedback = r.feedback ∧ (halted = true → r.Halted → r'.Halted)

/-- What a BUS request makes of a section that may take one (R49, R51, R52). -/
def Section.BusTripped (r r' : Section) : Prop :=
  (r.state ∈ [.closed, .reclaim, .closing] → (∃ tr, r'.record = some tr ∧ tr.first = .bus) ∧
    r'.state = if r.feedback = .opened then .lockout else .tripping) ∧
  (r.state = .tripping → r'.state = .tripping ∧ ∀ tr, r.record = some tr → ∃ tr', r'.record = some tr' ∧
    .bus ∈ tr'.causes ∧ tr'.first = tr.first)

/-- A trip of cause BUS, once the section stands in TRIPPING under its record. -/
theorem startTrip_put_any (c : Cause) (o : Origin) (v : TripValues) : ∃ caps power sws q',
    (s.caps[n].state ≠ .awaitTrip → caps = s.caps ∧ q' = q) ∧ startTrip n c o v (s.put n r q) =
    let u := State.put { s with caps, sws, vt := { s.vt with power } } n ((r.sequenced o).tripping (newRecord n c o v s)) q'
    if r.feedback = .opened then leaveTripping n u else u := by
  have hbegin : ∃ caps q', (s.caps[n].state ≠ .awaitTrip → caps = s.caps ∧ q' = q) ∧
      beginTripping n c o v (s.put n (r.sequenced o) q) =
        State.put { s with caps } n ((r.sequenced o).tripping (newRecord n c o v s)) q' := by
    by_cases hcap : s.caps[n].state = .awaitTrip
    · rw [beginTripping, modSec_put, enter_put, Section.entered_tripping]
      obtain ⟨caps, notices, h⟩ := captureTrigger_frame n c (s.put n ((r.sequenced o).tripping (newRecord n c o v s)) q)
      exact ⟨caps, notices, fun h => absurd hcap h, h⟩
    · refine ⟨s.caps, q, fun _ => ⟨rfl, rfl⟩, (beginTripping_put c o v (absurd · hcap)).trans ?_⟩
      rw [State.triggered, if_neg hcap]
  have hsequence : (if o = .closed then (s.put n r q).modSec n Section.newSequence else s.put n r q) =
      s.put n (r.sequenced o) q := by
    rw [modSec_put, Section.sequenced]
    exact (apply_ite (fun r => s.put n r q) _ _ _).symm
  obtain ⟨caps, q', hquiet, hbegin⟩ := hbegin
  let r' := (r.sequenced o).tripping (newRecord n c o v s)
  have hreport : ∃ power sws, reportChange n r.state (State.put { s with caps } n r' q') =
      State.put { s with caps, sws, vt := { s.vt with power } } n r' q' := by
    rw [reportChange_put]
    split
    · exact ⟨_, _, rfl⟩
    · obtain ⟨power, sws, h⟩ := reported_cascaded n r'.state.powered { s with caps }
      rw [h]
      exact ⟨_, _, rfl⟩
  obtain ⟨power, sws, hreport⟩ := hreport
  have hfeedback : r'.feedback = r.feedback := by
    change (r.sequenced o).feedback = _
    unfold Section.sequenced
    split <;> rfl
  refine ⟨caps, power, sws, q', hquiet, ?_⟩
  unfold startTrip
  dsimp only
  rw [hsequence, hbegin, State.put_sec, hreport, State.put_sec, hfeedback]

theorem Section.sequenced_kept (o : Origin) (r : Section) :
    (r.sequenced o).settings = r.settings ∧ (r.sequenced o).feedback = r.feedback := by
  unfold Section.sequenced
  split <;> exact ⟨rfl, rfl⟩

/-- A section's turn, on its own record. -/
def Served (P : Section → Section → Prop) (n : Sec) (s t : State) : Prop :=
  Cascaded s t ∧ P s.secs[n] t.secs[n] ∧ ∀ m : Sec, m ≠ n → t.secs[m] = s.secs[m]

theorem Served.refl {P : Section → Section → Prop} (h : P s.secs[n] s.secs[n]) : Served P n s s :=
  ⟨.refl s, h, fun _ _ => rfl⟩

theorem Served.of_put {P : Section → Section → Prop} {caps : Vector Capture 8} {power : Vector Bool 8}
    {sws : Vector SwitchPoint 16} (h : P s.secs[n] r) :
    Served P n s (State.put { s with caps, sws, vt := { s.vt with power } } n r q) :=
  ⟨.of_put .., by rwa [State.put_sec], fun _ hm => State.put_other _ _ _ hm⟩

/-- A section's turn keeps its breaker's side. -/
def Section.Struck (halted : Bool) (r r' : Section) : Prop := r.SameBreaker halted r' ∧ r.BusTripped r'

theorem startTrip_served {o : Origin} (hst : s.secs[n].state ∈ [.closed, .reclaim, .closing]) (v : TripValues) :
    Served (Section.Struck s.halted) n s (startTrip n .bus o v s) := by
  obtain ⟨hsettings, hfeedback⟩ := s.secs[n].sequenced_kept o
  have hnot : ¬ s.secs[n].state = .tripping := fun h => by rw [h] at hst; simp at hst
  obtain ⟨caps, power, sws, q', -, htrip⟩ := startTrip_put_any (s := s) (n := n) (r := s.secs[n]) (q := s.notices) .bus o v
  rw [s.put_self n] at htrip
  rw [htrip]
  dsimp only
  split
  next hf =>
    rw [leaveTripping_locks (r := (s.secs[n].sequenced o).tripping (newRecord n .bus o v s)) rfl (hfeedback.trans hf) (fun h => by simp [newRecord] at h)
      (.inr (.inl (by simp [newRecord])))]
    exact .of_put ⟨⟨hsettings, hfeedback, fun hh _ => ⟨hh, rfl, rfl⟩⟩, fun _ => ⟨⟨_, rfl, rfl⟩, (if_pos hf).symm⟩,
      fun h => absurd h hnot⟩
  next hf =>
    exact .of_put ⟨⟨hsettings, hfeedback, fun _ _ => ⟨rfl, rfl, rfl⟩⟩, fun _ => ⟨⟨_, rfl, rfl⟩, (if_neg hf).symm⟩,
      fun h => absurd h hnot⟩

theorem TripRecord.join_mem (c : Cause) (t : TripRecord) : c ∈ (t.join c).causes ∧ (t.join c).first = t.first := by
  rw [TripRecord.join_eq]
  split
  next h => exact ⟨h, rfl⟩
  next => exact ⟨by simp, rfl⟩

theorem tripRequest_served (hst : s.secs[n].state ∈ [.closed, .reclaim, .closing, .tripping]) (v : TripValues) :
    Served (Section.Struck s.halted) n s (tripRequest n .bus v s) := by
  rw [tripRequest]
  simp only [List.mem_cons, List.not_mem_nil, or_false] at hst
  rcases hst with h | h | h | h
  · rw [h]
    exact startTrip_served (by rw [h]; decide) v
  · rw [h]
    exact startTrip_served (by rw [h]; decide) v
  · rw [h]
    exact startTrip_served (by rw [h]; decide) v
  · rw [h]
    refine .of_put (q := s.notices) (caps := s.caps) (power := s.vt.power) (sws := s.sws)
      (r := { s.secs[n] with record := s.secs[n].record.map (TripRecord.join .bus) })
      ⟨⟨rfl, rfl, fun _ h => h⟩, fun hst => by rw [h] at hst; simp at hst, fun _ => ⟨h, fun tr htr => ?_⟩⟩
    exact ⟨tr.join .bus, by rw [htr]; rfl, tr.join_mem .bus⟩

/-! ### A sequencing section's LOCKOUT -/

/-- A section that waits for a circuit may be granted one when another section leaves its own. -/
def Section.MaybeGranted (halted : Bool) (r r' : Section) : Prop :=
  r' = r ∨ halted = false ∧ r.state = .testWait ∧ r' = r.granted false

theorem lockedOut_served (why : LockoutReason) : Cascaded s (enterLockout n why (abandonTest n s)) ∧
    (s.secs[n].SameBreaker s.halted (enterLockout n why (abandonTest n s)).secs[n] ∧
      (enterLockout n why (abandonTest n s)).secs[n].state = .lockout) ∧
    ∀ m : Sec, m ≠ n → s.secs[m].MaybeGranted s.halted (enterLockout n why (abandonTest n s)).secs[m] := by
  obtain ⟨secs, arb, habandon, hsecs⟩ := abandonTest_granted n s
  have hlock := enterLockout_put { s with secs, arb } n secs[n] s.notices why
  rw [show State.put { s with secs, arb } n secs[n] s.notices = _ from State.put_self { s with secs, arb } n] at hlock
  rw [habandon, hlock]
  refine ⟨⟨_, _, _, _, _, _, rfl⟩, ?_, fun m hm => ?_⟩
  · have hkept : secs[n].settings = s.secs[n].settings ∧ secs[n].feedback = s.secs[n].feedback := by
      rcases hsecs n with h | ⟨-, -, h⟩ <;> rw [h] <;> exact ⟨rfl, rfl⟩
    rw [State.put_sec]
    exact ⟨⟨hkept.1, hkept.2, fun hh _ => by rw [show State.halted _ = true from hh]; exact secs[n].entered_halted nofun nofun⟩, rfl⟩
  · rw [State.put_other _ _ _ hm]
    exact hsecs m

/-! ### A section's part in a bus trip and in an entry into HALT -/

/-- What a failure elsewhere makes of a section. -/
structure Section.Hit (halted : Bool) (r r' : Section) : Prop where
  breaker : r.SameBreaker halted r'
  tripped : r.BusTripped r'
  locked : r.state ∈ [.deadTime, .testWait, .lineTest, .held] → r'.state = .lockout
  stays : r.state ∈ [.opened, .lockout, .isolated, .breakerFail] → r' = r

/-- A section takes BUS requests, sequences, or stands. -/
theorem SecState.part (st : SecState) : st ∈ [.closed, .reclaim, .closing, .tripping] ∨
    st ∈ [.deadTime, .testWait, .lineTest, .held] ∨ st ∈ [.opened, .lockout, .isolated, .breakerFail] := by
  cases st <;> decide

theorem Section.Struck.hit {halted : Bool} (h : r.Struck halted r') (hst : r.state ∈ [.closed, .reclaim, .closing, .tripping]) :
    r.Hit halted r' := by
  obtain ⟨hbreaker, htripped⟩ := h
  exact ⟨hbreaker, htripped, by grind, by grind⟩

theorem Section.hit_of_lockout {halted : Bool} (h : r.SameBreaker halted r') (hl : r'.state = .lockout)
    (hst : r.state ∈ [.deadTime, .testWait, .lineTest, .held]) : r.Hit halted r' :=
  ⟨h, ⟨by grind, by grind⟩, fun _ => hl, by grind⟩

theorem Section.hit_self (halted : Bool) (hst : r.state ∈ [.opened, .lockout, .isolated, .breakerFail]) : r.Hit halted r :=
  ⟨⟨rfl, rfl, fun _ h => h⟩, ⟨by grind, by grind⟩, by grind, fun _ => rfl⟩

theorem Section.Hit.not_waiting {halted : Bool} (h : r.Hit halted r') : r'.state ≠ .testWait := by
  obtain ⟨-, ⟨htrip, hjoin⟩, hlocked, hstays⟩ := h
  rcases r.state.part with hst | hst | hst
  · by_cases hj : r.state = .tripping
    · rw [(hjoin hj).1]
      nofun
    · rw [(htrip (by simpa [hj] using hst)).2]
      split <;> nofun
  · rw [hlocked hst]
    nofun
  · rw [hstays hst]
    intro h
    rw [h] at hst
    revert hst
    decide

theorem busCascade_served (n : Sec) (s : State) : Cascaded s (busCascade n s) ∧
    s.secs[n].Hit s.halted (busCascade n s).secs[n] ∧
    ∀ m : Sec, m ≠ n → s.secs[m].MaybeGranted s.halted (busCascade n s).secs[m] := by
  rcases s.secs[n].state.part with hst | hst | hst
  · have heq : busCascade n s = tripRequest n .bus (ownValues n s) s := by
      simp only [List.mem_cons, List.not_mem_nil, or_false] at hst
      rcases hst with h | h | h | h <;> rw [busCascade, h]
    obtain ⟨hframe, hstruck, hother⟩ := tripRequest_served hst (ownValues n s)
    rw [heq]
    exact ⟨hframe, hstruck.hit hst, fun m hm => .inl (hother m hm)⟩
  · have heq : busCascade n s = enterLockout n .bus (abandonTest n s) := by
      simp only [List.mem_cons, List.not_mem_nil, or_false] at hst
      rcases hst with h | h | h | h <;> rw [busCascade, h]
    obtain ⟨hframe, ⟨hbreaker, hlocked⟩, hother⟩ := lockedOut_served (s := s) (n := n) .bus
    rw [heq]
    exact ⟨hframe, Section.hit_of_lockout hbreaker hlocked hst, hother⟩
  · have heq : busCascade n s = s := by
      simp only [List.mem_cons, List.not_mem_nil, or_false] at hst
      rcases hst with h | h | h | h <;> rw [busCascade, h]
    rw [heq]
    exact ⟨.refl s, Section.hit_self _ hst, fun m _ => .inl rfl⟩

theorem haltTrip_served (n : Sec) (s : State) : Served (fun r r' => r.Struck s.halted r' ∧
    (r.state ∉ [.closed, .reclaim, .closing, .tripping] → r' = r)) n s (haltTrip n s) := by
  by_cases hst : s.secs[n].state ∈ [.closed, .reclaim, .closing, .tripping]
  · have heq : haltTrip n s = tripRequest n .bus (ownValues n s) s := by
      simp only [List.mem_cons, List.not_mem_nil, or_false] at hst
      rcases hst with h | h | h | h <;> rw [haltTrip, h]
    obtain ⟨hframe, hstruck, hother⟩ := tripRequest_served hst (ownValues n s)
    rw [heq]
    exact ⟨hframe, ⟨hstruck, absurd hst⟩, hother⟩
  · have heq : haltTrip n s = s := by
      unfold haltTrip
      generalize s.secs[n].state = st at hst
      cases st <;> simp at hst <;> rfl
    rw [heq]
    exact .refl ⟨⟨⟨rfl, rfl, fun _ h => h⟩, by grind, by grind⟩, fun _ => rfl⟩

theorem haltLockout_served (hh : s.halted = true) (n : Sec) : Served (fun r r' => r.SameBreaker true r' ∧
    (r.state ∈ [.deadTime, .testWait, .lineTest, .held] → r'.state = .lockout) ∧
    (r.state ∉ [.deadTime, .testWait, .lineTest, .held] → r' = r)) n s (haltLockout n s) := by
  by_cases hst : s.secs[n].state ∈ [.deadTime, .testWait, .lineTest, .held]
  · have heq : haltLockout n s = enterLockout n .halt (abandonTest n s) := by
      simp only [List.mem_cons, List.not_mem_nil, or_false] at hst
      rcases hst with h | h | h | h <;> rw [haltLockout, h]
    obtain ⟨hframe, ⟨hbreaker, hlocked⟩, hother⟩ := lockedOut_served (s := s) (n := n) .halt
    rw [heq]
    rw [hh] at hbreaker
    refine ⟨hframe, ⟨hbreaker, fun _ => hlocked, absurd hst⟩, fun m hm => ?_⟩
    exact (hother m hm).resolve_right fun h => nomatch hh.symm.trans h.1
  · have heq : haltLockout n s = s := by
      unfold haltLockout
      generalize s.secs[n].state = st at hst
      cases st <;> simp at hst <;> rfl
    rw [heq]
    exact .refl ⟨⟨rfl, rfl, fun _ h => h⟩, fun h => absurd h hst, fun _ => rfl⟩

/-! ### Every section served -/

theorem forEach_busCascade {l : List Sec} (hl : l.Nodup) : Cascaded s (forEach l busCascade s) ∧ ∀ m : Sec,
    (m ∈ l → s.secs[m].Hit s.halted (forEach l busCascade s).secs[m]) ∧
    (m ∉ l → s.secs[m].MaybeGranted s.halted (forEach l busCascade s).secs[m]) := by
  refine forEach_served (I := Cascaded s) (P := fun _ => Section.Hit s.halted) (Q := Section.MaybeGranted s.halted)
    (fun r => .inl rfl) ?_ ?_ ?_ (fun n t ht => ?_) hl (.refl s)
  · rintro r₀ r₁ r₂ (rfl | ⟨hh, hw, rfl⟩) (rfl | ⟨hh', hw', rfl⟩)
    · exact .inl rfl
    · exact .inr ⟨hh', hw', rfl⟩
    · exact .inr ⟨hh, hw, rfl⟩
    · cases hw'
  · rintro n r₀ r₁ r₂ (rfl | ⟨hh, hw, rfl⟩) hit
    · exact hit
    · refine Section.hit_of_lockout ⟨hit.breaker.1, hit.breaker.2.1, fun hh' => nomatch hh.symm.trans hh'⟩
        (hit.locked (show SecState.lineTest ∈ _ by decide)) (by rw [hw]; decide)
  · rintro n r₀ r₁ r₂ hit (rfl | ⟨hh, hw, rfl⟩)
    · exact hit
    · exact absurd hw hit.not_waiting
  · obtain ⟨hframe, hhit, hother⟩ := busCascade_served n t
    have hh : t.halted = s.halted := by obtain ⟨_, _, _, _, _, _, rfl⟩ := ht; rfl
    rw [hh] at hhit hother
    exact ⟨ht.trans hframe, hhit, hother⟩

theorem Section.Struck.same_part {halted : Bool} (h : r.Struck halted r')
    (hst : r.state ∈ [.closed, .reclaim, .closing, .tripping]) : r'.state = .lockout ∨ r'.state = .tripping := by
  obtain ⟨-, htrip, hjoin⟩ := h
  by_cases hj : r.state = .tripping
  · exact .inr (hjoin hj).1
  · rw [(htrip (by simpa [hj] using hst)).2]
    split
    · exact .inl rfl
    · exact .inr rfl

theorem Section.hit_of_halt {r₁ r₂ : Section}
    (htrip : r.Struck true r₁ ∧ (r.state ∉ [.closed, .reclaim, .closing, .tripping] → r₁ = r))
    (hlock : r₁.SameBreaker true r₂ ∧ (r₁.state ∈ [.deadTime, .testWait, .lineTest, .held] → r₂.state = .lockout) ∧
      (r₁.state ∉ [.deadTime, .testWait, .lineTest, .held] → r₂ = r₁)) : r.Hit true r₂ := by
  obtain ⟨hstruck, hsame⟩ := htrip
  obtain ⟨hbreaker, hlocked, hsame'⟩ := hlock
  rcases r.state.part with hst | hst | hst
  · rw [hsame' (by rcases hstruck.same_part hst with h | h <;> rw [h] <;> decide)]
    exact hstruck.hit hst
  · obtain rfl := hsame (by grind)
    exact Section.hit_of_lockout hbreaker (hlocked hst) hst
  · obtain rfl := hsame (by grind)
    rw [hsame' (by grind)]
    exact Section.hit_self _ hst

theorem haltedSections_served (n : Sec) (s : State) :
    Cascaded { s with halted := true } (s.haltedSections n) ∧
    ∀ m : Sec, ({ s.secs[m] with tripLine := true, closeLine := false, testLine := false } : Section).Hit true
      (s.haltedSections n).secs[m] := by
  let s₀ := (queueNotice .halt 7 (.sec n) [word (if s.busTrip then 0 else 1)] s).halting
  have hget (m : Sec) : s₀.secs[m] = { s.secs[m] with tripLine := true, closeLine := false, testLine := false } :=
    Vector.getElem_map ..
  obtain ⟨htripFrame, htripSecs⟩ := forEach_sections (I := fun t => Cascaded s₀ t) (l := s.order)
    (P := fun _ r r' => r.Struck true r' ∧ (r.state ∉ [.closed, .reclaim, .closing, .tripping] → r' = r))
    (fun n t ht => by
      obtain ⟨hframe, hturn, hother⟩ := haltTrip_served n t
      have hh : t.halted = true := by obtain ⟨_, _, _, _, _, _, rfl⟩ := ht; rfl
      rw [hh] at hturn
      exact ⟨ht.trans hframe, hturn, hother⟩) s.order_nodup (.refl s₀)
  obtain ⟨hlockFrame, hlockSecs⟩ := forEach_sections (I := fun t => Cascaded s₀ t) (l := s.order)
    (P := fun _ r r' => r.SameBreaker true r' ∧
      (r.state ∈ [.deadTime, .testWait, .lineTest, .held] → r'.state = .lockout) ∧
      (r.state ∉ [.deadTime, .testWait, .lineTest, .held] → r' = r))
    (fun n t ht => by
      have hh : t.halted = true := by obtain ⟨_, _, _, _, _, _, rfl⟩ := ht; rfl
      obtain ⟨hframe, hturn, hother⟩ := haltLockout_served hh n
      exact ⟨ht.trans hframe, hturn, hother⟩) s.order_nodup htripFrame
  refine ⟨?_, fun m => ?_⟩
  · have hstart : Cascaded { s with halted := true } s₀ := ⟨_, _, _, _, _, _, rfl⟩
    exact hstart.trans hlockFrame
  · rw [← hget m]
    exact Section.hit_of_halt ((htripSecs m).1 (s.mem_order m)) ((hlockSecs m).1 (s.mem_order m))

/-! ### The loop learns of the halt (R161) -/

/-- Both loops hold the same stations, and drives alike. -/
def Loop.SameTable (l l' : Loop) : Prop := l'.holding = l.holding ∧ l'.stations = l.stations

theorem Loop.SameTable.refl (l : Loop) : l.SameTable l := ⟨rfl, rfl⟩

/-- The switch point's record, but for the mark of a drive in the exchange. -/
def SwitchPoint.SameButCarried (w w' : SwitchPoint) : Prop := w' = { w with carried := w'.carried }

/-- The loop's own part in choosing an exchange: its record, a drive marked as carried, LOOP OVERRUN. -/
def LoopMoved (s t : State) : Prop :=
  ∃ loop sws notices, t = { s with loop, sws, notices } ∧ s.loop.SameTable loop ∧
    ∀ j : Sw, s.sws[j].SameButCarried sws[j]

theorem LoopMoved.refl (s : State) : LoopMoved s s := ⟨_, _, _, rfl, .refl _, fun _ => rfl⟩

theorem LoopMoved.trans {u : State} (h : LoopMoved s t) (h' : LoopMoved t u) : LoopMoved s u := by
  obtain ⟨_, _, _, rfl, ⟨hholding, hstations⟩, hsws⟩ := h
  obtain ⟨_, _, _, rfl, ⟨hholding', hstations'⟩, hsws'⟩ := h'
  exact ⟨_, _, _, rfl, ⟨hholding'.trans hholding, hstations'.trans hstations⟩, fun j => by
    rw [SwitchPoint.SameButCarried, hsws' j, hsws j]⟩

theorem LoopMoved.modLoop (s : State) (f : Loop → Loop) (h : s.loop.SameTable (f s.loop)) :
    LoopMoved s (s.modLoop f) :=
  ⟨_, _, _, rfl, h, fun _ => rfl⟩

theorem markCarried_moved (a : Sta) (c : LoopCommand) (s : State) : LoopMoved s (markCarried a c s) := by
  unfold markCarried
  split
  next k _ =>
    refine ⟨_, _, _, rfl, .refl _, fun j => ?_⟩
    by_cases hj : j = k
    · subst hj
      rw [SwitchPoint.SameButCarried, updateAt_same]
    · rw [SwitchPoint.SameButCarried, updateAt_other _ hj]
  all_goals exact .refl s

theorem beginExchange_moved (a : Sta) (c : LoopCommand) (s : State) : LoopMoved s (beginExchange a c s) :=
  .modLoop _ _ ⟨rfl, rfl⟩

theorem beginPoll_moved (a : Sta) (s : State) : LoopMoved s (beginPoll a s) :=
  (LoopMoved.modLoop s (fun l => { l with pollPos := number a }) ⟨rfl, rfl⟩).trans
    ((markCarried_moved a (pollCommand a s) _).trans (beginExchange_moved ..))

theorem tryExchange_moved (s : State) : LoopMoved s (tryExchange s).1 := by
  unfold tryExchange
  split
  · exact beginPoll_moved _ s
  · split
    · exact .refl s
    · split
      · exact (LoopMoved.modLoop s (fun l => { l with censusPos := _, censusDone := true }) ⟨rfl, rfl⟩).trans
          (beginExchange_moved ..)
      · exact .modLoop s (fun l => { l with censusDone := true }) ⟨rfl, rfl⟩

theorem newCycle_moved (s : State) : LoopMoved s (newCycle s) := by
  have h : LoopMoved s (tryExchange (s.modLoop Loop.startCycle)).1 :=
    (LoopMoved.modLoop _ _ ⟨rfl, rfl⟩).trans (tryExchange_moved _)
  unfold newCycle
  split
  next t heq => rwa [heq] at h
  next t heq =>
    rw [heq] at h
    exact h.trans (.modLoop _ _ ⟨rfl, rfl⟩)

theorem endCycle_moved (s : State) : LoopMoved s (endCycle s) := by
  unfold endCycle
  dsimp only
  split
  · refine .trans ?_ (newCycle_moved _)
    split
    · exact .refl s
    · exact ⟨_, _, _, rfl, .refl _, fun _ => rfl⟩
  · exact .modLoop _ _ ⟨rfl, rfl⟩

theorem nextExchange_moved (s : State) : LoopMoved s (nextExchange s) := by
  have h := tryExchange_moved s
  unfold nextExchange
  split
  next t heq => rwa [heq] at h
  next t heq =>
    rw [heq] at h
    exact h.trans (endCycle_moved t)

theorem abortAndContinue_moved (s : State) : LoopMoved s (abortAndContinue s) := by
  unfold abortAndContinue
  split
  · exact .refl s
  · exact (LoopMoved.modLoop _ _ ⟨rfl, rfl⟩).trans (nextExchange_moved _)

theorem holdDrives_moved (s : State) : LoopMoved { s with loop := { s.loop with holding := true } } (holdDrives s) := by
  unfold holdDrives
  dsimp only
  split
  · exact abortAndContinue_moved _
  · exact .refl _

/-! ### Opening supervision expires -/

/-- What a failure of section `n` makes of another section, its lines aside. -/
structure Section.Affected (r r' : Section) : Prop where
  kept : r'.settings = r.settings ∧ r'.feedback = r.feedback
  tripped : r.BusTripped r'
  locked : r.state ∈ [.deadTime, .testWait, .lineTest, .held] → r'.state = .lockout
  stays : r.state ∈ [.opened, .lockout, .isolated, .breakerFail] → r'.state = r.state

/-- The record with its lines as a halt asks. -/
def Section.lined (r : Section) : Section := { r with tripLine := true, closeLine := false, testLine := false }

theorem Section.Hit.affected {halted : Bool} (h : r.Hit halted r') : r.Affected r' :=
  ⟨⟨h.breaker.1, h.breaker.2.1⟩, h.tripped, h.locked, fun hst => congrArg Section.state (h.stays hst)⟩

theorem Section.Hit.affected_of_lined {halted : Bool} (h : r.lined.Hit halted r') : r.Affected r' :=
  ⟨⟨h.breaker.1, h.breaker.2.1⟩, h.tripped, h.locked, fun hst => (congrArg Section.state (h.stays hst)).trans rfl⟩

theorem busTripAction_affects (hst : s.secs[n].state = .breakerFail) : Cascaded { s with busTrip := true } (busTripAction n s) ∧
    (busTripAction n s).secs[n] = s.secs[n] ∧ ∀ m : Sec, m ≠ n → s.secs[m].Affected (busTripAction n s).secs[m] := by
  obtain ⟨hframe, hsecs⟩ := forEach_busCascade (s := { s with busTrip := true }) (l := s.order.filter (· ≠ n))
    (s.order_nodup.filter _)
  refine ⟨hframe, ((hsecs n).2 (by simp)).resolve_right fun ⟨_, hw, _⟩ => ?_, fun m hm => ?_⟩
  · exact nomatch hst.symm.trans hw
  · exact ((hsecs m).1 (List.mem_filter.mpr ⟨s.mem_order m, decide_eq_true hm⟩)).affected

theorem enterHalt_affects (hst : s.secs[n].state = .breakerFail) :
    (∃ u, Cascaded { s with halted := true } u ∧ LoopMoved { u with loop := { u.loop with holding := true } } (enterHalt n s)) ∧
    (enterHalt n s).secs[n] = s.secs[n].lined ∧
    ∀ m : Sec, s.secs[m].Affected (enterHalt n s).secs[m] ∧ (enterHalt n s).secs[m].Halted := by
  obtain ⟨hframe, hsecs⟩ := haltedSections_served n s
  have hsame (m : Sec) : (enterHalt n s).secs[m] = (s.haltedSections n).secs[m] := by
    rw [enterHalt_eq]
    obtain ⟨_, _, _, h, -⟩ := holdDrives_moved (s.haltedSections n)
    rw [h]
  refine ⟨⟨_, hframe, holdDrives_moved _⟩, ?_, fun m => ?_⟩
  · rw [hsame]
    exact (hsecs n).stays (by change s.secs[n].state ∈ _; rw [hst]; decide)
  · rw [hsame]
    have hm : s.secs[m].lined.Hit true (s.haltedSections n).secs[m] := hsecs m
    exact ⟨hm.affected_of_lined, hm.breaker.2.2 rfl ⟨rfl, rfl, rfl⟩⟩

/-- The state in which section `n` has just failed (R70). -/
def State.failing (s : State) (n : Sec) : State :=
  s.put n { s.secs[n].standing .breakerFail with tripLine := true }
    (s.noticed .breakerFail 7 (.sec n) [word s.secs[n].feedback.code, word (markCode (s.busTrip || !s.backup))])

theorem breakerFails_eq (n : Sec) (s : State) : breakerFails n s =
    if s.busTrip || !s.backup then enterHalt n (s.failing n) else busTripAction n (s.failing n) := by
  have henter : enter n .breakerFail s = s.put n { s.secs[n].standing .breakerFail with tripLine := true } s.notices := by
    conv_lhs => rw [← s.put_self n]
    rw [enter_put, Section.entered_breakerFail]
  unfold breakerFails
  dsimp only
  rw [henter, State.put_sec]
  rfl

theorem openingExpired_eq {left : Nat} (hh : s.halted = false)
    (hst : s.secs[n].state = .tripping ∨ s.secs[n].state.openLike = true) (hopening : s.secs[n].opening = some left) :
    openingExpired n s = (breakerFails n s).drawn := by
  refine if_pos ?_
  rw [hopening, timerRuns_some hh, Bool.true_and, Bool.or_eq_true, decide_eq_true_eq]
  exact hst

/-- The sections after the failure of section `n`, whose own record keeps its settings and its reading. -/
theorem affected_outcome (hn : t.secs[n].settings = s.secs[n].settings ∧ t.secs[n].feedback = s.secs[n].feedback)
    (h : ∀ m : Sec, m ≠ n → s.secs[m].Affected t.secs[m]) :
    (∀ m : Sec, t.secs[m].settings = s.secs[m].settings ∧ t.secs[m].feedback = s.secs[m].feedback) ∧
    (∀ m : Sec, m ≠ n → s.secs[m].state ∈ [.deadTime, .testWait, .lineTest, .held] → t.secs[m].state = .lockout) ∧
    (∀ m : Sec, m ≠ n → s.secs[m].state ∈ [.opened, .lockout, .isolated, .breakerFail] →
      t.secs[m].state = s.secs[m].state) ∧
    ∀ m : Sec, m ≠ n → s.secs[m].BusTripped t.secs[m] := by
  refine ⟨fun m => ?_, fun m hm => (h m hm).locked, fun m hm => (h m hm).stays, fun m hm => (h m hm).tripped⟩
  by_cases hm : m = n
  · rwa [hm]
  · exact (h m hm).kept

/-- What lies outside the sections' failure. -/
def SameElsewhere (s t : State) : Prop :=
  t.clock = s.clock ∧ t.fpus = s.fpus ∧ t.gens = s.gens ∧ t.link = s.link ∧ t.vt.slots = s.vt.slots

theorem Cascaded.elsewhere (h : Cascaded s t) :
    SameElsewhere s t ∧ t.busTrip = s.busTrip ∧ t.halted = s.halted ∧ t.loop = s.loop := by
  obtain ⟨_, _, _, _, _, _, rfl⟩ := h
  exact ⟨⟨rfl, rfl, rfl, rfl, rfl⟩, rfl, rfl, rfl⟩

theorem LoopMoved.elsewhere (h : LoopMoved s t) :
    SameElsewhere s t ∧ t.busTrip = s.busTrip ∧ t.halted = s.halted ∧ t.loop.holding = s.loop.holding := by
  obtain ⟨_, _, _, rfl, ⟨hholding, -⟩, -⟩ := h
  exact ⟨⟨rfl, rfl, rfl, rfl, rfl⟩, rfl, rfl, hholding⟩

/-- The failed section's record, lines as a halt asks or not. -/
def Section.FailedFrom (r r' : Section) : Prop :=
  r'.state = .breakerFail ∧ r'.tripLine = true ∧ r'.opening = none ∧ r'.record = r.record ∧
  r'.settings = r.settings ∧ r'.feedback = r.feedback

theorem breakerFails_halts (hgo : (s.busTrip || !s.backup) = true) :
    SameElsewhere s (breakerFails n s) ∧ s.secs[n].FailedFrom (breakerFails n s).secs[n] ∧
    (∀ m : Sec, m ≠ n → s.secs[m].Affected (breakerFails n s).secs[m]) ∧
    (breakerFails n s).busTrip = s.busTrip ∧ (breakerFails n s).halted = true ∧ (breakerFails n s).loop.holding = true ∧
    ∀ m : Sec, (breakerFails n s).secs[m].Halted := by
  have hself : (s.failing n).secs[n] = { s.secs[n].standing .breakerFail with tripLine := true } := State.put_sec ..
  obtain ⟨⟨u, hcascade, hloop⟩, hn, haffected⟩ := enterHalt_affects (s := s.failing n) (n := n) (by rw [hself]; rfl)
  rw [breakerFails_eq, if_pos hgo]
  obtain ⟨⟨hclock, hfpus, hgens, hlink, hslots⟩, hbus, hhalted, -⟩ := hcascade.elsewhere
  obtain ⟨⟨hclock', hfpus', hgens', hlink', hslots'⟩, hbus', hhalted', hholding⟩ := hloop.elsewhere
  rw [hself] at hn
  refine ⟨⟨hclock'.trans hclock, hfpus'.trans hfpus, hgens'.trans hgens, hlink'.trans hlink, hslots'.trans hslots⟩,
    by rw [hn]; exact ⟨rfl, rfl, rfl, rfl, rfl, rfl⟩, fun m hm => ?_, hbus'.trans hbus, hhalted'.trans hhalted, hholding,
    fun m => (haffected m).2⟩
  have hother : (s.failing n).secs[m] = s.secs[m] := State.put_other _ _ _ hm
  exact hother ▸ (haffected m).1

theorem breakerFails_trips (hgo : ¬ (s.busTrip || !s.backup) = true) :
    SameElsewhere s (breakerFails n s) ∧ s.secs[n].FailedFrom (breakerFails n s).secs[n] ∧
    (∀ m : Sec, m ≠ n → s.secs[m].Affected (breakerFails n s).secs[m]) ∧
    (breakerFails n s).busTrip = true ∧ (breakerFails n s).halted = s.halted ∧ (breakerFails n s).loop = s.loop := by
  have hself : (s.failing n).secs[n] = { s.secs[n].standing .breakerFail with tripLine := true } := State.put_sec ..
  obtain ⟨hcascade, hn, haffected⟩ := busTripAction_affects (s := s.failing n) (n := n) (by rw [hself]; rfl)
  rw [breakerFails_eq, if_neg hgo]
  obtain ⟨helsewhere, hbus, hhalted, hloop⟩ := hcascade.elsewhere
  rw [hself] at hn
  refine ⟨helsewhere, by rw [hn]; exact ⟨rfl, rfl, rfl, rfl, rfl, rfl⟩, fun m hm => ?_, hbus, hhalted, hloop⟩
  have hother : (s.failing n).secs[m] = s.secs[m] := State.put_other _ _ _ hm
  exact hother ▸ haffected m hm

/-- Settles O31: in a bus trip every other section's turn, in a halt every section's two turns, amount to `Section.Hit`. -/
theorem openingSupervisionExpiryFailsTheBreaker : Obligations.OpeningSupervisionExpiryFailsTheBreaker := by
  intro n s left hh _ hst hopening
  have hexec : exec (.openingSupervisionExpiry n) s = .next (breakerFails n s).drawn :=
    congrArg Host.Outcome.next (openingExpired_eq hh hst hopening)
  refine ⟨(breakerFails n s).drawn, hexec, ?_⟩
  generalize htrips : breakerFails n s = t
  by_cases hgo : (s.busTrip || !s.backup) = true
  · obtain ⟨⟨hclock, hfpus, hgens, hlink, hslots⟩, ⟨hstate, htrip, hopens, hrec, hself⟩, haffected, hbus, hhalted, hholding,
      hlines⟩ := htrips ▸ breakerFails_halts (n := n) hgo
    obtain ⟨hkept, hlocked, hstays, htripped⟩ := affected_outcome hself haffected
    refine ⟨hstate, htrip, hopens, hrec, hclock, hfpus, hgens, hlink, hslots, hkept, hlocked, hstays,
      fun m hm => (htripped m hm).1, fun m hm => (htripped m hm).2, fun hb hbackup => ?_,
      fun _ => ⟨hbus, hhalted, hholding, hlines⟩⟩
    rw [hb, hbackup] at hgo
    cases hgo
  · obtain ⟨⟨hclock, hfpus, hgens, hlink, hslots⟩, ⟨hstate, htrip, hopens, hrec, hself⟩, haffected, hbus, hhalted, hloop⟩ :=
      htrips ▸ breakerFails_trips (n := n) hgo
    obtain ⟨hkept, hlocked, hstays, htripped⟩ := affected_outcome hself haffected
    refine ⟨hstate, htrip, hopens, hrec, hclock, hfpus, hgens, hlink, hslots, hkept, hlocked, hstays,
      fun m hm => (htripped m hm).1, fun m hm => (htripped m hm).2, fun _ _ => ⟨hbus, hhalted.trans hh, hloop⟩,
      fun hor => absurd ?_ hgo⟩
    rcases hor with hb | hb <;> simp [hb]

end Sys2Proof.Machine
end

section
/-!
SET CONDITION and ACK CONDITION (R32, R34).
-/

namespace Sys2Proof.Machine

variable {s : State} {g : Gen} {p : List Byte}

/-- The buffers once generator `g`'s gate is shut. -/
def State.gateShut (g : Gen) (s : State) : Vector Capture 8 := s.caps.map fun b =>
  if s.gens[g].gateOpen = true ∧ b.setting.mode = .onCondition ∧ b.setting.gen = g then { b with gate := false } else b

theorem generatorOff_eq (g : Gen) (s : State) : generatorOff g s =
    { s with gens := s.gens.set g { s.gens[g] with out := .off }, caps := s.gateShut g } := by
  have hnow : (s.modGen g fun g => { g with out := .off }).gens[g].gateOpen = false := by
    change (Vector.set s.gens g { s.gens[g] with out := .off })[g].gateOpen = false
    rw [show (Vector.set s.gens g { s.gens[g] with out := .off })[g] = _ from Vector.getElem_set_self ..]
    exact Bool.and_false _
  rw [generatorOff, tellChange, hnow]
  cases hb : s.gens[g].gateOpen with
  | false =>
    have hshut : s.gateShut g = s.caps := by
      unfold State.gateShut
      rw [hb]
      simp
    rw [hshut]
    rfl
  | true =>
    have hshut : s.gateShut g = s.caps.map fun b =>
        if b.setting.mode = .onCondition ∧ b.setting.gen = g then { b with gate := false } else b := by
      unfold State.gateShut
      rw [hb]
      simp
    rw [hshut]
    rfl

theorem generatorOff_gen (g : Gen) (s : State) : (generatorOff g s).gens[g] = { s.gens[g] with out := .off } := by
  rw [generatorOff_eq]
  exact Vector.getElem_set_self ..

theorem generatorSet_eq (g : Gen) (c : Condition) (s : State) : ((generatorOff g s).modGen g fun g => { g with setting := c }) =
    { s with gens := s.gens.set g { s.gens[g] with out := .off, setting := c }, caps := s.gateShut g } := by
  have hgens : (s.gens.set g { s.gens[g] with out := .off }).set g
      { (s.gens.set g { s.gens[g] with out := .off })[g] with setting := c } =
      s.gens.set g { s.gens[g] with out := .off, setting := c } := by
    rw [Vector.set_set, show (s.gens.set g { s.gens[g] with out := .off })[g] = _ from Vector.getElem_set_self ..]
  rw [generatorOff_eq]
  exact congrArg (fun gens => { s with gens, caps := s.gateShut g }) hgens

theorem generatorSet_gen (g : Gen) (c : Condition) (s : State) :
    ((generatorOff g s).modGen g fun g => { g with setting := c }).gens[g] = { s.gens[g] with out := .off, setting := c } := by
  rw [generatorSet_eq]
  exact Vector.getElem_set_self ..

theorem ackCondition_eq (hn : octetAt p 0 = number g) (s : State) : ackCondition p s =
    if s.gens[g].out = .latched then accept (generatorOff g s) [fieldCode (generatorOff g s).gens[g].out.code]
    else refuseState s [fieldCode s.gens[g].out.code] := naming_named s p _ g hn

theorem setCondition_eq (hn : octetAt p 0 = number g) (s : State) : setCondition p s =
    match parseCondition p with
    | none => badArgument s
    | some c =>
      let s := (generatorOff g s).modGen g fun g => { g with setting := c }
      accept s (c.fields ++ [fieldCode s.gens[g].out.code]) := naming_named s p _ g hn

/-! ### The setting record that a payload carries -/

theorem inputsAt_eq {k : Nat} {inputs : List Comparator}
    (h : ∀ i : Fin inputs.length, comparatorOf (octetAt p (k + 3 * i.val)) (halfAt p (k + 1 + 3 * i.val))
      (signedAt p (k + 1 + 3 * i.val)) = some inputs[i]) : inputsAt p k inputs.length = some inputs := by
  induction inputs generalizing k with
  | nil => rfl
  | cons c cs ih =>
    have hfirst : comparatorOf (octetAt p k) (halfAt p (k + 1)) (signedAt p (k + 1)) = some c := h ⟨0, Nat.succ_pos _⟩
    have hrest : inputsAt p (k + 3) cs.length = some cs := ih fun i => by
      have hi := h ⟨i.val + 1, Nat.succ_lt_succ i.isLt⟩
      rw [show k + 3 + 3 * i.val = k + 3 * (i.val + 1) by omega,
        show k + 3 + 1 + 3 * i.val = k + 1 + 3 * (i.val + 1) by omega]
      exact hi
    rw [List.length_cons, inputsAt, hfirst, hrest]

theorem comparatorOf_unknown {code : Nat} (h : 7 < code) (param : Nat) (signed : Int) :
    comparatorOf code param signed = none := by
  obtain ⟨k, rfl⟩ := Nat.exists_eq_add_of_le' h
  rfl

theorem inputsAt_unknown {k count i : Nat} (hi : i < count) (h : 7 < octetAt p (k + 3 * i)) : inputsAt p k count = none := by
  induction count generalizing k i with
  | zero => cases hi
  | succ count ih =>
    cases i with
    | zero =>
      have hnone (param : Nat) (signed : Int) : comparatorOf (octetAt p k) param signed = none := comparatorOf_unknown h ..
      rw [inputsAt, hnone]
    | succ i =>
      have hnone : inputsAt p (k + 3) count = none :=
        ih (i := i) (Nat.lt_of_succ_lt_succ hi) (by rwa [show k + 3 + 3 * i = k + 3 * (i + 1) by omega])
      rw [inputsAt, hnone]
      split
      next h => cases h
      next => rfl

theorem parseCondition_of_known {sec : Sec} {inputs : List Comparator} (hsec : octetAt p 1 = number sec)
    (hall : octetAt p 2 ≤ 1) (hlatch : octetAt p 7 ≤ 1) (hacts : octetAt p 8 ≤ 7)
    (hinputs : inputsAt p 10 (octetAt p 9) = some inputs) : parseCondition p = some
      { sec, inputs, all := octetAt p 2 == 1, onset := halfAt p 3, release := halfAt p 5, latch := octetAt p 7 == 1
        notice := octetAt p 8 % 2 == 1, trip := octetAt p 8 / 2 % 2 == 1, capture := octetAt p 8 / 4 == 1 } := by
  rw [parseCondition, hsec, indexOf_number, switchCode_of_le hall, switchCode_of_le hlatch, hinputs]
  refine (if_neg (Nat.not_lt.mpr hacts)).trans ?_
  interval_cases octetAt p 8 <;> rfl

theorem parseCondition_of_unknown (h : octetAt p 1 = 0 ∨ 8 < octetAt p 1 ∨ 1 < octetAt p 2 ∨ 1 < octetAt p 7 ∨
    7 < octetAt p 8 ∨ (∃ i < octetAt p 9, 7 < octetAt p (10 + 3 * i))) : parseCondition p = none := by
  unfold parseCondition
  split
  next sec all latch inputs hsec hall hlatch hinputs =>
    rcases h with h | h | h | h | h | ⟨i, hi, h⟩
    · rw [indexOf_eq_none.mpr (.inl h)] at hsec
      cases hsec
    · rw [indexOf_eq_none.mpr (.inr h)] at hsec
      cases hsec
    · rw [switchCode_of_gt h] at hall
      cases hall
    · rw [switchCode_of_gt h] at hlatch
      cases hlatch
    · exact if_pos h
    · rw [inputsAt_unknown hi h] at hinputs
      cases hinputs
  next => rfl

/-- SET CONDITION, its length as the record's. -/
theorem setCondition_answered {t : State} {status : Status} {fields : List ReplyField} (hs : Ready s)
    (hsize : kindSize 0x08 p = some p.length) (h : setCondition p (hunting s) = ⟨hunting t, status, fields⟩) :
    exec (.setCondition p) s = .next (answered 0x08 status fields t) :=
  (exec_requestKind (kind := 0x08) (by decide) p s).trans
    (congrArg Host.Outcome.next (requestTaken_sized hs.reachable hsize (by simp [hs.halted_eq_false]) h))

/-- Settles O20: both requests shut the generator's gate through `generatorOff`. -/
theorem conditionRequestsReturnToOff : Obligations.ConditionRequestsReturnToOff := by
  intro g p s hs hn closed
  refine ⟨fun hsize => ⟨fun sec inputs hsec hall hlatch hacts hlen hinputs => ?_, fun h => ?_⟩,
    fun hp => ⟨fun hout => taken_when_ready hs hp ?_, fun hout => taken_when_ready hs hp ?_⟩⟩
  · intro c
    have hparse : parseCondition p = some c := parseCondition_of_known hsec hall hlatch hacts
      (hlen ▸ inputsAt_eq hinputs)
    refine setCondition_answered hs hsize ?_
    rw [setCondition_eq hn, hparse]
    dsimp only
    rw [generatorSet_gen, generatorSet_eq]
    rfl
  · refine setCondition_answered hs hsize ?_
    rw [setCondition_eq hn, parseCondition_of_unknown h]
    rfl
  · rw [ackCondition_eq hn]
    refine (if_pos hout).trans ?_
    rw [generatorOff_gen, generatorOff_eq]
    rfl
  · exact (ackCondition_eq hn _).trans (if_neg hout)

end Sys2Proof.Machine
end

section
/-!
The rules for the Vehicle Table's operations: one record replaced, the fault facts reported to a section, and a
withdrawal from an approach queue (R102, R106, R120).
-/

namespace Sys2Proof.Machine

variable {s t : State} {n m : Sec} {i : Slot} {v v' : Vehicle} {k : Sw}

/-! ### The fault facts of a section (R54, R56, R102) -/

/-- The facts of the section counted in, if any, have been reported: only sections and the arbiter may have moved, and of
the holds only those of that section. -/
def FactsTold (n : Option Sec) (s t : State) : Prop :=
  ∃ secs arb, t = { s with secs, arb } ∧ (n = none → secs = s.secs ∧ arb = s.arb) ∧ ∀ m : Sec,
    secs[m].settings = s.secs[m].settings ∧
    secs[m].holds = if n = some m then s.factHolds m s.secs[m] else s.secs[m].holds

theorem Section.entered_testWait_holds (halted : Bool) (r : Section) : (r.entered halted .testWait).holds = r.holds := by
  simp [Section.entered, Section.withLines, SecState.openLike]

theorem Section.granted_holds (halted : Bool) (r : Section) : (r.granted halted).holds = r.holds := by
  simp [Section.granted, Section.entered, Section.withLines, SecState.openLike]

/-- A change of one section's holds moves sections and the arbiter at most, and of the holds only that section's. -/
theorem setHolds_told (n : Sec) (f : Holds → Holds) (s : State) : ∃ secs arb, setHolds n f s = { s with secs, arb } ∧
    ∀ m : Sec, secs[m].settings = s.secs[m].settings ∧
      secs[m].holds = if n = m then f s.secs[m].holds else s.secs[m].holds := by
  let r : Section := { s.secs[n] with holds := f s.secs[n].holds }
  have hset : setHolds n f s = holdsChanged n (s.withSec n r) := rfl
  have hchanged (m : Sec) : (s.secs.set n r)[m].settings = s.secs[m].settings ∧
      (s.secs.set n r)[m].holds = if n = m then f s.secs[m].holds else s.secs[m].holds := by
    by_cases hm : m = n
    · subst hm
      rw [show (s.secs.set m r)[m] = r from Vector.getElem_set_self .., if_pos rfl]
      exact ⟨rfl, rfl⟩
    · rw [show (s.secs.set n r)[m] = s.secs[m] from s.put_other r s.notices hm, if_neg fun h => hm h.symm]
      exact ⟨rfl, rfl⟩
  rw [hset, holdsChanged]
  split
  · obtain ⟨secs, arb, hjoin, hgranted⟩ := joinTestList_granted n (enter n .testWait (s.withSec n r))
    rw [enterTestWait, hjoin]
    refine ⟨secs, arb, rfl, fun m => ?_⟩
    have hentered : (enter n .testWait (s.withSec n r)).secs[m].settings = (s.secs.set n r)[m].settings ∧
        (enter n .testWait (s.withSec n r)).secs[m].holds = (s.secs.set n r)[m].holds := by
      rw [enter_withSec]
      by_cases hm : m = n
      · subst hm
        rw [State.withSec_sec, show (s.secs.set m r)[m] = r from Vector.getElem_set_self ..]
        exact ⟨rfl, Section.entered_testWait_holds _ r⟩
      · rw [show (s.withSec n _).secs[m] = s.secs[m] from s.put_other _ s.notices hm,
          show (s.secs.set n r)[m] = s.secs[m] from s.put_other r s.notices hm]
        exact ⟨rfl, rfl⟩
    rcases hgranted m with h | ⟨-, -, h⟩
    · rw [h, hentered.1, hentered.2]
      exact hchanged m
    · rw [h]
      exact ⟨hentered.1.trans (hchanged m).1, (Section.granted_holds ..).trans (hentered.2.trans (hchanged m).2)⟩
  · exact ⟨_, _, rfl, hchanged⟩

theorem reportFacts_told (n : Sec) (s : State) : FactsTold (some n) s (reportFacts n s) := by
  obtain ⟨secs, arb, heq, hsecs⟩ := setHolds_told n (fun h =>
    { h with leak := decide (0 < s.leaking n) && s.secs[n].settings.leakHold, dewired := decide (0 < s.dewired n) }) s
  refine ⟨secs, arb, heq, nofun, fun m => ⟨(hsecs m).1, ?_⟩⟩
  rw [(hsecs m).2]
  by_cases hm : n = m
  · subst hm
    rw [if_pos rfl, if_pos rfl]
    rfl
  · rw [if_neg hm, if_neg fun h => hm (Option.some.inj h)]

theorem reportFactsOf_told (n : Option Sec) (s : State) : FactsTold n s (reportFactsOf n s) := by
  cases n with
  | none => exact ⟨_, _, rfl, fun _ => ⟨rfl, rfl⟩, fun m => ⟨rfl, rfl⟩⟩
  | some n => exact reportFacts_told n s

/-! ### One record of the table -/

/-- The table with the record of slot `i` replaced. -/
def VehicleTable.put (t : VehicleTable) (i : Slot) (v : Vehicle) : VehicleTable :=
  { t with slots := t.slots.set i (some v) }

/-- The state with the record of slot `i` replaced. -/
def State.putVehicle (s : State) (i : Slot) (v : Vehicle) : State := { s with vt := s.vt.put i v }

@[simp] theorem State.putVehicle_slot (s : State) (i : Slot) (v : Vehicle) : (s.putVehicle i v).vt.slots[i] = some v :=
  Vector.getElem_set_self ..

theorem State.putVehicle_put (s : State) (i : Slot) (v v' : Vehicle) : (s.putVehicle i v).putVehicle i v' = s.putVehicle i v' :=
  congrArg (fun slots => { s with vt := { s.vt with slots } }) (Vector.set_set ..)

theorem State.putVehicle_self (hv : s.vt.slots[i] = some v) : s.putVehicle i v = s := by
  have hslots : s.vt.slots.set i (some v) = s.vt.slots := by
    rw [← hv]
    exact Vector.set_getElem_self ..
  exact congrArg (fun slots => { s with vt := { s.vt with slots } }) hslots

theorem modSlot_eq (hv : s.vt.slots[i] = some v) (f : Vehicle → Vehicle) : s.modSlot i f = s.putVehicle i (f v) := by
  have hslots : updateAt s.vt.slots i (Option.map f) = s.vt.slots.set i (some (f v)) := by
    unfold updateAt
    rw [hv]
    rfl
  exact congrArg (fun slots => { s with vt := { s.vt with slots } }) hslots

theorem TableOk.putVehicle (ht : TableOk s) (hv : s.vt.slots[i] = some v) (hnum : v'.number = v.number) :
    TableOk (s.putVehicle i v') := by
  have hfrom (j : Slot) (w : Vehicle) (hw : (s.putVehicle i v').vt.slots[j] = some w) :
      ∃ w₀, s.vt.slots[j] = some w₀ ∧ w₀.number = w.number := by
    by_cases hj : j = i
    · subst hj
      rw [State.putVehicle_slot] at hw
      obtain rfl := Option.some.inj hw
      exact ⟨v, hv, hnum.symm⟩
    · have hsame : (s.putVehicle i v').vt.slots[j] = s.vt.slots[j] :=
        Vector.getElem_set_ne i.isLt j.isLt fun h => hj (Fin.ext h.symm)
      exact ⟨w, hsame.symm.trans hw, rfl⟩
  obtain ⟨hunique, hrange⟩ := ht
  refine ⟨fun j j' w w' hw hw' hnumber => ?_, fun j w hw => ?_⟩
  · obtain ⟨w₀, hw₀, h⟩ := hfrom j w hw
    obtain ⟨w₀', hw₀', h'⟩ := hfrom j' w' hw'
    exact hunique j j' w₀ w₀' hw₀ hw₀' (h.trans (hnumber.trans h'.symm))
  · obtain ⟨w₀, hw₀, h⟩ := hfrom j w hw
    rw [← h]
    exact hrange j w₀ hw₀

theorem modVehicle_eq (ht : TableOk s) (hv : s.vt.slots[i] = some v) (f : Vehicle → Vehicle) :
    s.modVehicle v.number f = s.putVehicle i (f v) := by
  rw [State.modVehicle, findVehicle_of_slot ht hv]
  exact modSlot_eq hv f

/-! ### What a switch point's events do beside the switch points' own records -/

/-- The record's number, section and faults. -/
def Vehicle.Alike (v v' : Vehicle) : Prop :=
  v'.number = v.number ∧ v'.sec = v.sec ∧ v'.leak = v.leak ∧ v'.dewired = v.dewired

/-- An event about vehicle `num`, which has a record: switch points, notices, and the record's standing. -/
def VehicleMoved (num : Nat) (s t : State) : Prop :=
  ∀ (i : Slot) (v : Vehicle), TableOk s → s.vt.slots[i] = some v → v.number = num →
    ∃ v' sws notices, v.Alike v' ∧ t = { s.putVehicle i v' with sws, notices }

section
variable {num : Nat}

theorem VehicleMoved.of_switches {sws : Vector SwitchPoint 16} {notices : NoticeQueue} :
    VehicleMoved num s { s with sws, notices } := by
  intro i v _ hv _
  refine ⟨v, sws, notices, ⟨rfl, rfl, rfl, rfl⟩, ?_⟩
  rw [State.putVehicle_self hv]

theorem VehicleMoved.refl : VehicleMoved num s s := VehicleMoved.of_switches (sws := s.sws) (notices := s.notices)

theorem VehicleMoved.trans {u : State} (h : VehicleMoved num s t) (h' : VehicleMoved num t u) : VehicleMoved num s u := by
  intro i v ht hv hnum
  obtain ⟨v₁, sws₁, notices₁, hsame₁, rfl⟩ := h i v ht hv hnum
  obtain ⟨hnum₁, hsec₁, hleak₁, hdewired₁⟩ := hsame₁
  obtain ⟨v₂, sws₂, notices₂, hsame₂, rfl⟩ := h' i v₁ (TableOk.putVehicle ht hv hnum₁) (s.putVehicle_slot i v₁) (hnum₁.trans hnum)
  obtain ⟨hnum₂, hsec₂, hleak₂, hdewired₂⟩ := hsame₂
  exact ⟨v₂, sws₂, notices₂, ⟨hnum₂.trans hnum₁, hsec₂.trans hsec₁, hleak₂.trans hleak₁, hdewired₂.trans hdewired₁⟩,
    congrArg (fun u : State => { u with sws := sws₂, notices := notices₂ }) (s.putVehicle_put i v₁ v₂)⟩

theorem VehicleMoved.modVehicle (f : Vehicle → Vehicle) (hf : ∀ v : Vehicle, v.Alike (f v)) :
    VehicleMoved num s (s.modVehicle num f) := by
  intro i v ht hv hnum
  subst hnum
  exact ⟨f v, s.sws, s.notices, hf v, modVehicle_eq ht hv f⟩

theorem pinnedMismatch_notices (k : Sw) (before : Option QueueEntry) (pin : Bool) (s : State) :
    ∃ notices, pinnedMismatch k before pin s = { s with notices } := by
  unfold pinnedMismatch
  dsimp only
  split
  · exact ⟨_, rfl⟩
  · split
    · exact ⟨_, rfl⟩
    · exact ⟨_, rfl⟩

theorem VehicleMoved.swEvent {pin : Bool} {f : State → State} (h : VehicleMoved num s (f s)) :
    VehicleMoved num s (swEvent k pin f s) := by
  refine h.trans ?_
  obtain ⟨notices, heq⟩ := pinnedMismatch_notices k s.sws[k].queue.head? pin
    ((f s).modSw k (SwitchPoint.serve (f s).halted))
  rw [show Machine.swEvent k pin f s = _ from heq]
  exact .of_switches

theorem swApproach_moved (k : Sw) (num : Nat) (route : Route) (s : State) : VehicleMoved num s (swApproach k num route s) := by
  refine .swEvent ?_
  dsimp only
  split
  · exact .of_switches
  · split
    · exact .of_switches
    · exact .trans .of_switches (.modVehicle _ fun v => ⟨rfl, rfl, rfl, rfl⟩)

theorem vehicleRemoved_moved (num : Nat) (s : State) : VehicleMoved num s (vehicleRemoved num s) := by
  intro i v ht hv hnum
  subst hnum
  have hclear : VehicleMoved v.number s (s.putVehicle i { v with queue := none, occupied := none }) := by
    rw [← modVehicle_eq (f := fun v => { v with queue := none, occupied := none }) ht hv]
    exact .modVehicle _ fun v => ⟨rfl, rfl, rfl, rfl⟩
  refine VehicleMoved.trans (t := s.putVehicle i { v with queue := none, occupied := none }) hclear ?_ i v ht hv rfl
  unfold vehicleRemoved
  rw [findVehicle_of_slot ht hv]
  dsimp only
  rw [modSlot_eq hv]
  split
  · exact .refl
  · exact (swApproach_moved _ _ _ _).trans (.modVehicle _ fun v => ⟨rfl, rfl, rfl, rfl⟩)

theorem swWithdraw_moved (k : Sw) (num : Nat) (s : State) : VehicleMoved num s (swWithdraw k num s) := by
  refine .swEvent ?_
  split
  · exact .trans .of_switches (vehicleRemoved_moved _ _)
  · exact .refl

theorem withdrawVehicle_moved (v : Vehicle) (s : State) : VehicleMoved v.number s (withdrawVehicle v s) := by
  unfold withdrawVehicle
  split
  · exact .refl
  · split
    · exact .refl
    · exact swWithdraw_moved _ _ s

end

/-! ### A withdrawal with no approach deferred (R120) -/

theorem vehicleRemoved_eq (ht : TableOk s) (hv : s.vt.slots[i] = some v) (hd : v.deferred = none) :
    vehicleRemoved v.number s = s.putVehicle i { v with queue := none, occupied := none } := by
  rw [vehicleRemoved, findVehicle_of_slot ht hv]
  dsimp only
  rw [modSlot_eq hv, hv]
  rw [show (some v).bind (·.deferred) = none from hd]

/-- The record of a switch point once number `num` has been withdrawn. -/
def SwitchPoint.without (num : Nat) (w : SwitchPoint) : SwitchPoint :=
  { w with queue := w.queue.filter fun e => e.number ≠ num }

theorem SwitchPoint.serve_kept (halted : Bool) (w : SwitchPoint) :
    (w.serve halted).queue = w.queue ∧ (w.serve halted).lock = w.lock ∧ (w.serve halted).occupant = w.occupant := by
  unfold SwitchPoint.serve
  split
  · exact ⟨rfl, rfl, rfl⟩
  · split
    · exact ⟨rfl, rfl, rfl⟩
    · exact ⟨rfl, rfl, rfl⟩

theorem pinnedMismatch_of_unpinned (h : s.sws[k].lock ≠ .pinned) (before : Option QueueEntry) (pin : Bool) :
    pinnedMismatch k before pin s = s := by
  unfold pinnedMismatch
  dsimp only
  split
  · rfl
  · refine if_neg fun hgo => h ?_
    simp only [Bool.and_eq_true, decide_eq_true_eq] at hgo
    exact hgo.1.1

/-- The record once it stands in no queue. -/
def Vehicle.unqueued (v : Vehicle) : Vehicle := { v with queue := none, occupied := none }

/-- Switch point `k`'s part in a withdrawal of number `num`. -/
def SwitchPoint.withdrawn (num : Nat) (w : SwitchPoint) : SwitchPoint := if w.yields num then w.without num else w

theorem swWithdraw_eq (ht : TableOk s) (hv : s.vt.slots[i] = some v) (hd : v.deferred = none) (k : Sw) :
    ∃ notices, swWithdraw k v.number s =
      { s.putVehicle i (if s.sws[k].yields v.number then v.unqueued else v) with
        sws := s.sws.set k ((s.sws[k].withdrawn v.number).serve s.halted), notices } ∧
      (s.sws[k].lock ≠ .pinned → notices = s.notices) := by
  have hremove (w : SwitchPoint) : { w with queue := w.queue.filter fun e => e.number != v.number } = w.without v.number := by
    have hfilter : (fun e : QueueEntry => e.number != v.number) = fun e => decide (e.number ≠ v.number) := by
      funext e
      rw [Bool.eq_iff_iff]
      simp
    rw [hfilter]
    rfl
  have hbody : (if s.sws[k].yields v.number then dropEntry k v.number s else s) =
      { s.putVehicle i (if s.sws[k].yields v.number then v.unqueued else v) with
        sws := s.sws.set k (s.sws[k].withdrawn v.number) } := by
    unfold SwitchPoint.withdrawn
    split
    · rw [dropEntry, vehicleRemoved_eq (s := s.modSw k _) ht hv hd, ← hremove]
      rfl
    · have hself : s.sws.set k s.sws[k] = s.sws := Vector.set_getElem_self ..
      rw [State.putVehicle_self hv]
      exact congrArg (fun sws => { s with sws }) hself.symm
  have hevent : swWithdraw k v.number s = pinnedMismatch k s.sws[k].queue.head? false
      { s.putVehicle i (if s.sws[k].yields v.number then v.unqueued else v) with
        sws := s.sws.set k ((s.sws[k].withdrawn v.number).serve s.halted) } := by
    rw [swWithdraw, swEvent]
    dsimp only
    rw [hbody]
    have hset : (s.sws.set k (s.sws[k].withdrawn v.number)).set k
        ((s.sws.set k (s.sws[k].withdrawn v.number))[k].serve s.halted) =
        s.sws.set k ((s.sws[k].withdrawn v.number).serve s.halted) := by
      rw [Vector.set_set, show (s.sws.set k (s.sws[k].withdrawn v.number))[k] = _ from Vector.getElem_set_self ..]
    exact congrArg (fun sws => pinnedMismatch k s.sws[k].queue.head? false
      { s.putVehicle i (if s.sws[k].yields v.number then v.unqueued else v) with sws }) hset
  rw [hevent]
  by_cases hlock : s.sws[k].lock = .pinned
  · obtain ⟨notices, heq⟩ := pinnedMismatch_notices k s.sws[k].queue.head? false
      { s.putVehicle i (if s.sws[k].yields v.number then v.unqueued else v) with
        sws := s.sws.set k ((s.sws[k].withdrawn v.number).serve s.halted) }
    exact ⟨notices, heq, absurd hlock⟩
  · refine ⟨s.notices, pinnedMismatch_of_unpinned ?_ _ _, fun _ => rfl⟩
    change (s.sws.set k ((s.sws[k].withdrawn v.number).serve s.halted))[k].lock ≠ .pinned
    rw [show (s.sws.set k ((s.sws[k].withdrawn v.number).serve s.halted))[k] = _ from Vector.getElem_set_self ..,
      (SwitchPoint.serve_kept ..).2.1]
    unfold SwitchPoint.withdrawn
    split <;> exact hlock

end Sys2Proof.Machine
end

section
/-!
The host's vehicle requests (R110, R114, R115), and the lost and forget timers (R111, R112).
-/

namespace Sys2Proof.Machine

variable {s : State} {i : Slot} {v v₁ : Vehicle} {p : List Byte}

theorem setVehicleTiming_eq (p : List Byte) (s : State) : setVehicleTiming p s =
    let lost := max 1000 (min (wideAt p 0) 3600000)
    let forget := max lost (min (wideAt p 4) 86400000)
    ⟨{ s with vt := { s.vt with lostTime := lost, forgetTime := forget } }, .ok, [.nat 4 lost, .nat 4 forget]⟩ := by
  rw [setVehicleTiming, clamp_eq, clamp_eq]
  rfl

/-! ### REMOVE VEHICLE (R114) -/

theorem State.freedVehicle_slots (s : State) (i : Slot) (v : Vehicle) :
    ({ (s.putVehicle i v).vt with slots := (s.putVehicle i v).vt.slots.set i none, fullArmed := true } : VehicleTable) =
      { s.vt with slots := s.vt.slots.set i none, fullArmed := true } :=
  congrArg (fun slots => { s.vt with slots, fullArmed := true }) (Vector.set_set ..)

/-- The table once slot `i` is free. -/
def VehicleTable.freed (t : VehicleTable) (i : Slot) : VehicleTable :=
  { t with slots := t.slots.set i none, fullArmed := true }

/-- What freeing a record leaves as it is: all but the table, the switch points, the notices, and the sections and the
arbiter where a fault is withdrawn. -/
def VehicleFreed (i : Slot) (faulty : Bool) (s t : State) : Prop :=
  ∃ secs arb sws notices, t = { s with secs, arb, sws, notices, vt := s.vt.freed i } ∧
    (faulty = false → secs = s.secs ∧ arb = s.arb)

theorem reportFactsOf_freed {n : Option Sec} {faulty : Bool} {sws : Vector SwitchPoint 16} {notices : NoticeQueue} :
    ∃ secs arb, (if faulty then reportFactsOf n { s with sws, notices, vt := s.vt.freed i }
      else { s with sws, notices, vt := s.vt.freed i }) = { s with secs, arb, sws, notices, vt := s.vt.freed i } ∧
      (faulty = false → secs = s.secs ∧ arb = s.arb) := by
  cases faulty with
  | false => exact ⟨s.secs, s.arb, rfl, fun _ => ⟨rfl, rfl⟩⟩
  | true =>
    obtain ⟨secs, arb, htold, -, -⟩ := reportFactsOf_told n { s with sws, notices, vt := s.vt.freed i }
    exact ⟨secs, arb, htold, nofun⟩

theorem freeVehicle_eq (hv : s.vt.slots[i] = some v) : freeVehicle i s =
    let t := withdrawVehicle v (s.putVehicle i { v with deferred := none })
    let u := { t with vt := t.vt.freed i }
    if v.leak || v.dewired then reportFactsOf v.sec u else u := by
  rw [freeVehicle, hv]
  dsimp only
  rw [modSlot_eq hv]
  rfl

theorem freeVehicle_freed (ht : TableOk s) (hv : s.vt.slots[i] = some v) :
    VehicleFreed i (v.leak || v.dewired) s (freeVehicle i s) := by
  obtain ⟨v', sws, notices, -, hmoved⟩ := withdrawVehicle_moved { v with deferred := none }
    (s.putVehicle i { v with deferred := none }) i { v with deferred := none } (ht.putVehicle hv rfl)
    (s.putVehicle_slot i _) rfl
  have hwithdraw : withdrawVehicle v (s.putVehicle i { v with deferred := none }) =
      { (s.putVehicle i { v with deferred := none }).putVehicle i v' with sws, notices } := hmoved
  rw [State.putVehicle_put] at hwithdraw
  rw [freeVehicle_eq hv, hwithdraw]
  dsimp only
  have hfreed : (s.putVehicle i v').vt.freed i = s.vt.freed i := s.freedVehicle_slots i v'
  obtain ⟨secs, arb, hfree, hsame⟩ := reportFactsOf_freed (s := s) (i := i) (n := v.sec) (faulty := v.leak || v.dewired)
    (sws := sws) (notices := notices)
  rw [hfreed]
  exact ⟨secs, arb, sws, notices, hfree, hsame⟩

theorem freeVehicle_switches (hv : s.vt.slots[i] = some v) :
    (freeVehicle i s).sws = (withdrawVehicle v (s.putVehicle i { v with deferred := none })).sws ∧
    (freeVehicle i s).notices = (withdrawVehicle v (s.putVehicle i { v with deferred := none })).notices := by
  rw [freeVehicle_eq hv]
  dsimp only
  split
  · obtain ⟨secs, arb, htold, -, -⟩ := reportFactsOf_told v.sec
      { withdrawVehicle v (s.putVehicle i { v with deferred := none }) with
        vt := (withdrawVehicle v (s.putVehicle i { v with deferred := none })).vt.freed i }
    rw [htold]
    exact ⟨rfl, rfl⟩
  · exact ⟨rfl, rfl⟩

theorem SwitchPoint.withdrawn_queue {num : Nat} {w : SwitchPoint} (ho : w.occupant ≠ some num) :
    (w.withdrawn num).queue = w.queue.filter fun e => e.number ≠ num := by
  unfold SwitchPoint.withdrawn
  split
  · rfl
  next hy =>
    have hnone : ¬ w.holds num = true := fun h => hy (by rw [SwitchPoint.yields, h, decide_eq_true ho]; rfl)
    refine (List.filter_eq_self.mpr fun e he => ?_).symm
    rw [decide_eq_true_eq]
    intro hnum
    refine hnone (List.any_eq_true.mpr ⟨e, he, beq_iff_eq.mpr hnum⟩)

theorem freeVehicle_queues (ht : TableOk s) (hv : s.vt.slots[i] = some v) (ho : v.occupied = none) :
    (∀ k : Sw, v.queue ≠ some k → (freeVehicle i s).sws[k] = s.sws[k]) ∧
    (∀ k : Sw, v.queue = some k → s.sws[k].occupant ≠ some v.number →
      (freeVehicle i s).sws[k].queue = s.sws[k].queue.filter fun e => e.number ≠ v.number) ∧
    (v.queue = none → (freeVehicle i s).sws = s.sws ∧ (freeVehicle i s).notices = s.notices) := by
  obtain ⟨hsws, hnotices⟩ := freeVehicle_switches hv
  rw [hsws, hnotices]
  obtain hq | ⟨k, hq⟩ := Option.eq_none_or_eq_some v.queue
  · have hwithdraw : withdrawVehicle v (s.putVehicle i { v with deferred := none }) =
        s.putVehicle i { v with deferred := none } := by rw [withdrawVehicle, hq]
    rw [hwithdraw]
    exact ⟨fun k _ => rfl, fun k h => (nomatch hq.symm.trans h), fun _ => ⟨rfl, rfl⟩⟩
  · have hwithdraw : withdrawVehicle v (s.putVehicle i { v with deferred := none }) =
        swWithdraw k v.number (s.putVehicle i { v with deferred := none }) := by
      rw [withdrawVehicle, hq, ho]
      rfl
    obtain ⟨notices, heq, -⟩ := swWithdraw_eq (s := s.putVehicle i { v with deferred := none }) (v := { v with deferred := none })
      (ht.putVehicle hv rfl) (s.putVehicle_slot i _) rfl k
    rw [hwithdraw, show swWithdraw k v.number _ = _ from heq]
    refine ⟨fun k' hk' => ?_, fun k' hk' hocc => ?_, fun h => (nomatch hq.symm.trans h)⟩
    · exact Vector.getElem_set_ne k.isLt k'.isLt fun h => hk' (hq.trans (congrArg some (Fin.ext h)))
    · obtain rfl := Option.some.inj (hq.symm.trans hk')
      have hget (w : SwitchPoint) : (s.sws.set k w)[k] = w := Vector.getElem_set_self ..
      exact (congrArg SwitchPoint.queue (hget _)).trans
        ((SwitchPoint.serve_kept ..).1.trans (SwitchPoint.withdrawn_queue hocc))

theorem removeVehicle_eq (ht : TableOk s) (hv : s.vt.slots[i] = some v) (hp : halfAt p 0 = v.number) :
    removeVehicle p s = if v.occupied.isSome then refuseState s [.nat 2 (halfAt p 0), fieldNo 0]
      else accept (freeVehicle i s) [.nat 2 v.number, fieldNo (number i)] :=
  (namingVehicle_found ht hv hp : namingVehicle p _ (fun i v s => if v.occupied.isSome then
    refuseState s [.nat 2 (halfAt p 0), fieldNo 0] else accept (freeVehicle i s) [.nat 2 v.number, fieldNo (number i)]) s = _)

/-! ### CLEAR FAULT (R115) -/

/-- The notices with one more fault of the record cleared by the host. -/
def NoticeQueue.faultCleared (q : NoticeQueue) (time : ClockValue) (v : Vehicle) (fault : Half) : NoticeQueue :=
  q.take time .vehicleFaultCleared 2 (.vehicle v.number) [fault, 2, word (numberOr0 v.sec)]

theorem clearedByHost_told (hv : s.vt.slots[i] = some v₁) (v : Vehicle) (fault : Half) (f : Vehicle → Vehicle) :
    FactsTold v.sec { s.putVehicle i (f v₁) with notices := s.notices.faultCleared s.clock v fault }
      (clearedByHost v fault (s.modSlot i f)) := by
  rw [clearedByHost, modSlot_eq hv]
  exact reportFactsOf_told ..

/-- One fault of the record, cleared or not. -/
theorem clearedByHost_step (hv : s.vt.slots[i] = some v₁) (v : Vehicle) (fault : Half) (b : Bool) {f : Vehicle → Vehicle}
    {v₂ : Vehicle} (hf : (if b then f v₁ else v₁) = v₂) :
    ∃ secs arb, (if b then clearedByHost v fault (s.modSlot i f) else s) =
      { s.putVehicle i v₂ with
        secs, arb, notices := if b then s.notices.faultCleared s.clock v fault else s.notices } ∧
      (v.sec = none ∨ b = false → secs = s.secs ∧ arb = s.arb) ∧ ∀ m : Sec, secs[m].settings = s.secs[m].settings ∧
        (b = true → v.sec = some m →
          secs[m].holds.leak = (decide (0 < (s.putVehicle i v₂).leaking m) && s.secs[m].settings.leakHold) ∧
          secs[m].holds.dewired = decide (0 < (s.putVehicle i v₂).dewired m)) := by
  subst hf
  cases b with
  | false =>
    refine ⟨s.secs, s.arb, ?_, fun _ => ⟨rfl, rfl⟩, fun m => ⟨rfl, nofun⟩⟩
    exact (State.putVehicle_self hv).symm
  | true =>
    obtain ⟨secs, arb, heq, hsame, hfacts⟩ := clearedByHost_told hv v fault f
    refine ⟨secs, arb, heq, fun h => hsame (h.resolve_right nofun), fun m => ⟨(hfacts m).1, fun _ hsec => ?_⟩⟩
    rw [(hfacts m).2, if_pos hsec]
    exact ⟨rfl, rfl⟩

/-- LEAK is cleared where `b`, then DEWIRED where `b'`. -/
def clearFaults (i : Slot) (v : Vehicle) (b b' : Bool) (s : State) : State :=
  let s := if b then clearedByHost v 0 (s.modSlot i fun v => { v with leak := false }) else s
  if b' then clearedByHost v 1 (s.modSlot i fun v => { v with dewired := false }) else s

theorem clearFault_eq (ht : TableOk s) (hv : s.vt.slots[i] = some v) (hp : halfAt p 0 = v.number) (hlo : 1 ≤ octetAt p 2)
    (hhi : octetAt p 2 ≤ 3) :
    let b := v.leak && octetAt p 2 % 2 == 1
    let b' := v.dewired && 2 ≤ octetAt p 2
    clearFault p s = accept (clearFaults i v b b' s) [.nat 2 v.number, fieldVal (faultWord (v.leak && !b) (v.dewired && !b'))] := by
  rw [clearFault, if_neg (by omega)]
  exact namingVehicle_found ht hv hp

/-- The record without the faults that are cleared. -/
def Vehicle.cured (b b' : Bool) (v : Vehicle) : Vehicle := { v with leak := v.leak && !b, dewired := v.dewired && !b' }

theorem clearFaults_eq (hv : s.vt.slots[i] = some v) (b b' : Bool) :
    let q := if b then s.notices.faultCleared s.clock v 0 else s.notices
    ∃ secs arb, clearFaults i v b b' s =
        { s.putVehicle i (v.cured b b') with secs, arb, notices := if b' then q.faultCleared s.clock v 1 else q } ∧
      (v.sec = none ∨ b = false ∧ b' = false → secs = s.secs ∧ arb = s.arb) ∧
      ∀ m : Sec, v.sec = some m → b = true ∨ b' = true →
        secs[m].holds.leak = (decide (0 < (s.putVehicle i (v.cured b b')).leaking m) && s.secs[m].settings.leakHold) ∧
        secs[m].holds.dewired = decide (0 < (s.putVehicle i (v.cured b b')).dewired m) := by
  intro q
  have hleak : (if b then ({ v with leak := false } : Vehicle) else v) = v.cured b false := by
    cases b <;> simp [Vehicle.cured]
  have hdewired : (if b' then ({ v.cured b false with dewired := false } : Vehicle) else v.cured b false) = v.cured b b' := by
    cases b' <;> simp [Vehicle.cured]
  obtain ⟨secs₁, arb₁, h₁, hsame₁, hfacts₁⟩ := clearedByHost_step hv v 0 b (f := fun v => { v with leak := false }) hleak
  let s₁ : State := { s.putVehicle i (v.cured b false) with secs := secs₁, arb := arb₁, notices := q }
  obtain ⟨secs₂, arb₂, h₂, hsame₂, hfacts₂⟩ := clearedByHost_step (s := s₁) (s.putVehicle_slot i _) v 1 b'
    (f := fun v => { v with dewired := false }) hdewired
  have hput : (s.putVehicle i (v.cured b false)).putVehicle i (v.cured b b') = s.putVehicle i (v.cured b b') :=
    s.putVehicle_put i _ _
  refine ⟨secs₂, arb₂, ?_, fun h => ?_, fun m hsec hcleared => ?_⟩
  · unfold clearFaults
    dsimp only
    rw [h₁]
    refine h₂.trans ?_
    rw [← hput]
    rfl
  · obtain ⟨hs₂, ha₂⟩ := hsame₂ (h.imp_right And.right)
    obtain ⟨hs₁, ha₁⟩ := hsame₁ (h.imp_right And.left)
    exact ⟨hs₂.trans hs₁, ha₂.trans ha₁⟩
  · rw [← hput]
    cases b' with
    | true =>
      obtain ⟨hleak, hdewired⟩ := (hfacts₂ m).2 rfl hsec
      rw [show s₁.secs[m].settings = s.secs[m].settings from (hfacts₁ m).1] at hleak
      exact ⟨hleak, hdewired⟩
    | false =>
      have hb : b = true := hcleared.resolve_right nofun
      obtain ⟨rfl, -⟩ := hsame₂ (.inr rfl)
      rw [hput]
      exact (hfacts₁ m).2 hb hsec

/-- Settles O37: a freed record is only withdrawn, and each fault cleared is one step on the record. -/
theorem vehicleRequestsEditTheTable : Obligations.VehicleRequestsEditTheTable := by
  intro s hs
  refine ⟨fun p hp => taken_when_ready hs hp (setVehicleTiming_eq p _), fun p i v ht hv hp hnum => ⟨fun ho => ?_, fun ho => ?_⟩,
    fun p i v ht hv hp hnum hlo hhi => ?_⟩
  · refine taken_when_ready hs hp ((removeVehicle_eq (s := hunting s) ht hv hnum).trans ((if_pos ho).trans ?_))
    rw [hnum]
    rfl
  · obtain ⟨secs, arb, sws, notices, hfree, hsecs⟩ := freeVehicle_freed (s := hunting s) ht hv
    obtain ⟨hother, hqueue, hstays⟩ := freeVehicle_queues (s := hunting s) ht hv ho
    rw [hfree] at hother hqueue hstays
    refine ⟨{ s with secs, arb, sws, notices, vt := s.vt.freed i }, taken_when_ready hs hp ?_, rfl, hother, hqueue,
      fun hq => (hstays hq).2, fun hl hd => hsecs (by rw [hl, hd]; rfl), rfl, rfl, rfl, rfl, rfl, rfl, rfl, rfl, rfl, rfl⟩
    refine (removeVehicle_eq (s := hunting s) ht hv hnum).trans ((if_neg (by rw [ho]; nofun)).trans ?_)
    rw [hfree]
    rfl
  · intro leak dewired cleared q
    generalize hb : (v.leak && octetAt p 2 % 2 == 1) = b
    generalize hb' : (v.dewired && decide (2 ≤ octetAt p 2)) = b'
    obtain ⟨secs, arb, hclear, hsame, hfacts⟩ := clearFaults_eq (s := hunting s) hv b b'
    have hodd : (octetAt p 2 % 2 == 1) = !(octetAt p 2 % 2 == 0) := by
      rcases Nat.mod_two_eq_zero_or_one (octetAt p 2) with h | h <;> rw [h] <;> rfl
    have hsel : decide (2 ≤ octetAt p 2) = !decide (octetAt p 2 < 2) := by
      rcases Nat.lt_or_ge (octetAt p 2) 2 with h | h
      · rw [decide_eq_false (Nat.not_le.mpr h), decide_eq_true h]
        rfl
      · rw [decide_eq_true h, decide_eq_false (Nat.not_lt.mpr h)]
        rfl
    have hleak : (v.leak && !b) = leak := by
      rw [← hb, hodd]
      cases hl : v.leak <;> simp [leak, hl]
    have hdewired : (v.dewired && !b') = dewired := by
      rw [← hb', hsel]
      cases hd : v.dewired <;> simp [dewired, hd]
    have hkept : leak = v.leak ↔ b = false := by
      rw [← hleak, ← hb]
      cases v.leak <;> simp
    have hkept' : dewired = v.dewired ↔ b' = false := by
      rw [← hdewired, ← hb']
      cases v.dewired <;> simp
    have hcured : v.cured b b' = { v with leak, dewired } := by rw [Vehicle.cured, hleak, hdewired]
    rw [hcured] at hclear hfacts
    refine ⟨{ s.putVehicle i { v with leak, dewired } with
        secs, arb, notices := if b' then (if b then s.notices.faultCleared s.clock v 0 else s.notices).faultCleared s.clock v 1
          else (if b then s.notices.faultCleared s.clock v 0 else s.notices) },
      taken_when_ready hs hp ?_, rfl, ?_, fun h => hsame (h.imp_right fun ⟨h, h'⟩ => ⟨hkept.mp h, hkept'.mp h'⟩),
      fun n hsec h => hfacts n hsec (h.imp (fun h => Bool.eq_true_of_not_eq_false (mt hkept.mpr h)) fun h =>
        Bool.eq_true_of_not_eq_false (mt hkept'.mpr h)),
      rfl, rfl, rfl, rfl, rfl, rfl, rfl, rfl, rfl, rfl, rfl⟩
    · refine (clearFault_eq (s := hunting s) ht hv hnum hlo hhi).trans ?_
      rw [hb, hb', hclear, hleak, hdewired]
      rfl
    · have hq : q = if b then s.notices.faultCleared s.clock v 0 else s.notices := by
        cases b with
        | false => exact if_pos (hkept.mpr rfl)
        | true => exact if_neg fun h => nomatch hkept.mp h
      rw [← hq]
      cases b' with
      | false => exact (if_pos (hkept'.mpr rfl)).symm
      | true => exact (if_neg fun h => nomatch hkept'.mp h).symm

end Sys2Proof.Machine
end

section
/-!
The lost and forget timers (R111, R112).
-/

namespace Sys2Proof.Machine

variable {s : State} {i : Slot} {v v₁ : Vehicle}

/-- The notices with VEHICLE LOST for the record. -/
def State.lostNoticed (s : State) (v : Vehicle) : NoticeQueue :=
  s.noticed .vehicleLost 3 (.vehicle v.number) [word (numberOr0 v.sec), word (number v.lastStation), v.lastSeen.setWidth 16]

/-- The record as the lost timer leaves it, its standing aside. -/
def Vehicle.gone (v : Vehicle) : Vehicle := { v with active := false, lostTimer := none }

theorem loseVehicle_eq (hv : s.vt.slots[i] = some v₁) (v : Vehicle) : loseVehicle i v s =
    { withdrawVehicle v (s.putVehicle i v₁.gone) with
      notices := (withdrawVehicle v (s.putVehicle i v₁.gone)).lostNoticed v } := by
  rw [loseVehicle, modSlot_eq hv]
  rfl

theorem withdrawVehicle_stays (h : v.queue = none ∨ v.occupied = v.queue) (s : State) : withdrawVehicle v s = s := by
  unfold withdrawVehicle
  split
  · rfl
  next k hk => rw [if_pos (h.elim (fun h => nomatch hk.symm.trans h) fun h => h.trans hk)]

theorem loseVehicle_stays (hv : s.vt.slots[i] = some v₁) (h : v.queue = none ∨ v.occupied = v.queue) :
    loseVehicle i v s = { s.putVehicle i v₁.gone with notices := s.lostNoticed v } := by
  rw [loseVehicle_eq hv, withdrawVehicle_stays h]
  rfl

theorem loseVehicle_withdraws (ht : TableOk s) (hv : s.vt.slots[i] = some v) {k : Sw} (hq : v.queue = some k)
    (ho : v.occupied ≠ some k) (hd : v.deferred = none) (hlock : s.sws[k].lock ≠ .pinned)
    (hy : s.sws[k].yields v.number = true) : loseVehicle i v s =
      { s.putVehicle i v.gone.unqueued with
        sws := s.sws.set k ((s.sws[k].without v.number).serve s.halted), notices := s.lostNoticed v } := by
  obtain ⟨notices, heq, hsame⟩ := swWithdraw_eq (s := s.putVehicle i v.gone) (v := v.gone) (ht.putVehicle hv rfl)
    (s.putVehicle_slot i _) hd k
  obtain rfl : notices = s.notices := hsame hlock
  have hyields : (s.putVehicle i v.gone).sws[k].yields v.gone.number = true := hy
  have hwithout : (s.putVehicle i v.gone).sws[k].withdrawn v.gone.number = s.sws[k].without v.number := if_pos hy
  have hwithdraw : withdrawVehicle v (s.putVehicle i v.gone) = swWithdraw k v.number (s.putVehicle i v.gone) := by
    rw [withdrawVehicle, hq]
    exact if_neg ho
  rw [hyields, hwithout, if_pos rfl, State.putVehicle_put] at heq
  rw [loseVehicle_eq hv, hwithdraw, show swWithdraw k v.number _ = _ from heq]
  rfl

theorem loseVehicle_moved (ht : TableOk s) (hv : s.vt.slots[i] = some v₁) (hnum : v₁.number = v.number) :
    ∃ v' sws notices, v₁.Alike v' ∧ loseVehicle i v s = { s.putVehicle i v' with sws, notices } := by
  obtain ⟨v', sws, notices, hsame, heq⟩ := withdrawVehicle_moved v (s.putVehicle i v₁.gone) i v₁.gone (ht.putVehicle hv rfl)
    (s.putVehicle_slot i _) hnum
  rw [State.putVehicle_put] at heq
  rw [loseVehicle_eq hv, heq]
  exact ⟨v', sws, _, hsame, rfl⟩

theorem lostExpired_eq {left : Nat} (hv : s.vt.slots[i] = some v) (ha : v.active = true) (ht : v.lostTimer = some left) :
    lostExpired i s = loseVehicle i v s := by
  rw [lostExpired, hv]
  refine if_pos ?_
  rw [ha, ht]
  rfl

theorem forgetExpired_eq {left : Nat} (hv : s.vt.slots[i] = some v) (ht : v.forgetTimer = some left) : forgetExpired i s =
    let t := if v.active then loseVehicle i v (s.putVehicle i { v with forgetTimer := none })
      else s.putVehicle i { v with forgetTimer := none }
    if v.kept then
      queueNotice .vehicleOverdue 4 (.vehicle v.number) [word (numberOr0 v.sec), word (faultWord v.occupied.isSome v.dewired)]
        (t.modSlot i fun v => { v with overdue := true })
    else
      queueNotice .vehicleForgotten 1 (.vehicle v.number) [word (numberOr0 v.sec), v.lastSeen.setWidth 16]
        (freeVehicle i t) := by
  rw [forgetExpired, hv]
  dsimp only
  rw [if_neg (by rw [ht]; nofun), modSlot_eq hv]
  rfl

/-- What the forget timer of a record that is no occupant finds to free: lost first if it was still ACTIVE. -/
theorem forgetting_moved (ht : TableOk s) (hv : s.vt.slots[i] = some v) (ho : v.occupied = none) :
    ∃ v' sws notices, v.Alike v' ∧
      (v.queue = none → v'.queue = none ∧ v'.occupied = none ∧ sws = s.sws ∧
        notices = if v.active then s.lostNoticed v else s.notices) ∧
      (if v.active then loseVehicle i v (s.putVehicle i { v with forgetTimer := none })
        else s.putVehicle i { v with forgetTimer := none }) = { s.putVehicle i v' with sws, notices } := by
  let v₁ : Vehicle := { v with forgetTimer := none }
  have hslot : (s.putVehicle i v₁).vt.slots[i] = some v₁ := s.putVehicle_slot i v₁
  by_cases ha : v.active = true
  · rw [if_pos ha, if_pos ha]
    by_cases hq : v.queue = none
    · have heq := loseVehicle_stays hslot (.inl hq)
      rw [State.putVehicle_put] at heq
      exact ⟨v₁.gone, s.sws, s.lostNoticed v, ⟨rfl, rfl, rfl, rfl⟩, fun _ => ⟨hq, ho, rfl, rfl⟩, heq⟩
    · obtain ⟨v', sws, notices, hsame, heq⟩ := loseVehicle_moved (v := v) (ht.putVehicle (v' := v₁) hv rfl) hslot rfl
      rw [State.putVehicle_put] at heq
      exact ⟨v', sws, notices, hsame, fun h => absurd h hq, heq⟩
  · rw [if_neg ha, if_neg ha]
    exact ⟨v₁, s.sws, s.notices, ⟨rfl, rfl, rfl, rfl⟩, fun hq => ⟨hq, ho, rfl, rfl⟩, rfl⟩

/-- Settles O38: each expiry is at most one loss, `loseVehicle`, and one record freed, `freeVehicle`. -/
theorem lostAndForgetTimersExpire : Obligations.LostAndForgetTimersExpire := by
  intro i v s left htable hv lost put
  refine ⟨fun ha ht => ⟨fun h => congrArg Host.Outcome.next ?_,
    fun k hq ho hd hlock hholds hocc => congrArg Host.Outcome.next ?_⟩, fun ht ha hkept => congrArg Host.Outcome.next ?_,
    fun ht ho hd => ?_⟩
  · rw [lostExpired_eq hv ha ht, loseVehicle_stays hv h]
    rfl
  · have hy : s.sws[k].yields v.number = true := by rw [SwitchPoint.yields, hholds, decide_eq_true hocc]; rfl
    rw [lostExpired_eq hv ha ht, loseVehicle_withdraws htable hv hq ho hd hlock hy]
    rfl
  · have hkeeps : v.kept = true := by rw [Vehicle.kept, Bool.or_eq_true]; exact hkept
    refine (forgetExpired_eq hv ht).trans ((if_pos hkeeps).trans ?_)
    rw [if_neg (by rw [ha]; nofun), modSlot_eq (s.putVehicle_slot i _), State.putVehicle_put, ha]
    rfl
  · have hkeeps : v.kept = false := by rw [Vehicle.kept, ho, hd]; rfl
    obtain ⟨v', sws, notices, hsame, hstays, hlose⟩ := forgetting_moved htable hv ho
    obtain ⟨hnum, hsec, hleak, hdewired⟩ := hsame
    let t : State := { s.putVehicle i v' with sws, notices }
    have ht' : TableOk t := htable.putVehicle hv hnum
    have hslot : t.vt.slots[i] = some v' := s.putVehicle_slot i v'
    obtain ⟨secs, arb, sws', notices', hfree, hsecs⟩ := freeVehicle_freed ht' hslot
    have hexec : exec (.forgetTimerExpiry i) s = .next (queueNotice .vehicleForgotten 1 (.vehicle v.number)
        [word (numberOr0 v.sec), v.lastSeen.setWidth 16] (freeVehicle i t)) := by
      refine congrArg Host.Outcome.next ((forgetExpired_eq hv ht).trans ?_)
      dsimp only
      rw [if_neg (by rw [hkeeps]; nofun), hlose]
    refine ⟨_, hexec, ?_⟩
    have hfreed : t.vt.freed i = s.vt.freed i := s.freedVehicle_slots i v'
    rw [hfreed] at hfree
    refine ⟨congrArg State.vt hfree, fun hq => ?_, fun hl => ?_, ?_⟩
    · obtain ⟨hq', ho', hsws, hnotices⟩ := hstays hq
      obtain ⟨hfsws, hfnotices⟩ := (freeVehicle_queues ht' hslot ho').2.2 hq'
      have hclock : (freeVehicle i t).clock = s.clock := by rw [hfree]; rfl
      refine ⟨hfsws.trans hsws, ?_⟩
      rw [queueNotice_notices, hfnotices, hclock]
      exact congrArg (fun q : NoticeQueue => q.take _ _ _ _ _) hnotices
    · have hclean : (v'.leak || v'.dewired) = false := by rw [hleak, hdewired, hl, hd]; rfl
      obtain ⟨hs', ha'⟩ := hsecs hclean
      rw [hfree]
      exact ⟨hs', ha'⟩
    · rw [hfree]
      exact ⟨rfl, rfl, rfl, rfl, rfl, rfl, rfl, rfl, rfl, rfl⟩

end Sys2Proof.Machine
end

section
/-!
The rules for one switch point's record: an event that changes it, the serving rule, the lock (R121, R122, R134).
-/

namespace Sys2Proof.Machine

variable {s t : State} {k : Sw} {n : Sec} {w : SwitchPoint} {q : NoticeQueue}

/-! ### One switch point's record and the notices -/

/-- The state with the record of switch point `k` and the notices replaced. -/
def State.switch (s : State) (k : Sw) (w : SwitchPoint) (q : NoticeQueue) : State :=
  { s with sws := s.sws.set k w, notices := q }

section
variable (s : State) (k : Sw) (w : SwitchPoint) (q : NoticeQueue)

@[simp] theorem State.switch_sw : (s.switch k w q).sws[k] = w := Vector.getElem_set_self ..

theorem State.switch_other {j : Sw} (h : j ≠ k) : (s.switch k w q).sws[j] = s.sws[j] :=
  Vector.getElem_set_ne k.isLt j.isLt fun hk => h (Fin.ext hk.symm)

theorem State.switch_self : s.switch k s.sws[k] s.notices = s :=
  congrArg (fun sws => { s with sws }) (Vector.set_getElem_self ..)

theorem modSw_switch (f : SwitchPoint → SwitchPoint) : (s.switch k w q).modSw k f = s.switch k (f w) q := by
  have hset : (s.sws.set k w).set k (f (s.switch k w q).sws[k]) = s.sws.set k (f w) := by
    rw [State.switch_sw, Vector.set_set]
  exact congrArg (fun sws => { s with sws, notices := q }) hset

theorem modSw_eq (f : SwitchPoint → SwitchPoint) : s.modSw k f = s.switch k (f s.sws[k]) s.notices := rfl

theorem queueNotice_switch (kind : NoticeKind) (p : Nat) (src : Source) (ws : List Half) :
    queueNotice kind p src ws (s.switch k w q) = s.switch k w (q.take s.clock kind p src ws) := rfl

end

/-! ### The serving rule (R121) -/

theorem SwitchPoint.serve_of_locked (halted : Bool) (h : w.lock ≠ .none) : w.serve halted = w := by
  unfold SwitchPoint.serve
  split
  · rfl
  · simp [SwitchPoint.mayServe, h]

theorem SwitchPoint.serve_of_empty (halted : Bool) (h : w.queue = []) : w.serve halted = w := by
  rw [SwitchPoint.serve, h]
  rfl

/-- The serving rule at a fed frog at rest, no pole under it. -/
theorem SwitchPoint.serve_eq (hp : w.position ≠ .moving) (h0 : w.poles = 0) (hf : w.feeding.isSome = true) :
    w.serve false = match w.queue with
      | [] => w
      | h :: _ =>
        if w.lock = .none ∧ w.power = true ∧ w.bound.isSome = true ∧ w.station = .online ∧ w.position ≠ h.dir.position then
          { w with target := h.dir, stage := .pending, carried := false, position := .moving }
        else w := by
  unfold SwitchPoint.serve
  cases hq : w.queue with
  | nil => rfl
  | cons h rest =>
    have hmay : (w.mayServe false && decide (w.position ≠ h.dir.position)) = true ↔ w.lock = .none ∧ w.power = true ∧
        w.bound.isSome = true ∧ w.station = .online ∧ w.position ≠ h.dir.position := by
      simp [SwitchPoint.mayServe, hp, h0, hf, and_assoc]
    exact if_congr hmay (by rw [← hq]; rfl) rfl

theorem SwitchPoint.serve_settings (halted : Bool) (w : SwitchPoint) :
    configFields (w.serve halted) = configFields w := by
  unfold SwitchPoint.serve
  split
  · rfl
  · split <;> rfl

/-! ### An event (R121, R122) -/

theorem swEvent_switch {pin : Bool} {f : State → State} (h : f s = t.switch k w q) : swEvent k pin f s =
    pinnedMismatch k s.sws[k].queue.head? pin (t.switch k (w.serve t.halted) q) := by
  rw [swEvent, h, modSw_switch]
  rfl

/-- An event that leaves the head as it is and takes no pin. -/
theorem swEvent_quiet {f : State → State} (h : f s = t.switch k w q) (hq : w.queue = s.sws[k].queue) :
    swEvent k false f s = t.switch k (w.serve t.halted) q := by
  rw [swEvent_switch h]
  refine pinnedMismatch_of_same_head ?_
  rw [State.switch_sw, (SwitchPoint.serve_kept ..).1, hq]

/-! ### The lock (R134) -/

theorem reportLock_told (n : Sec) (s : State) : ∃ secs arb, reportLock n s = { s with secs, arb } ∧
    ∀ m : Sec, secs[m].settings = s.secs[m].settings ∧ secs[m].holds =
      if n = m then { s.secs[m].holds with switchLock := s.switchLocked n } else s.secs[m].holds :=
  setHolds_told n _ s

/-- A report whether a lock is DEWIRED to the section fed from, if any. -/
def reportLockOf (n : Option Sec) (s : State) : State :=
  match n with
  | none => s
  | some n => reportLock n s

theorem reportLockOf_told (n : Option Sec) (s : State) : ∃ secs arb, reportLockOf n s = { s with secs, arb } ∧
    ∀ m : Sec, secs[m].holds =
      if n = some m then { s.secs[m].holds with switchLock := s.switchLocked m } else s.secs[m].holds := by
  cases n with
  | none => exact ⟨_, _, rfl, fun m => rfl⟩
  | some n =>
    obtain ⟨secs, arb, heq, hsecs⟩ := reportLock_told n s
    refine ⟨secs, arb, heq, fun m => (hsecs m).2.trans ?_⟩
    by_cases hm : n = m
    · rw [if_pos hm, if_pos (congrArg some hm), hm]
    · rw [if_neg hm, if_neg fun h => hm (Option.some.inj h)]

theorem setLock_quiet {l : Lock} (h : w.feeding = none ∨ (w.lock = .dewired ↔ l = .dewired)) :
    setLock k l (t.switch k w q) = t.switch k { w with lock := l } q := by
  rw [setLock, State.switch_sw, modSw_switch]
  cases hf : w.feeding with
  | none => rfl
  | some n =>
    have hsame : w.lock = .dewired ↔ l = .dewired := h.resolve_left (by rw [hf]; nofun)
    exact if_pos (decide_eq_decide.mpr hsame)

theorem setLock_told {l : Lock} (hf : w.feeding = some n) (h : ¬ (w.lock = .dewired ↔ l = .dewired)) :
    setLock k l (t.switch k w q) = reportLock n (t.switch k { w with lock := l } q) := by
  rw [setLock, State.switch_sw, modSw_switch, hf]
  exact if_neg fun hd => h (decide_eq_decide.mp hd)

/-! ### CONFIGURE SWITCH (R117) -/

section
variable {p : List Byte}

theorem directionOf_code (d : Direction) : directionOf d.code = some d := by cases d <;> rfl

/-- The record under the settings of a CONFIGURE SWITCH payload, its feeding section aside. -/
def SwitchPoint.configured (d : Direction) (p : List Byte) (w : SwitchPoint) : SwitchPoint :=
  { w with
    default := d, tPole := max 500 (min (halfAt p 3) 20000), tPass := max 5000 (min (wideAt p 5) 600000)
    tDrive := max 500 (min (halfAt p 9) 20000) }

/-- The record fed from section `n`, its power copy `powered` unless it was fed from there already. -/
def SwitchPoint.fedFrom (n : Sec) (powered : Bool) (w : SwitchPoint) : SwitchPoint :=
  { w with feeding := some n, power := if w.feeding = some n then w.power else powered }

theorem configureSwitch_eq {d : Direction} (hk : octetAt p 0 = number k) (hn : octetAt p 1 = number n)
    (hd : octetAt p 2 = d.code) (s : State) : configureSwitch p s =
    if s.sws[k].position = .moving ∨ 0 < s.sws[k].poles then refuseState s (configFields s.sws[k])
    else
      let t := swEvent k false (fun s => (setFeeding k n s).modSw k (SwitchPoint.configured d p)) s
      accept t (configFields t.sws[k]) := by
  rw [configureSwitch, naming_named s p _ k hk]
  simp only [clamp_eq]
  rw [hn, indexOf_number, hd, directionOf_code]
  rfl

theorem setFeeding_quiet (h : s.sws[k].lock ≠ .dewired ∨ s.sws[k].feeding = some n) :
    setFeeding k n s = s.switch k (s.sws[k].fedFrom n s.secs[n].state.powered) s.notices := by
  unfold setFeeding SwitchPoint.fedFrom
  dsimp only
  split
  next hf =>
    rw [← hf]
    exact (s.switch_self k).symm
  next hf => exact if_neg (h.resolve_right hf)

theorem switchLocked_switch {m : Sec} : (s.switch k w q).switchLocked m = true ↔
    (w.feeding = some m ∧ w.lock = .dewired) ∨ ∃ j : Sw, j ≠ k ∧ s.sws[j].feeding = some m ∧ s.sws[j].lock = .dewired := by
  rw [State.switchLocked_iff]
  constructor
  · rintro ⟨j, hj⟩
    by_cases hk : j = k
    · subst hk
      rw [State.switch_sw] at hj
      exact .inl hj
    · rw [State.switch_other _ _ _ _ hk] at hj
      exact .inr ⟨j, hk, hj⟩
  · rintro (h | ⟨j, hk, h⟩)
    · exact ⟨k, by rwa [State.switch_sw]⟩
    · exact ⟨j, by rwa [State.switch_other _ _ _ _ hk]⟩

/-- A DEWIRED lock moves its hold to the new section. -/
theorem setFeeding_told (hl : s.sws[k].lock = .dewired) (hf : s.sws[k].feeding ≠ some n) :
    ∃ secs arb, setFeeding k n s =
      { s.switch k (s.sws[k].fedFrom n s.secs[n].state.powered) s.notices with secs, arb } ∧
      ∀ m : Sec, secs[m].holds = if n = m ∨ s.sws[k].feeding = some m then
          { s.secs[m].holds with
            switchLock := (s.switch k (s.sws[k].fedFrom n s.secs[n].state.powered) s.notices).switchLocked m }
        else s.secs[m].holds := by
  let t := s.switch k (s.sws[k].fedFrom n s.secs[n].state.powered) s.notices
  have ht : (s.modSw k fun w => { w with feeding := some n, power := s.secs[n].state.powered }) = t := by
    change s.switch k { s.sws[k] with feeding := some n, power := s.secs[n].state.powered } s.notices = t
    unfold t SwitchPoint.fedFrom
    rw [if_neg hf]
  have hreports : setFeeding k n s = reportLock n (reportLockOf s.sws[k].feeding t) := by
    unfold setFeeding
    dsimp only
    rw [if_neg hf, ht, if_pos hl]
    rfl
  obtain ⟨secs₁, arb₁, heq₁, hsecs₁⟩ := reportLockOf_told s.sws[k].feeding t
  obtain ⟨secs₂, arb₂, heq₂, hsecs₂⟩ := reportLock_told n { t with secs := secs₁, arb := arb₁ }
  refine ⟨secs₂, arb₂, by rw [hreports, heq₁]; exact heq₂, fun m => ?_⟩
  have hlast : secs₂[m].holds = if n = m then { secs₁[m].holds with switchLock := t.switchLocked n } else secs₁[m].holds :=
    (hsecs₂ m).2
  rw [hlast]
  by_cases hm : n = m
  · subst hm
    rw [if_pos rfl, hsecs₁, if_neg hf, if_pos (.inl rfl)]
    rfl
  · rw [if_neg hm, hsecs₁]
    exact if_congr (by simp [hm]) rfl rfl

end

/-- Settles O40: the record changes by `fedFrom` and `configured`, and a hold moves with its lock. -/
theorem configureSwitchStoresTheRecord : Obligations.ConfigureSwitchStoresTheRecord := by
  intro k n d p s hs hp hk hn hd w w' served fields
  have hw' : w' = (w.fedFrom n s.secs[n].state.powered).configured d p := rfl
  have hfields : configFields w' = fields := rfl
  obtain ⟨hqueue, hlock, hbound, hstation, hposition, hpoles, hfed⟩ : w'.queue = w.queue ∧ w'.lock = w.lock ∧
    w'.bound = w.bound ∧ w'.station = w.station ∧ w'.position = w.position ∧ w'.poles = w.poles ∧ w'.feeding = some n :=
    ⟨rfl, rfl, rfl, rfl, rfl, rfl, rfl⟩
  clear_value fields
  clear_value w'
  refine ⟨fun h => taken_when_ready hs hp ?_, fun hm h0 hl => taken_when_ready hs hp ?_, fun hm h0 hl hf => ?_⟩
  · exact (configureSwitch_eq hk hn hd (hunting s)).trans (if_pos h)
  · have hserved : w'.serve (hunting s).halted = served := by
      rw [show (hunting s).halted = false from hs.halted_eq_false,
        SwitchPoint.serve_eq (hposition ▸ hm) (hpoles.trans h0) (by rw [hfed]; rfl)]
      unfold served
      rw [hqueue, hlock, hbound, hstation, hposition] <;> rfl
    have hevent : swEvent k false (fun s => (setFeeding k n s).modSw k (SwitchPoint.configured d p)) (hunting s) =
        (hunting s).switch k served s.notices := by
      refine (swEvent_quiet (s := hunting s) (t := hunting s) (w := w') (q := s.notices) ?_ hqueue).trans (by rw [hserved])
      rw [setFeeding_quiet (s := hunting s) hl, modSw_switch, hw']
      rfl
    have hreply : configFields served = fields := by
      rw [← hserved, SwitchPoint.serve_settings, hfields]
    refine (configureSwitch_eq hk hn hd (hunting s)).trans ((if_neg ?_).trans ?_)
    · rintro (h | h)
      · exact hm h
      · exact absurd h0 (Nat.pos_iff_ne_zero.mp h)
    · rw [hevent]
      dsimp only
      rw [State.switch_sw, hreply]
      rfl
  · obtain ⟨secs, arb, heq, hholds⟩ := setFeeding_told (s := hunting s) hl hf
    have hevent : swEvent k false (fun s => (setFeeding k n s).modSw k (SwitchPoint.configured d p)) (hunting s) =
        State.switch { hunting s with secs, arb } k w' s.notices := by
      refine (swEvent_quiet (s := hunting s) (t := { hunting s with secs, arb }) (w := w') (q := s.notices) ?_ hqueue).trans ?_
      · rw [heq, hw']
        exact modSw_switch { hunting s with secs, arb } k (w.fedFrom n s.secs[n].state.powered) s.notices _
      · rw [SwitchPoint.serve_of_locked _ (by rw [hlock, hl]; nofun)]
    refine ⟨State.switch { s with secs, arb } k w' s.notices, taken_when_ready hs hp ?_, rfl, ?_, fun m hm' => ?_,
      fun m hmn hm' => ?_, rfl, rfl, rfl, rfl, rfl, rfl, rfl, rfl, rfl, rfl⟩
    · refine (configureSwitch_eq hk hn hd (hunting s)).trans ((if_neg ?_).trans ?_)
      · rintro (h | h)
        · exact hm h
        · exact absurd h0 (Nat.pos_iff_ne_zero.mp h)
      · rw [hevent]
        dsimp only
        rw [State.switch_sw, hfields]
        rfl
    · change secs[n].holds.switchLock = true
      rw [hholds, if_pos (.inl rfl)]
      exact switchLocked_switch.mpr (.inl ⟨rfl, hl⟩)
    · change secs[m].holds.switchLock = true ↔ _
      rw [hholds, if_pos (.inr hm')]
      refine switchLocked_switch.trans (or_iff_right fun h => hf ?_)
      exact hm'.trans h.1.symm
    · change secs[m].holds = _
      rw [hholds, if_neg]
      · rfl
      · rintro (h | h)
        · exact hmn h.symm
        · exact hm' h

end Sys2Proof.Machine
end

section
/-!
SET SWITCH, PIN SWITCH, UNPIN SWITCH and CLEAR SWITCH LOCK (R135 to R137).
-/

namespace Sys2Proof.Machine

variable {s t : State} {k : Sw} {n : Sec} {w : SwitchPoint} {q : NoticeQueue} {p : List Byte}

/-- What a switch point request's reply shows of the record. -/
def SwitchPoint.shown (w : SwitchPoint) : List ReplyField :=
  [.nat 1 w.position.code, .nat 1 w.target.code, .nat 1 w.stage.code, .nat 2 w.poles, .nat 1 w.lock.code,
    .nat 2 w.queue.length]

theorem acceptSwitch_switch (k : Sw) (w : SwitchPoint) (q : NoticeQueue) (t : State) :
    acceptSwitch k (t.switch k w q) = ⟨t.switch k w q, .ok, w.shown⟩ := by
  rw [acceptSwitch, switchReply, State.switch_sw]
  rfl

theorem setSwitch_eq {d : Direction} (hk : octetAt p 0 = number k) (hd : octetAt p 1 = d.code) (s : State) : setSwitch p s =
    if s.sws[k].hostMayDrive then
      acceptSwitch k (swEvent k false (fun s =>
        s.modSw k fun w => if w.position = d.position then w else w.startDrive d) s)
    else refuseSwitch k s := by
  rw [setSwitch, naming_named s p _ k hk, hd, directionOf_code]

theorem pinSwitch_eq (hk : octetAt p 0 = number k) (s : State) : pinSwitch p s =
    if s.sws[k].lock = .pinned then acceptSwitch k s
    else if s.sws[k].lock = .none ∧ (s.sws[k].position = .straight ∨ s.sws[k].position = .turnout) then
      acceptSwitch k (swEvent k true (fun s => s.modSw k fun w => { w with lock := .pinned }) s)
    else refuseSwitch k s := naming_named s p _ k hk

theorem unpinSwitch_eq (hk : octetAt p 0 = number k) (s : State) : unpinSwitch p s =
    if s.sws[k].lock = .pinned then
      acceptSwitch k (swEvent k false (fun s => s.modSw k fun w => { w with lock := .none }) s)
    else refuseSwitch k s := naming_named s p _ k hk

theorem clearSwitchLock_eq (hk : octetAt p 0 = number k) (s : State) : clearSwitchLock p s =
    if s.sws[k].lock = .dewired ∧ s.sws[k].poles = 0 ∨ s.sws[k].lock = .failed then
      acceptSwitch k (swEvent k false (fun s => setLock k .none (s.modSw k fun w => { w with failed := 0 })) s)
    else refuseSwitch k s := naming_named s p _ k hk

theorem SwitchPoint.hostMayDrive_iff : w.hostMayDrive = true ↔ w.queue = [] ∧ w.poles = 0 ∧
    (w.lock = .none ∨ w.lock = .pinned) ∧ w.position ≠ .moving ∧ w.feeding.isSome = true ∧ w.power = true ∧
    w.station = .online := by
  simp [SwitchPoint.hostMayDrive, and_assoc]

/-- The drive that the host asks of an idle frog, whose queue is empty. -/
theorem hostDrive_eq (d : Direction) (hq : s.sws[k].queue = []) :
    swEvent k false (fun s => s.modSw k fun w => if w.position = d.position then w else w.startDrive d) s =
      s.switch k (if s.sws[k].position = d.position then s.sws[k] else s.sws[k].startDrive d) s.notices := by
  have hqueue : (if s.sws[k].position = d.position then s.sws[k] else s.sws[k].startDrive d).queue = s.sws[k].queue := by
    split <;> rfl
  refine (swEvent_quiet (t := s) (q := s.notices) rfl hqueue).trans ?_
  rw [SwitchPoint.serve_of_empty _ (hqueue.trans hq)]

/-- A pin is taken by a frog at rest at an end: the serving rule is barred, and the head may be set otherwise. -/
theorem pinTaken_eq : swEvent k true (fun s => s.modSw k fun w => { w with lock := .pinned }) s =
    s.switch k { s.sws[k] with lock := .pinned } (match s.sws[k].queue with
      | [] => s.notices
      | h :: _ => if s.sws[k].position = h.dir.position then s.notices
        else s.noticed .mismatch 4 (.switch k) [word h.number, word h.dir.code, word s.sws[k].position.code, 0]) := by
  rw [swEvent_switch (f := fun s => s.modSw k fun w => { w with lock := .pinned }) (t := s) rfl,
    SwitchPoint.serve_of_locked (w := { s.sws[k] with lock := .pinned }) _ nofun, pinnedMismatch, State.switch_sw]
  cases hq : s.sws[k].queue with
  | nil => rfl
  | cons h rest =>
    dsimp only [List.head?_cons]
    by_cases hp : s.sws[k].position = h.dir.position
    · rw [if_pos hp, if_neg (by simpa using hp)]
    · rw [if_neg hp, if_pos (by simpa using hp)]
      rfl

/-- The lock is released, and the serving rule looks at the head. -/
theorem lockReleased_eq : swEvent k false (fun s => s.modSw k fun w => { w with lock := .none }) s =
    s.switch k (({ s.sws[k] with lock := .none } : SwitchPoint).serve s.halted) s.notices :=
  swEvent_quiet (t := s) (w := { s.sws[k] with lock := .none }) (q := s.notices) rfl rfl

/-- The record with its lock cleared by the host. -/
def SwitchPoint.unlocked (w : SwitchPoint) : SwitchPoint := { w with lock := .none, failed := 0 }

theorem lockCleared_quiet (h : s.sws[k].lock = .failed ∨ s.sws[k].feeding = none) :
    swEvent k false (fun s => setLock k .none (s.modSw k fun w => { w with failed := 0 })) s =
      s.switch k (s.sws[k].unlocked.serve s.halted) s.notices := by
  refine swEvent_quiet (t := s) (w := s.sws[k].unlocked) (q := s.notices) ?_ rfl
  exact setLock_quiet (w := { s.sws[k] with failed := 0 }) (h.symm.imp_right fun h => by
    change s.sws[k].lock = .dewired ↔ _
    rw [h]
    decide)

theorem lockCleared_told (hl : s.sws[k].lock = .dewired) (hf : s.sws[k].feeding = some n) : ∃ secs arb,
    swEvent k false (fun s => setLock k .none (s.modSw k fun w => { w with failed := 0 })) s =
      { s.switch k (s.sws[k].unlocked.serve s.halted) s.notices with secs, arb } ∧
    ∀ m : Sec, secs[m].holds = if n = m then
        { s.secs[m].holds with switchLock := (s.switch k s.sws[k].unlocked s.notices).switchLocked n }
      else s.secs[m].holds := by
  obtain ⟨secs, arb, heq, hsecs⟩ := reportLock_told n (s.switch k s.sws[k].unlocked s.notices)
  refine ⟨secs, arb, ?_, fun m => (hsecs m).2⟩
  refine swEvent_quiet (t := { s with secs, arb }) (w := s.sws[k].unlocked) (q := s.notices) ?_ rfl
  refine (setLock_told (w := { s.sws[k] with failed := 0 }) hf fun h => ?_).trans heq
  exact nomatch h.mp hl

/-- Settles O41: each request is one event of the switch point, or is refused. -/
theorem switchRequestsMoveTheLockAndTheFrog : Obligations.SwitchRequestsMoveTheLockAndTheFrog := by
  intro k s p hs hk w fields becomes free cleared
  have accepts (t : State) (w' : SwitchPoint) (q : NoticeQueue) :
      acceptSwitch k ((hunting t).switch k w' q) = ⟨hunting (t.switch k w' q), .ok, fields w'⟩ := acceptSwitch_switch ..
  have hself : acceptSwitch k (hunting s) = ⟨hunting s, .ok, fields w⟩ := rfl
  have hrefuse : refuseSwitch k (hunting s) = ⟨hunting s, .refusedState, fields w⟩ := rfl
  clear_value fields
  refine ⟨fun d hp hd => ?_, fun hp => ⟨fun hl hpos => ?_, fun hl => taken_when_ready hs hp ?_,
    fun hl h => taken_when_ready hs hp ?_, fun hl => taken_when_ready hs hp ?_, fun hl => taken_when_ready hs hp ?_,
    fun hl => taken_when_ready hs hp ?_, fun n hl h0 hf => ?_, fun hl h => taken_when_ready hs hp ?_⟩⟩
  · intro idle w'
    refine ⟨fun hidle => taken_when_ready hs hp ?_, fun hidle => taken_when_ready hs hp ?_⟩
    · refine (setSwitch_eq hk hd (hunting s)).trans ((if_pos (SwitchPoint.hostMayDrive_iff.mpr hidle)).trans ?_)
      rw [hostDrive_eq (s := hunting s) d hidle.1]
      exact accepts s w' s.notices
    · exact (setSwitch_eq hk hd (hunting s)).trans
        ((if_neg fun h => hidle (SwitchPoint.hostMayDrive_iff.mp h)).trans hrefuse)
  · intro w'
    refine taken_when_ready hs hp ?_
    have hpin : ¬ (hunting s).sws[k].lock = .pinned := fun h => nomatch hl.symm.trans h
    refine (pinSwitch_eq hk (hunting s)).trans ((if_neg hpin).trans ((if_pos ⟨hl, hpos⟩).trans ?_))
    rw [pinTaken_eq (s := hunting s)]
    exact accepts s w' _
  · exact (pinSwitch_eq hk (hunting s)).trans ((if_pos hl).trans hself)
  · refine (pinSwitch_eq hk (hunting s)).trans ((if_neg hl).trans ((if_neg ?_).trans hrefuse))
    rintro ⟨hnone, hpos⟩
    rcases h with h | h | h
    · exact h hnone
    · rcases hpos with h' | h' <;> exact nomatch h.symm.trans h'
    · rcases hpos with h' | h' <;> exact nomatch h.symm.trans h'
  · refine (unpinSwitch_eq hk (hunting s)).trans ((if_pos hl).trans ?_)
    rw [lockReleased_eq]
    exact accepts s (free.serve s.halted) s.notices
  · exact (unpinSwitch_eq hk (hunting s)).trans ((if_neg hl).trans hrefuse)
  · refine (clearSwitchLock_eq hk (hunting s)).trans ((if_pos ?_).trans ?_)
    · rcases hl with h | ⟨h, h0, -⟩
      · exact .inr h
      · exact .inl ⟨h, h0⟩
    · rw [lockCleared_quiet (s := hunting s) (hl.imp_right fun h => h.2.2)]
      exact accepts s (cleared.serve s.halted) s.notices
  · obtain ⟨secs, arb, heq, hholds⟩ := lockCleared_told (s := hunting s) hl hf
    refine ⟨State.switch { s with secs, arb } k (cleared.serve s.halted) s.notices, taken_when_ready hs hp ?_, rfl, ?_,
      fun m hm => ?_, rfl, rfl, rfl, rfl, rfl, rfl, rfl, rfl⟩
    · refine (clearSwitchLock_eq hk (hunting s)).trans ((if_pos (.inl ⟨hl, h0⟩)).trans ?_)
      rw [heq]
      exact accepts { s with secs, arb } (cleared.serve s.halted) s.notices
    · change secs[n].holds.switchLock = true ↔ _
      rw [hholds, if_pos rfl]
      exact switchLocked_switch.trans (or_iff_right fun h => nomatch h.2)
    · change secs[m].holds = _
      rw [hholds, if_neg (Ne.symm hm)]
      rfl
  · refine (clearSwitchLock_eq hk (hunting s)).trans ((if_neg ?_).trans hrefuse)
    rintro (⟨hd, h0⟩ | hf)
    · rcases h with h | h
      · exact h hd
      · exact absurd h0 (Nat.pos_iff_ne_zero.mp h)
    · exact hl hf

end Sys2Proof.Machine
end

section
/-!
The pole, passage and drive supervision timers (R125, R132, R133).
-/

namespace Sys2Proof.Machine

variable {s t : State} {k : Sw} {n m : Sec} {i : Slot} {v : Vehicle} {w : SwitchPoint} {q : NoticeQueue}

/-- An event that leaves nothing to serve and the queue as it is. -/
theorem swEvent_still {f : State → State} (hq : (f s).sws[k].queue = s.sws[k].queue)
    (hserve : (f s).sws[k].serve (f s).halted = (f s).sws[k]) : swEvent k false f s = f s := by
  rw [swEvent_quiet ((f s).switch_self k).symm hq, hserve, State.switch_self]

/-! ### The lock made DEWIRED -/

theorem setLock_dewired (w : SwitchPoint) (s : State) : ∃ secs arb,
    setLock k .dewired (s.switch k w s.notices) = { s.switch k { w with lock := .dewired } s.notices with secs, arb } ∧
    ∀ n : Sec, w.feeding = some n → w.lock ≠ .dewired → secs[n].holds.switchLock = true := by
  by_cases hl : w.lock = .dewired
  · exact ⟨_, _, setLock_quiet (.inr (iff_of_true hl rfl)), fun n _ h => absurd hl h⟩
  · obtain hf | ⟨n, hf⟩ := Option.eq_none_or_eq_some w.feeding
    · exact ⟨_, _, setLock_quiet (.inl hf), fun n hn _ => (nomatch hf.symm.trans hn)⟩
    · obtain ⟨secs, arb, heq, hsecs⟩ := reportLock_told n (s.switch k { w with lock := .dewired } s.notices)
      refine ⟨secs, arb, (setLock_told hf fun h => hl (h.mpr rfl)).trans heq, fun m hm _ => ?_⟩
      obtain rfl := Option.some.inj (hf.symm.trans hm)
      rw [(hsecs n).2, if_pos rfl]
      exact switchLocked_switch.mpr (.inl ⟨hf, rfl⟩)

/-! ### The DEWIRED request (R105) -/

theorem addDewired_found (ht : TableOk s) (hv : s.vt.slots[i] = some v) (hd : v.dewired = false) (k : Sw) :
    FactsTold v.sec { s.putVehicle i { v with dewired := true } with
        notices := s.noticed .vehicleFault 5 (.vehicle v.number) [1, 1, word (number k)] } (addDewired v.number k s) := by
  rw [addDewired, findVehicle_of_slot ht hv]
  dsimp only
  rw [hv]
  dsimp only
  rw [if_neg (by rw [hd]; nofun), modSlot_eq hv]
  exact reportFactsOf_told ..

theorem addDewired_kept (num : Nat) (k : Sw) (s : State) : ∃ secs arb vt notices,
    addDewired num k s = { s with secs, arb, vt, notices } ∧
    ∀ m : Sec, secs[m].holds.switchLock = s.secs[m].holds.switchLock := by
  unfold addDewired
  split
  · exact ⟨_, _, _, _, rfl, fun m => rfl⟩
  · split
    · exact ⟨_, _, _, _, rfl, fun m => rfl⟩
    next v hv =>
      dsimp only
      split
      · exact ⟨_, _, _, _, rfl, fun m => rfl⟩
      · rw [modSlot_eq hv]
        obtain ⟨secs, arb, heq, -, hsecs⟩ := reportFactsOf_told v.sec
          (queueNotice .vehicleFault 5 (.vehicle num) [1, 1, word (number k)] (s.putVehicle _ { v with dewired := true }))
        refine ⟨secs, arb, _, _, heq, fun m => ?_⟩
        rw [(hsecs m).2]
        split <;> rfl

/-! ### The pole timer (R132) -/

/-- The record whose pole timer has expired. -/
def SwitchPoint.dewired (w : SwitchPoint) : SwitchPoint := { w with poleTimer := .stopped, lock := .dewired }

/-- The occupant, if any, is reported DEWIRED. -/
def dewireOccupant (occupant : Option Nat) (k : Sw) (s : State) : State :=
  match occupant with
  | none => s
  | some v => addDewired v k s

theorem dewireOccupant_kept (occupant : Option Nat) (k : Sw) (s : State) : ∃ secs arb vt notices,
    dewireOccupant occupant k s = { s with secs, arb, vt, notices } ∧
    ∀ m : Sec, secs[m].holds.switchLock = s.secs[m].holds.switchLock := by
  cases occupant with
  | none => exact ⟨_, _, _, _, rfl, fun m => rfl⟩
  | some num => exact addDewired_kept num k s

/-- A DEWIRED lock is never served. -/
theorem poleExpired_eq {left : Nat} {secs : Vector Section 8} {arb : Arbiter} (ht : s.sws[k].poleTimer = .running left)
    (hlock : setLock k .dewired (s.switch k { s.sws[k] with poleTimer := .stopped } s.notices) =
      { s.switch k s.sws[k].dewired s.notices with secs, arb }) : poleExpired k s =
    queueNotice .dewire 6 (.switch k) [vehicleWord s.sws[k].occupant, 1, word s.sws[k].position.code]
      (dewireOccupant s.sws[k].occupant k { s.switch k s.sws[k].dewired s.notices with secs, arb }) := by
  let u : State := { s.switch k s.sws[k].dewired s.notices with secs, arb }
  obtain ⟨secs', arb', vt, notices, heq, -⟩ := dewireOccupant_kept s.sws[k].occupant k u
  have hu : u.sws[k] = s.sws[k].dewired := s.switch_sw k _ s.notices
  have hu' : (dewireOccupant s.sws[k].occupant k u).sws[k] = s.sws[k].dewired := by
    rw [heq]
    exact hu
  let f (s : State) : State :=
    let s := setLock k .dewired (s.modSw k fun w => { w with poleTimer := .stopped })
    let s := dewireOccupant s.sws[k].occupant k s
    queueDewire k 1 (word s.sws[k].position.code) s
  have hbody : f s = queueNotice .dewire 6 (.switch k) [vehicleWord s.sws[k].occupant, 1, word s.sws[k].position.code]
      (dewireOccupant s.sws[k].occupant k u) := by
    unfold f
    rw [modSw_eq, hlock]
    change queueDewire k 1 (word (dewireOccupant u.sws[k].occupant k u).sws[k].position.code)
      (dewireOccupant u.sws[k].occupant k u) = _
    rw [show u.sws[k].occupant = s.sws[k].occupant from (congrArg SwitchPoint.occupant hu).trans rfl, queueDewire, hu']
    rfl
  have hsw : (f s).sws[k] = s.sws[k].dewired := by
    rw [hbody]
    exact hu'
  have hrun : poleExpired k s = swEvent k false f s := if_pos (by rw [ht]; rfl)
  rw [hrun, swEvent_still (by rw [hsw]; rfl) (by rw [hsw]; exact SwitchPoint.serve_of_locked _ nofun), hbody]

/-! ### The passage timer and drive supervision (R125, R133) -/

theorem vehicleWord_eq (num : Option Nat) : vehicleWord num = word (num.getD 0) := by cases num <;> rfl

/-- The passage timer's part of the event. -/
def passageOver (k : Sw) (s : State) : State :=
  let s := s.modSw k fun w => { w with passTimer := .stopped }
  queueNotice .stalled 4 (.switch k) [vehicleWord s.sws[k].occupant, word s.sws[k].poles] s

theorem passageOver_eq (k : Sw) (s : State) : passageOver k s = s.switch k { s.sws[k] with passTimer := .stopped }
    (s.noticed .stalled 4 (.switch k) [word (s.sws[k].occupant.getD 0), word s.sws[k].poles]) := by
  rw [← vehicleWord_eq, passageOver, modSw_eq, State.switch_sw, queueNotice_switch]
  rfl

/-- Drive supervision's part of the event. -/
def driveOver (k : Sw) (s : State) : State :=
  let w := s.sws[k]
  let s := s.modSw k SwitchPoint.cancelDrive
  if w.failed = 0 then s.modSw k fun w => { w with failed := 1 }
  else
    let s := setLock k .failed (s.modSw k fun w => { w with failed := 0 })
    queueNotice .driveFail 6 (.switch k) [word w.target.code, word w.lastReport.code, w.headWord] s

theorem driveOver_retries (h : s.sws[k].failed = 0) :
    driveOver k s = s.switch k { s.sws[k].cancelDrive with failed := 1 } s.notices := by
  refine (if_pos h).trans ?_
  rw [modSw_eq s k SwitchPoint.cancelDrive, modSw_switch]

theorem driveOver_fails (h : s.sws[k].failed ≠ 0) (hl : s.sws[k].lock ≠ .dewired) :
    driveOver k s = s.switch k { s.sws[k].cancelDrive with failed := 0, lock := .failed }
      (s.noticed .driveFail 6 (.switch k) [word s.sws[k].target.code, word s.sws[k].lastReport.code,
        word ((s.sws[k].queue.head?.map (·.number)).getD 0)]) := by
  refine (if_neg h).trans ?_
  have hfree : s.sws[k].cancelDrive.lock ≠ .dewired := hl
  rw [modSw_eq s k SwitchPoint.cancelDrive, modSw_switch,
    setLock_quiet (w := { s.sws[k].cancelDrive with failed := 0 }) (l := .failed) (.inr (iff_of_false hfree nofun)), queueNotice_switch, SwitchPoint.headWord,
    vehicleWord_eq]
  rfl

/-- Settles O42: each expiry is one event of the switch point. -/
theorem switchTimersExpire : Obligations.SwitchTimersExpire := by
  intro k s left w vehicle
  refine ⟨fun ht htable => ?_, fun ht => congrArg Host.Outcome.next ?_, fun ht hl => ?_⟩
  · obtain ⟨secs, arb, hlock, hheld⟩ := setLock_dewired (k := k) { w with poleTimer := .stopped } s
    let u : State := { s.switch k w.dewired s.notices with secs, arb }
    obtain ⟨secs', arb', vt, notices, hdewire, hkept⟩ := dewireOccupant_kept w.occupant k u
    have hexec : exec (.poleTimerExpiry k) s = .next (queueNotice .dewire 6 (.switch k)
        [vehicleWord w.occupant, 1, word w.position.code] (dewireOccupant w.occupant k u)) :=
      congrArg Host.Outcome.next (poleExpired_eq ht hlock)
    refine ⟨_, hexec, ?_, fun n hf hl => ?_, fun ho => ?_, fun i v hv ho hd => ?_, ?_⟩
    · rw [hdewire]
      rfl
    · rw [hdewire]
      exact (congrArg (· = true) (hkept n)).mpr (hheld n hf hl)
    · rw [ho]
      exact ⟨rfl, rfl⟩
    · obtain ⟨secs₂, arb₂, hfound, -, hfacts⟩ := addDewired_found (s := u) htable hv hd k
      have hadd : dewireOccupant w.occupant k u = addDewired v.number k u := by rw [ho]; rfl
      rw [hadd, hfound]
      refine ⟨rfl, fun n hsec => ?_, ?_⟩
      · change secs₂[n].holds.dewired = true
        rw [(hfacts n).2, if_pos hsec]
        exact decide_eq_true (State.countVehicles_pos.mpr ⟨i, _, State.putVehicle_slot .., hsec, rfl⟩)
      · rw [vehicleWord_eq]
        rfl
    · rw [hdewire]
      exact ⟨rfl, rfl, rfl, rfl, rfl, rfl, rfl, rfl⟩
  · have hrun : passageExpired k s = swEvent k false (passageOver k) s := if_pos (by rw [ht]; rfl)
    exact hrun.trans (swEvent_quiet (passageOver_eq k s) rfl)
  · intro ended retried
    have hrun : driveExpired k s = swEvent k false (driveOver k) s := if_pos (by rw [ht]; rfl)
    refine ⟨fun hf => congrArg Host.Outcome.next (hrun.trans (swEvent_quiet (driveOver_retries hf) rfl)),
      fun hf => congrArg Host.Outcome.next (hrun.trans ((swEvent_quiet (driveOver_fails hf hl) rfl).trans ?_))⟩
    rw [SwitchPoint.serve_of_locked (w := { s.sws[k].cancelDrive with failed := 0, lock := .failed }) _ nofun]
    rfl

end Sys2Proof.Machine
end

section
/-!
The cycle of the loop with an exchange to make (R146, R147), and the requests and the timer that move it (R148, R159,
R160).
-/

namespace Sys2Proof.Machine

variable {s t : State} {a : Sta} {l : Loop}

/-! ### The next exchange (R146, R149) -/

theorem find_finRange_eq_some {n : Nat} {p : Fin n → Bool} {i : Fin n} :
    (List.finRange n).find? p = some i ↔ p i = true ∧ ∀ j < i, p j = false := by
  rw [← Fin.find?_eq_find?_finRange, Fin.find?_eq_some_iff]

theorem Loop.nextPoll_eq_some_iff : l.nextPoll = some a ↔ l.PollsNext a := by
  rw [Loop.nextPoll, find_finRange_eq_some, Loop.PollsNext]
  simp only [Bool.and_eq_true, decide_eq_true_eq, Bool.and_eq_false_iff, decide_eq_false_iff_not]
  refine ⟨fun ⟨⟨⟨hpos, hon⟩, hfound⟩, hleast⟩ => ⟨hon, hpos, hfound, fun c hc hlt hon => ?_⟩,
    fun ⟨hon, hpos, hfound, hleast⟩ => ⟨⟨⟨hpos, hon⟩, hfound⟩, fun c hlt => ?_⟩⟩
  · rcases hleast c hlt with (h | h) | h
    · exact absurd hc h
    · exact absurd hon h
    · exact Classical.not_not.mp h
  · by_cases hc : l.pollPos < number c
    · by_cases hon' : l.stations[c].state = .online
      · exact .inr fun h => h (hleast c hc hlt hon')
      · exact .inl (.inr hon')
    · exact .inl (.inl hc)

theorem Loop.CensusNext.nextCensus (h : l.CensusNext a) : l.nextCensus = some a := by
  obtain ⟨hwants, hfirst⟩ := h
  unfold Loop.nextCensus
  by_cases hpos : l.censusPos < number a
  · have habove : (List.finRange 32).find? (fun a => decide (l.censusPos < number a) && l.stations[a].wantsCensus) =
        some a := by
      refine find_finRange_eq_some.mpr ⟨by rw [decide_eq_true hpos, Station.wantsCensus_iff.mpr hwants]; rfl, fun c hc => ?_⟩
      by_contra hnot
      rw [Bool.not_eq_false, Bool.and_eq_true, decide_eq_true_eq, Station.wantsCensus_iff] at hnot
      exact absurd hc (not_lt.mpr ((hfirst c hnot.2).1 hpos hnot.1))
    rw [habove]
  · have hnone : (List.finRange 32).find? (fun a => decide (l.censusPos < number a) && l.stations[a].wantsCensus) =
        none := by
      refine List.find?_eq_none.mpr fun c _ hc => ?_
      rw [Bool.and_eq_true, decide_eq_true_eq, Station.wantsCensus_iff] at hc
      exact absurd ((hfirst c hc.2).2 (Nat.not_lt.mp hpos)).1 (Nat.not_le.mpr hc.1)
    rw [hnone]
    refine find_finRange_eq_some.mpr ⟨Station.wantsCensus_iff.mpr hwants, fun c hc => ?_⟩
    by_contra hnot
    rw [Bool.not_eq_false, Station.wantsCensus_iff] at hnot
    exact absurd hc (not_lt.mpr ((hfirst c hnot).2 (Nat.not_lt.mp hpos)).2)

/-- A poll's state does not depend on the exchange before it. -/
theorem polling_dropExchange (a : Sta) (s : State) : (dropExchange s).polling a = s.polling a := rfl

theorem polling_hunting (a : Sta) (s : State) : (hunting s).polling a = hunting (s.polling a) := by
  have hsame : (hunting s).loop.stations[a].role = s.loop.stations[a].role := rfl
  rw [State.polling, State.polling, hsame]
  cases s.loop.stations[a].role with
  | unset | boundary _ _ => rfl
  | switch bound =>
    cases bound with
    | none => rfl
    | some k =>
      by_cases h : s.sws[k].stage = .pending ∧ s.loop.holding = false
      · refine (if_pos h).trans ?_
        dsimp only
        rw [if_pos h]
        rfl
      · refine (if_neg h).trans ?_
        dsimp only
        rw [if_neg h]
        rfl

theorem markCarried_drive {k : Sw} {d : Direction} (h : s.loop.stations[a].role = .switch (some k)) :
    markCarried a (.drive d) s = s.modSw k fun w => { w with carried := true } := by
  unfold markCarried
  rw [h]
  rfl

theorem beginPoll_eq (a : Sta) (s : State) : beginPoll a s = s.polling a := by
  have hcommand : ∀ c : LoopCommand, pollCommand a s = c →
      beginPoll a s = beginExchange a c (markCarried a c (s.modLoop fun l => { l with pollPos := number a })) :=
    fun c h => by rw [beginPoll, h]
  cases hrole : s.loop.stations[a].role with
  | unset | boundary _ _ =>
    rw [hcommand .poll (by rw [pollCommand, hrole]; rfl), State.polling, hrole]
    rfl
  | switch bound =>
    cases bound with
    | none =>
      rw [hcommand .poll (by rw [pollCommand, hrole]; rfl), State.polling, hrole]
      rfl
    | some k =>
      have hsends : pollCommand a s =
          if s.sws[k].stage = .pending ∧ s.loop.holding = false then .drive s.sws[k].target else .poll := by
        rw [pollCommand, hrole]
        exact if_congr (by simp) rfl rfl
      rw [State.polling, hrole]
      by_cases h : s.sws[k].stage = .pending ∧ s.loop.holding = false
      · rw [hcommand _ (hsends.trans (if_pos h))]
        rw [markCarried_drive (s := s.modLoop fun l => { l with pollPos := number a }) hrole]
        exact (if_pos h).symm
      · rw [hcommand _ (hsends.trans (if_neg h))]
        exact (if_neg h).symm

theorem tryExchange_of_pollsNext (h : s.loop.PollsNext a) : tryExchange s = (s.polling a, true) := by
  rw [tryExchange, Loop.nextPoll_eq_some_iff.mpr h, ← beginPoll_eq]

theorem tryExchange_of_censusNext (hp : s.loop.PollsDone) (hd : s.loop.censusDone = false) (h : s.loop.CensusNext a) :
    tryExchange s =
      (beginExchange a .census (s.modLoop fun l => { l with censusPos := number a, censusDone := true }), true) := by
  rw [tryExchange, Loop.nextPoll_eq_none_iff.mpr hp, h.nextCensus, hd]
  rfl

theorem tryExchange_of_spent (hp : s.loop.PollsDone) (hd : s.loop.censusDone = true) : tryExchange s = (s, false) := by
  rw [tryExchange, Loop.nextPoll_eq_none_iff.mpr hp, hd]
  rfl

theorem newCycle_of_pollsNext (h : s.loop.cycleStarted.PollsNext a) :
    newCycle s = ({ s with loop := s.loop.cycleStarted } : State).polling a := by
  have htry : tryExchange (s.modLoop Loop.startCycle) = ((s.modLoop Loop.startCycle).polling a, true) :=
    tryExchange_of_pollsNext h
  rw [newCycle, htry]
  exact (polling_dropExchange a _).symm

theorem resetCycle_of_pollsNext (h : s.loop.cycleStarted.PollsNext a) :
    resetCycle s = ({ s with loop := { s.loop.cycleStarted with overrun := false } } : State).polling a :=
  newCycle_of_pollsNext (s := (dropExchange s).modLoop fun l => { l with overrun := false }) h

theorem resetCycle_of_idle (h : s.loop.Idle) :
    resetCycle s = { s with loop := { s.loop.restedAtOnce with exchange := none } } :=
  newCycle_of_idle (s := (dropExchange s).modLoop fun l => { l with overrun := false }) h

theorem nextExchange_of_pollsNext (h : s.loop.PollsNext a) : nextExchange s = s.polling a := by
  rw [nextExchange, tryExchange_of_pollsNext h]

theorem nextExchange_of_censusNext (hp : s.loop.PollsDone) (hd : s.loop.censusDone = false) (h : s.loop.CensusNext a) :
    nextExchange s =
      beginExchange a .census (s.modLoop fun l => { l with censusPos := number a, censusDone := true }) := by
  rw [nextExchange, tryExchange_of_censusNext hp hd h]

/-- The state as a late cycle ends: LOOP OVERRUN unless the run mark stands (R147). -/
def State.overran (s : State) : State :=
  { s with
    loop := { s.loop with overrun := true }
    notices := if s.loop.overrun then s.notices
      else s.noticed .loopOverrun 3 (.station s.loop.lastAddressed) [word s.loop.cycleTime, word s.loop.cycleMs] }

theorem nextExchange_of_late (hp : s.loop.PollsDone) (hd : s.loop.censusDone = true) (hl : s.loop.late = true) :
    nextExchange s = newCycle s.overran := by
  rw [nextExchange, tryExchange_of_spent hp hd]
  refine (if_pos hl).trans (congrArg newCycle ?_)
  obtain ho | ho := Bool.eq_false_or_eq_true s.loop.overrun
  · have hsame : ({ s.loop with overrun := true } : Loop) = s.loop := by rw [← ho]
    rw [State.overran, hsame, ho]
    rfl
  · rw [State.overran, ho]
    rfl

theorem loopSkip_eq {e : Exchange} (h : s.loop.exchange = some e) :
    loopSkip s = accept (nextExchange (dropExchange s)) [fieldNo (number e.station), fieldCode e.command.code] := by
  rw [loopSkip, h]
  simp only [abortAndContinue, h]

theorem cycleExpired_of_running (ht : s.loop.cycleTimer.isSome) (hr : s.loop.running = true) :
    cycleExpired s = { s with loop := { s.loop with late := true, cycleTimer := none } } := by
  rw [cycleExpired, if_pos ht, if_pos hr]
  rfl

/-- Settles O44: what is next is decided by `tryExchange` alone. -/
theorem cyclesAndSkipsChooseTheNextExchange : Obligations.CyclesAndSkipsChooseTheNextExchange := by
  intro s a l fresh reset resting idle aborted
  refine ⟨fun p hs hp => taken_when_ready hs hp ?_, fun hs he => taken_when_ready hs rfl ?_, fun e hs he => ?_,
    fun hs h => taken_when_ready hs rfl ?_, fun hs h => taken_when_ready hs rfl ?_, fun left ht => ?_⟩
  · rw [setCycleTime, clamp_eq]
    rfl
  · rw [loopSkip, show (hunting s).loop.exchange = none from he]
    rfl
  · have hskip : loopSkip (hunting s) = accept (nextExchange (dropExchange (hunting s)))
        [fieldNo (number e.station), fieldCode e.command.code] := loopSkip_eq he
    refine ⟨fun h => taken_when_ready hs rfl ?_, fun hp hd h => taken_when_ready hs rfl ?_,
      fun h => taken_when_ready hs rfl ?_, fun hp hd hl => ⟨fun h => taken_when_ready hs rfl ?_,
      fun h => taken_when_ready hs rfl ?_⟩⟩
    · rw [hskip, nextExchange_of_pollsNext (s := dropExchange (hunting s)) (a := a) h, polling_dropExchange, polling_hunting]
      rfl
    · rw [hskip, nextExchange_of_censusNext (s := dropExchange (hunting s)) (a := a) hp hd h]
      rfl
    · rw [hskip, nextExchange_of_spent (s := dropExchange (hunting s)) h]
      rfl
    · rw [hskip, nextExchange_of_late (s := dropExchange (hunting s)) hp hd hl,
        newCycle_of_pollsNext (s := (dropExchange (hunting s)).overran) (a := a) h]
      exact congrArg (accept · _) (polling_hunting a { s.overran with loop := { l.cycleStarted with overrun := true } })
    · rw [hskip, nextExchange_of_late (s := dropExchange (hunting s)) hp hd hl,
        newCycle_of_idle (s := (dropExchange (hunting s)).overran) h]
      rfl
  · rw [loopReset, resetCycle_of_pollsNext (s := hunting s) (a := a) h]
    exact congrArg (accept · _) (polling_hunting a reset)
  · rw [loopReset, resetCycle_of_idle (s := hunting s) h]
    rfl
  · refine ⟨fun hr => congrArg _ (cycleExpired_of_running (by rw [ht]; rfl) hr), fun hr h => ?_, fun hr he h => ?_⟩
    · exact congrArg _ ((cycleExpired_of_resting (by rw [ht]; rfl) hr).trans (newCycle_of_pollsNext h))
    · refine congrArg _ ((cycleExpired_of_resting (by rw [ht]; rfl) hr).trans ((newCycle_of_idle h).trans ?_))
      rw [State.modLoop, Loop.restedAtOnce, Loop.rest, Loop.startCycle, he]
      rfl

end Sys2Proof.Machine
end

section
/-!
The requests that write the station table (R143, R144): the roles a payload names, the record stored, and the switch points
told of a binding that begins or ends.
-/

namespace Sys2Proof.Machine

variable {s t : State} {a : Sta} {k j : Sw} {new : Station} {role : Role} {p : List Byte}

/-! ### The role a payload names (R143) -/

theorem boundOf_numberOr0 {m : Nat} (b : Option (Fin m)) : boundOf m (numberOr0 b) = some b := by
  cases b with
  | none => rfl
  | some i =>
    rw [boundOf, numberOr0, if_neg (by rw [number]; omega), indexOf_number]
    rfl

theorem boundOf_eq_none {m n : Nat} (h : m < n) : boundOf m n = none := by
  rw [boundOf, if_neg (by omega), indexOf_eq_none.mpr (.inr h)]
  rfl

theorem parseRole_unknown (h : 1 < octetAt p 1 ∨ octetAt p 1 = 0 ∧ 16 < octetAt p 2 ∨
    octetAt p 1 = 1 ∧ (8 < octetAt p 2 ∨ 8 < octetAt p 3)) : parseRole p = none := by
  rcases h with h | ⟨h, hk⟩ | ⟨h, hk⟩
  · unfold parseRole
    split
    · omega
    · omega
    · rfl
  · rw [parseRole, h]
    rw [boundOf_eq_none hk]
    rfl
  · rw [parseRole, h]
    rcases hk with hk | hk
    · rw [boundOf_eq_none hk]
      rfl
    · rw [boundOf_eq_none hk]
      cases boundOf 8 (octetAt p 2) <;> rfl

theorem parseRole_switch {b : Option Sw} (h : octetAt p 1 = 0) (hb : octetAt p 2 = numberOr0 b) :
    parseRole p = some (.switch b) := by
  rw [parseRole, h, hb]
  rw [boundOf_numberOr0]
  rfl

theorem parseRole_boundary {sideA sideB : Option Sec} (h : octetAt p 1 = 1) (ha : octetAt p 2 = numberOr0 sideA)
    (hb : octetAt p 3 = numberOr0 sideB) : parseRole p = some (.boundary sideA sideB) := by
  rw [parseRole, h, ha, hb]
  rw [boundOf_numberOr0, boundOf_numberOr0]
  rfl

theorem boundElsewhere_iff {l : Loop} : l.boundElsewhere a role.switchPoint = true ↔
    ∃ (k : Sw) (b : Sta), role = .switch (some k) ∧ b ≠ a ∧ l.stations[b].role = .switch (some k) := by
  constructor
  · intro h
    rw [Loop.boundElsewhere, Bool.and_eq_true, Option.isSome_iff_exists, List.any_eq_true] at h
    obtain ⟨⟨k, hk⟩, b, -, hb⟩ := h
    rw [Bool.and_eq_true, decide_eq_true_eq, decide_eq_true_eq, hk] at hb
    exact ⟨k, b, Role.switchPoint_eq_some.mp hk, hb.1, Role.switchPoint_eq_some.mp hb.2⟩
  · rintro ⟨k, b, hrole, hb, hbound⟩
    by_contra hnot
    exact Loop.boundElsewhere_eq_false (Bool.eq_false_iff.mpr hnot) hb hrole hbound

/-! ### A binding that begins or ends (R118) -/

/-- Switch point with the news that station `a`, in CENSUS, binds it. -/
def SwitchPoint.boundTo (a : Sta) (w : SwitchPoint) : SwitchPoint := { w.takeState .census with bound := some a }

/-- Switch point with the news that its binding has ended. -/
def SwitchPoint.unbound (w : SwitchPoint) : SwitchPoint := { w.takeState .unconfigured with bound := none }

/-- Nothing is served over an absent station. -/
theorem swEvent_offline {f : SwitchPoint → SwitchPoint} (hq : (f s.sws[k]).queue = s.sws[k].queue)
    (hoff : (f s.sws[k]).station ≠ .online) :
    swEvent k false (fun s => s.modSw k f) s = s.switch k (f s.sws[k]) s.notices := by
  rw [swEvent_quiet (s := s) (t := s) (w := f s.sws[k]) (q := s.notices) rfl hq, SwitchPoint.serve_of_offline _ hoff]

theorem swBind_eq : swBind k a s = s.switch k (s.sws[k].boundTo a) s.notices :=
  swEvent_offline (f := SwitchPoint.boundTo a) SwitchPoint.takeState_queue
    (by rw [SwitchPoint.boundTo, SwitchPoint.takeState_station]; decide)

theorem swUnbind_eq : swUnbind k s = s.switch k s.sws[k].unbound s.notices :=
  swEvent_offline (f := SwitchPoint.unbound) SwitchPoint.takeState_queue
    (by rw [SwitchPoint.unbound, SwitchPoint.takeState_station]; decide)

theorem SwitchPoint.boundTo_of_online {w : SwitchPoint} (h : w.station = .online) :
    (w.boundTo a).position = .unknown ∧ (w.boundTo a).stage = .none ∧ (w.boundTo a).driveTimer = none ∧
    (w.lock = .none ∨ w.lock = .pinned → (w.boundTo a).lock = .noField) := by
  rw [SwitchPoint.boundTo, SwitchPoint.takeState, if_pos h]
  refine ⟨rfl, rfl, rfl, ?_⟩
  rintro (h | h) <;> rw [SwitchPoint.loseStation, h]

/-! ### The record rewritten -/

/-- Station `a` had the role `old` and now has `new`, and the switch points it bound and binds know it. -/
structure BindingMoved (a : Sta) (old new : Role) (sws sws' : Vector SwitchPoint 16) : Prop where
  binds : ∀ k : Sw, new = .switch (some k) → (sws[k].boundTo a).SameButCarried sws'[k]
  frees : ∀ k : Sw, old = .switch (some k) → new ≠ .switch (some k) → sws[k].unbound.SameButCarried sws'[k]
  keeps : ∀ k : Sw, old ≠ .switch (some k) → new ≠ .switch (some k) → sws[k].SameButCarried sws'[k]

theorem endBinding_eq {before after : Option Sw} : ∃ sws, endBinding before after s = { s with sws } ∧
    ∀ k : Sw, sws[k] = if before = some k ∧ after ≠ some k then s.sws[k].unbound else s.sws[k] := by
  cases before with
  | none => exact ⟨_, rfl, fun k => (if_neg nofun).symm⟩
  | some b =>
    by_cases h : after = some b
    · refine ⟨_, if_pos h, fun k => (if_neg ?_).symm⟩
      rintro ⟨hb, hk⟩
      exact hk (h.trans hb)
    · refine ⟨_, (if_neg h).trans swUnbind_eq, fun k => ?_⟩
      by_cases hk : k = b
      · subst hk
        rw [if_pos ⟨rfl, h⟩]
        exact Vector.getElem_set_self ..
      · rw [if_neg fun hnot => hk (Option.some.inj hnot.1).symm]
        exact Vector.getElem_set_ne b.isLt k.isLt fun heq => hk (Fin.ext heq.symm)

theorem storeStation_eq {relax : Nat} : ∃ sws,
    storeStation a role relax s =
      { s with loop := { s.loop with stations := s.loop.stations.set a { role, relax, state := .census } }, sws } ∧
    BindingMoved a s.loop.stations[a].role role s.sws sws := by
  obtain ⟨sws, heq, hsws⟩ := endBinding_eq (before := s.loop.stations[a].role.switchPoint) (after := role.switchPoint)
    (s := s.modStation a fun _ => { role, relax, state := .census })
  have hkeep (k : Sw) (h : s.loop.stations[a].role ≠ .switch (some k)) : sws[k] = s.sws[k] :=
    (hsws k).trans (if_neg fun hnot => h (Role.switchPoint_eq_some.mp hnot.1))
  have hfree (k : Sw) (h : s.loop.stations[a].role = .switch (some k)) (hne : role ≠ .switch (some k)) :
      sws[k] = s.sws[k].unbound :=
    (hsws k).trans (if_pos ⟨Role.switchPoint_eq_some.mpr h, fun hnot => hne (Role.switchPoint_eq_some.mp hnot)⟩)
  unfold storeStation
  dsimp only
  rw [heq]
  cases hp : role.switchPoint with
  | none =>
    have hrole (k : Sw) : role ≠ .switch (some k) := fun h => by
      rw [Role.switchPoint_eq_some.mpr h] at hp
      cases hp
    exact ⟨sws, rfl, fun k h => absurd h (hrole k), fun k h hne => by rw [hfree k h hne]; rfl,
      fun k h _ => by rw [hkeep k h]; rfl⟩
  | some b =>
    have hrole := Role.switchPoint_eq_some.mp hp
    have hsame : sws[b] = s.sws[b] := (hsws b).trans (if_neg fun hnot => hnot.2 hp)
    have hother (k : Sw) (h : role ≠ .switch (some k)) : (sws.set b (sws[b].boundTo a))[k] = sws[k] :=
      Vector.getElem_set_ne b.isLt k.isLt fun heq => h (by rw [hrole, Fin.ext heq])
    refine ⟨_, swBind_eq, fun k h => ?_, fun k h hne => ?_, fun k h hne => ?_⟩
    · obtain rfl : b = k := by
        rw [hrole] at h
        cases h
        rfl
      rw [← hsame, show (sws.set b (sws[b].boundTo a))[b] = _ from Vector.getElem_set_self ..]
      rfl
    · rw [hother k hne, hfree k h hne]
      rfl
    · rw [hother k hne, hkeep k h]
      rfl

theorem clearStation_eq : ∃ sws,
    clearStation a s = { s with loop := { s.loop with stations := s.loop.stations.set a {} }, sws } ∧
    BindingMoved a s.loop.stations[a].role .unset s.sws sws := by
  obtain ⟨sws, heq, hsws⟩ := endBinding_eq (before := s.loop.stations[a].role.switchPoint) (after := none) (s := s)
  unfold clearStation
  dsimp only
  rw [heq]
  refine ⟨sws, rfl, nofun, fun k h _ => ?_, fun k h _ => ?_⟩
  · rw [hsws, if_pos ⟨Role.switchPoint_eq_some.mpr h, nofun⟩]
    rfl
  · rw [hsws, if_neg fun hnot => h (Role.switchPoint_eq_some.mp hnot.1)]
    rfl

theorem addresses_eq_false {l : Loop} (h : ∀ e, l.exchange = some e → e.station ≠ a) : l.addresses a = false := by
  unfold Loop.addresses
  split
  · rfl
  next e he => exact decide_eq_false (h e he)

/-- An exchange with the station is aborted first and the next one chosen after; either way the record is rewritten once. -/
theorem rewriting_eq {f : State → State}
    (h : ∀ t : State, t.loop.stations = s.loop.stations → ∃ sws,
      f t = { t with loop := { t.loop with stations := t.loop.stations.set a new }, sws } ∧ BindingMoved a s.loop.stations[a].role new.role t.sws sws) :
    ∃ loop sws notices, rewriting a f s = { s with loop, sws, notices } ∧
      loop.stations = s.loop.stations.set a new ∧ BindingMoved a s.loop.stations[a].role new.role s.sws sws ∧
      ((∀ e, s.loop.exchange = some e → e.station ≠ a) →
        loop = { s.loop with stations := loop.stations } ∧ notices = s.notices) := by
  cases haddr : s.loop.addresses a with
  | false =>
    obtain ⟨sws, heq, hsws⟩ := h s rfl
    refine ⟨_, sws, _, (if_neg (by rw [haddr]; nofun)).trans heq, rfl, hsws, fun _ => ⟨rfl, rfl⟩⟩
  | true =>
    obtain ⟨sws, heq, hsws⟩ := h (dropExchange s) rfl
    obtain ⟨loop, sws', notices, hnext, ⟨-, hstations⟩, hmoved⟩ := nextExchange_moved (f (dropExchange s))
    have hsame {w : SwitchPoint} {k : Sw} (hk : w.SameButCarried sws[k]) : w.SameButCarried sws'[k] := by
      rw [SwitchPoint.SameButCarried, hmoved k, show (f (dropExchange s)).sws[k] = sws[k] by rw [heq], hk]
    refine ⟨loop, sws', notices, ?_, ?_, ⟨fun k hk => hsame (hsws.binds k hk), fun k hk hne => hsame (hsws.frees k hk hne),
      fun k hk hne => hsame (hsws.keeps k hk hne)⟩, fun hnot => ?_⟩
    · refine (if_pos haddr).trans (hnext.trans ?_)
      rw [heq]
      rfl
    · rw [hstations, heq]
      rfl
    · rw [addresses_eq_false hnot] at haddr
      cases haddr

theorem setStation_eq (ha : octetAt p 0 = number a) (hr : parseRole p = some role) (s : State) :
    setStation p s =
      if s.loop.boundElsewhere a role.switchPoint then refuseState s s.loop.stations[a].fields
      else accept (rewriting a (storeStation a role (min 3 (octetAt p 4))) s)
        (rewriting a (storeStation a role (min 3 (octetAt p 4))) s).loop.stations[a].fields := by
  rw [setStation, naming_named _ p _ a ha, hr]

theorem removeStation_eq (ha : octetAt p 0 = number a) (s : State) :
    removeStation p s =
      if s.loop.stations[a].state = .unconfigured then refuseState s [] else accept (rewriting a (clearStation a) s) [] :=
  naming_named _ p _ a ha

/-- Settles O43: either request rewrites one record, of which the switch points it bound and binds are told. -/
theorem stationRequestsWriteTheTable : Obligations.StationRequestsWriteTheTable := by
  intro a p s hs ha old frame
  have hframe {new : Station} {loop : Loop} {sws : Vector SwitchPoint 16} {notices : NoticeQueue}
      (hstations : loop.stations = s.loop.stations.set a new) (hsws : BindingMoved a s.loop.stations[a].role new.role s.sws sws)
      (hidle : (∀ e, s.loop.exchange = some e → e.station ≠ a) →
        loop = { s.loop with stations := loop.stations } ∧ notices = s.notices) :
      frame { s with loop, sws, notices } := by
    refine ⟨hidle, fun j hold hnew => hsws.keeps j hold ?_, rfl, rfl, rfl, rfl, rfl, rfl, rfl, rfl, rfl, rfl, rfl⟩
    have hself : loop.stations[a] = new := by rw [hstations]; exact Vector.getElem_set_self ..
    exact hself ▸ hnew
  refine ⟨fun hp hbad => taken_when_ready hs hp ?_, fun role hp hrole => ?_,
    fun hp => ⟨fun hun => taken_when_ready hs hp ?_, fun hun => ?_⟩⟩
  · rw [setStation, naming_named _ p _ a ha, parseRole_unknown hbad]
    rfl
  · intro new
    have hparse : parseRole p = some role := by
      rcases hrole with ⟨h, ⟨hb, rfl⟩ | ⟨k, hb, rfl⟩⟩ | ⟨h, sideA, sideB, hsideA, hsideB, rfl⟩
      · exact parseRole_switch h hb
      · exact parseRole_switch (b := some k) h hb
      · exact parseRole_boundary h hsideA hsideB
    have hset := setStation_eq ha hparse (hunting s)
    rw [Nat.min_comm] at hset
    refine ⟨fun k b hk hb hbound => taken_when_ready hs hp (hset.trans (if_pos ?_)), fun hfree => ?_⟩
    · exact boundElsewhere_iff.mpr ⟨k, b, hk, hb, hbound⟩
    · obtain ⟨loop, sws, notices, heq, hstations, hsws, hidle⟩ := rewriting_eq (s := hunting s) (a := a)
        (f := storeStation a role (min (octetAt p 4) 3)) (new := new) fun t ht => ht ▸ storeStation_eq
      have hself : loop.stations[a] = new := by rw [hstations]; exact Vector.getElem_set_self ..
      rw [if_neg fun h => by
        obtain ⟨k, b, hk, hb, hbound⟩ := boundElsewhere_iff.mp h
        exact hb (hfree k b hk hbound), heq] at hset
      refine ⟨{ s with loop, sws, notices }, taken_when_ready hs hp (hset.trans ?_), hframe hstations hsws hidle, hstations, fun k hk => ?_,
        fun k hk hne => ?_⟩
      · rw [← hself]
        rfl
      · have hbound := hsws.binds k hk
        rw [SwitchPoint.SameButCarried] at hbound
        refine ⟨(congrArg SwitchPoint.bound hbound).trans rfl, (congrArg SwitchPoint.station hbound).trans ?_, fun hon => ?_⟩
        · exact SwitchPoint.takeState_station
        · obtain ⟨hposition, hstage, htimer, hlock⟩ := SwitchPoint.boundTo_of_online (a := a) hon
          exact ⟨(congrArg SwitchPoint.position hbound).trans hposition, (congrArg SwitchPoint.stage hbound).trans hstage,
            (congrArg SwitchPoint.driveTimer hbound).trans htimer,
            fun h => (congrArg SwitchPoint.lock hbound).trans (hlock h)⟩
      · have hfreed := hsws.frees k hk hne
        rw [SwitchPoint.SameButCarried] at hfreed
        exact (congrArg SwitchPoint.bound hfreed).trans rfl
  · exact (removeStation_eq ha _).trans (if_pos hun)
  · obtain ⟨loop, sws, notices, heq, hstations, hsws, hidle⟩ := rewriting_eq (s := hunting s) (f := clearStation a) (a := a)
      (new := {}) fun t ht => ht ▸ clearStation_eq
    refine ⟨{ s with loop, sws, notices }, taken_when_ready hs hp ((removeStation_eq ha (hunting s)).trans ?_),
      hframe (new := {}) hstations hsws hidle, hstations, fun k hk => ?_⟩
    · refine (if_neg hun).trans ?_
      rw [heq]
      rfl
    have hfreed := hsws.frees k hk nofun
    rw [SwitchPoint.SameButCarried] at hfreed
    exact (congrArg SwitchPoint.bound hfreed).trans rfl

end Sys2Proof.Machine
end

section
/-!
What an arrival's results may change (R21 to R24, R36, R49 to R52), and the pairs of the Line Test Unit (R82).
-/

namespace Sys2Proof.Machine

variable {s t : State} {n m : Sec} {r : Section} {q : NoticeQueue} {c : Cause} {v : TripValues}

/-! ### A trip request on the section's own record (R49 to R52) -/

theorem leaveTripping_put : ∃ r' q', leaveTripping n (s.put n r q) = s.put n r' q' ∧ r'.feedback = r.feedback := by
  unfold leaveTripping
  rw [State.put_sec]
  dsimp only
  split
  · exact ⟨r, q, rfl, rfl⟩
  next t _ =>
    rw [modSec_put, queueNotice_put]
    split
    · exact ⟨_, _, enter_put .., rfl⟩
    · exact ⟨_, _, enterLockout_put .., rfl⟩
    · exact ⟨_, _, enterDead_put .., rfl⟩

/-- What section state a trip comes from (R49). -/
def SecState.origin : SecState → Origin
  | .closed => .closed
  | .reclaim => .reclaim
  | _ => .closing

/-- The record after a trip request, its breaker not yet reading OPEN: a trip started, joined, or no trip (R49, R51). -/
def Section.requested (c : Cause) (v : TripValues) (complete : Bool) (r : Section) : Section :=
  if r.state ∈ [.closed, .reclaim, .closing] then
    (r.sequenced r.state.origin).tripping
      { first := c, causes := [c], principal := c, values := v, complete, origin := r.state.origin }
  else if r.state = .tripping then { r with record := r.record.map (TripRecord.join c) }
  else r

/-- A trip of this section would not find its breaker OPEN already. -/
def Section.Calm (r : Section) : Prop := r.state ∈ [.closed, .reclaim, .closing] → r.feedback ≠ .opened

theorem Section.requested_start (complete : Bool) (h : r.state ∈ [.closed, .reclaim, .closing]) :
    r.requested c v complete = (r.sequenced r.state.origin).tripping
      { first := c, causes := [c], principal := c, values := v, complete, origin := r.state.origin } := if_pos h

theorem Section.requested_join (complete : Bool) (h : r.state = .tripping) :
    r.requested c v complete = { r with record := r.record.map (TripRecord.join c) } := by
  rw [requested, if_neg (by rw [h]; decide), if_pos h]

theorem Section.requested_none (complete : Bool) (h : r.state ∉ [.closed, .reclaim, .closing, .tripping]) :
    r.requested c v complete = r := by
  simp only [List.mem_cons, List.not_mem_nil, or_false, not_or] at h
  obtain ⟨h₁, h₂, h₃, h₄⟩ := h
  rw [requested, if_neg (by simp [h₁, h₂, h₃]), if_neg h₄]

theorem tripRequest_starts (h : s.secs[n].state ∈ [.closed, .reclaim, .closing]) :
    tripRequest n c v s = startTrip n c s.secs[n].state.origin v s := by
  rw [tripRequest]
  simp only [List.mem_cons, List.not_mem_nil, or_false] at h
  rcases h with h | h | h <;> rw [h] <;> rfl

theorem tripRequest_joins (h : s.secs[n].state = .tripping) :
    tripRequest n c v s = s.put n { s.secs[n] with record := s.secs[n].record.map (TripRecord.join c) } s.notices := by
  rw [tripRequest, h]
  rfl

/-- A trip request changes the section's own record, its buffer, the power it reports and the notices. -/
theorem tripRequest_moves (n : Sec) (c : Cause) (v : TripValues) (s : State) : ∃ caps power sws r q,
    tripRequest n c v s = State.put { s with caps, sws, vt := { s.vt with power } } n r q ∧
    r.feedback = s.secs[n].feedback ∧ (s.caps[n].state ≠ .awaitTrip → caps = s.caps) ∧
    (s.secs[n].Calm → r = s.secs[n].requested c v (decide (s.fpus[n].state ≠ .lost)) ∧
      (s.caps[n].state ≠ .awaitTrip → q = s.notices)) := by
  by_cases hst : s.secs[n].state ∈ [.closed, .reclaim, .closing]
  · obtain ⟨caps, power, sws, q', hquiet, htrip⟩ := startTrip_put_any (s := s) (n := n) (r := s.secs[n]) (q := s.notices) c
      s.secs[n].state.origin v
    rw [s.put_self n] at htrip
    rw [tripRequest_starts hst, htrip]
    by_cases hf : s.secs[n].feedback = .opened
    · obtain ⟨r', q'', hleave, hfeedback⟩ := leaveTripping_put (s := { s with caps, sws, vt := { s.vt with power } }) (n := n)
        (r := (s.secs[n].sequenced s.secs[n].state.origin).tripping (newRecord n c s.secs[n].state.origin v s)) (q := q')
      refine ⟨caps, power, sws, r', q'', (if_pos hf).trans hleave, ?_, fun h => (hquiet h).1, fun h => absurd hf (h hst)⟩
      exact hfeedback.trans (s.secs[n].sequenced_kept _).2
    · exact ⟨caps, power, sws, _, q', if_neg hf, (s.secs[n].sequenced_kept _).2, fun h => (hquiet h).1,
        fun _ => ⟨(Section.requested_start _ hst).symm, fun h => (hquiet h).2⟩⟩
  · by_cases htrip : s.secs[n].state = .tripping
    · exact ⟨s.caps, s.vt.power, s.sws, _, s.notices, tripRequest_joins htrip, rfl, fun _ => rfl,
        fun _ => ⟨(Section.requested_join _ htrip).symm, fun _ => rfl⟩⟩
    · have hnone : s.secs[n].state ∉ [.closed, .reclaim, .closing, .tripping] := by
        simp only [List.mem_cons, List.not_mem_nil, or_false, not_or] at hst ⊢
        exact ⟨hst.1, hst.2.1, hst.2.2, htrip⟩
      exact ⟨s.caps, s.vt.power, s.sws, s.secs[n], s.notices,
        (tripRequest_discarded c v hnone).trans (s.put_self n).symm, rfl, fun _ => rfl,
        fun _ => ⟨(Section.requested_none _ hnone).symm, fun _ => rfl⟩⟩

/-! ### The hand-overs of an arrival (R21 to R24) -/

/-- What the hand-overs of section `n` may change: generators, buffers, its own record, the power it reports, notices. -/
def HandedOver (n : Sec) (s t : State) : Prop :=
  ∃ gens caps power sws r q, t = State.put { s with gens, caps, sws, vt := { s.vt with power } } n r q

theorem HandedOver.of_frame {gens : Vector Generator 8} {caps : Vector Capture 8} {q : NoticeQueue} :
    HandedOver n s { s with gens, caps, notices := q } :=
  ⟨gens, caps, _, _, s.secs[n], q, (State.put_self { s with gens, caps, notices := q } n).symm⟩

theorem HandedOver.refl (s : State) : HandedOver n s s := .of_frame

theorem HandedOver.trans {u : State} (h : HandedOver n s t) (h' : HandedOver n t u) : HandedOver n s u := by
  obtain ⟨_, _, _, _, r, q, rfl⟩ := h
  obtain ⟨gens, caps, power, sws, r', q', rfl⟩ := h'
  exact ⟨gens, caps, power, sws, r', q', State.put_put { s with gens, caps, sws, vt := { s.vt with power } } n r q r' q'⟩

theorem HandedOver.forEach {ι : Type} {l : List ι} {f : ι → State → State} (h : ∀ i t, HandedOver n t (f i t)) (s : State) :
    HandedOver n s (forEach l f s) := by
  induction l generalizing s with
  | nil => exact .refl s
  | cons i l ih => exact (h i s).trans (ih _)

theorem tripRequest_handed (n : Sec) (c : Cause) (v : TripValues) (s : State) : HandedOver n s (tripRequest n c v s) := by
  obtain ⟨caps, power, sws, r, q, h, -⟩ := tripRequest_moves n c v s
  exact ⟨_, caps, power, sws, r, q, h⟩

/-- A capture entry changes the Capture Buffers and may queue notices. -/
def Captured (s t : State) : Prop := ∃ caps notices, t = { s with caps, notices }

theorem Captured.refl (s : State) : Captured s s := ⟨_, _, rfl⟩

theorem Captured.trans {u : State} (h : Captured s t) (h' : Captured t u) : Captured s u := by
  obtain ⟨_, _, rfl⟩ := h
  obtain ⟨_, _, rfl⟩ := h'
  exact ⟨_, _, rfl⟩

theorem Captured.handed (h : Captured s t) : HandedOver n s t := by
  obtain ⟨_, _, rfl⟩ := h
  exact .of_frame

theorem captureAppend_captured (e : CaptureEntry) : Captured s (captureAppend n e s) := by
  unfold captureAppend
  dsimp only
  split <;> exact ⟨_, _, rfl⟩

theorem captureRing_captured (e : CaptureEntry) : Captured s (captureRing n e s) := by
  unfold captureRing
  dsimp only
  split
  · split
    · exact captureAppend_captured e
    · split <;> exact ⟨_, _, rfl⟩
  · exact captureAppend_captured e

theorem captureCandidate_captured (e : CaptureEntry) : Captured s (captureCandidate n e s) := by
  unfold captureCandidate
  split
  · exact .refl s
  · exact .refl s
  · exact .refl s
  · dsimp only
    split
    · exact (captureAppend_captured e).trans ⟨_, _, rfl⟩
    · exact captureAppend_captured e
  · exact captureRing_captured e
  · exact captureRing_captured e
  · dsimp only
    split
    · exact (captureRing_captured e).trans ⟨_, _, rfl⟩
    · exact (captureRing_captured e).trans ⟨_, _, rfl⟩
  · split
    · exact captureRing_captured e
    · exact .refl s

theorem captureEntry_captured (e : CaptureEntry) : Captured s (captureEntry n e s) := by
  unfold captureEntry
  dsimp only
  split
  · exact .refl s
  · split
    · exact Captured.trans ⟨_, _, rfl⟩ (captureCandidate_captured e)
    · exact ⟨_, _, rfl⟩

theorem evaluateGenerator_handed (e : CaptureEntry) (g : Gen) : HandedOver n s (evaluateGenerator n e g s) := by
  have hgates {f : State → State} (h : ∀ t, ∃ gens caps notices, f t = { t with gens, caps, notices }) (t : State) :
      HandedOver n t (f t) := by
    obtain ⟨gens, caps, notices, heq⟩ := h t
    rw [heq]
    exact .of_frame
  have htell (before : Bool) := hgates (f := tellChange g before) fun t => by
    unfold tellChange
    dsimp only
    split <;> exact ⟨_, _, _, rfl⟩
  have hlook : HandedOver n s (s.modGen g fun _ => (s.gens[g].evaluated e (s.present n) s.secs[n].feedback).1) := .of_frame
  unfold evaluateGenerator
  dsimp only
  split
  · refine .trans (.trans hlook (.trans ?_ (htell _ _))) (tripRequest_handed ..)
    split <;> exact .of_frame
  · refine .trans hlook (.trans ?_ (htell _ _))
    split <;> exact .of_frame

theorem handTrips_handed (j : Judged) : HandedOver n s (handTrips n j s) := by
  have hand (b : Bool) (c : Cause) (v : TripValues) (s : State) : HandedOver n s (if b then tripRequest n c v s else s) := by
    split
    · exact tripRequest_handed ..
    · exact .refl s
  exact (hand j.instant .instant _ s).trans ((hand j.step .step _ _).trans (hand j.sustained .sustained _ _))

theorem handOver_handed (gens : List Gen) (j : Judged) (h : HandOver) (s : State) : HandedOver n s (handOver gens n j h s) := by
  cases h with
  | trips => exact handTrips_handed j
  | values =>
    refine .forEach (fun g t => ?_) s
    split
    · exact evaluateGenerator_handed j.entry g
    · exact .refl t
  | entry => exact (captureEntry_captured j.entry).handed

theorem HandedOver.arb (h : HandedOver n s t) : t.arb = s.arb := by
  obtain ⟨_, _, _, _, _, _, rfl⟩ := h
  rfl

/-! ### The pairs of a frame (R82) -/

theorem arrival_arb (n : Sec) (i : Int) (u : Nat) (s : State) : (arrival n i u s).arb = s.arb := by
  have hrestored : (reportRestored n s).arb = s.arb := by
    unfold reportRestored
    split <;> rfl
  exact (HandedOver.forEach (handOver_handed _ _) _).arb.trans hrestored

theorem deliverSets_arb (f : SampleFrame) (order : List Sec) (s : State) : (deliverSets f order s).arb = s.arb := by
  refine forEach_keeps (P := fun t => t.arb = s.arb) order (fun n _ t h => ?_) s rfl
  split
  · exact (arrival_arb n _ _ t).trans h
  · exact h

theorem takeCount_arb (got : Byte) (s : State) : (takeCount got s).arb = s.arb := by
  unfold takeCount
  dsimp only
  split
  · rfl
  · split <;> rfl

theorem getLsbD_zero_iff (b : Byte) : b.getLsbD 0 = true ↔ b.toNat % 2 = 1 := by
  rw [BitVec.getLsbD, Nat.testBit_zero, decide_eq_true_eq]

/-- The fields of a complete frame (R186). -/
def sampleFrameOf (p : List Byte) : SampleFrame :=
  { count := p.getD 0 0
    current := Vector.ofFn fun n : Sec => currentOf (halfAt p (1 + 2 * n.val))
    voltage := Vector.ofFn fun n : Sec => halfAt p (17 + 2 * n.val) % 4096
    ubus := halfAt p 33 % 4096
    valid := Vector.ofFn fun n : Sec => (p.getD 37 0).getLsbD n.val && (p.getD 36 0).getLsbD n.val
    ubusValid := (p.getD 35 0).getLsbD 0 }

theorem sampleFrame_exec {p : List Byte} (h : 38 ≤ p.length) (s : State) :
    exec (.sampleFrame p) s = .next (takeFrame (sampleFrameOf p) s) := by
  have hparse : parseSampleFrame p = some (sampleFrameOf p) := if_neg (Nat.not_lt.mpr h)
  refine congrArg Host.Outcome.next ?_
  rw [sampleFrameEnded, hparse]

theorem sampleFrameOf_valid (p : List Byte) (n : Sec) :
    (sampleFrameOf p).valid[n] = (p.getD 36 0 &&& p.getD 37 0).getLsbD n.val := by
  rw [BitVec.getLsbD_and, Bool.and_comm]
  exact Vector.getElem_ofFn ..

theorem sampleFrameOf_voltage (p : List Byte) (n : Sec) :
    (sampleFrameOf p).voltage[n] = halfAt p (17 + 2 * n.val) % 4096 := Vector.getElem_ofFn ..

theorem sampleFrameOf_current (p : List Byte) (n : Sec) :
    (sampleFrameOf p).current[n] = (BitVec.ofNat 15 (halfAt p (1 + 2 * n.val))).toInt := Vector.getElem_ofFn ..

theorem sampleFrameOf_ubusValid (p : List Byte) : (sampleFrameOf p).ubusValid = true ↔ octetAt p 35 % 2 = 1 :=
  getLsbD_zero_iff _

theorem takeFrame_arb (f : SampleFrame) (s : State) :
    (takeFrame f s).arb = { s.arb with contexts := s.arb.contexts.map (Option.map (TestContext.deliver f)) } := by
  have harb : (deliverSets f s.order (takeCount f.count s)).arb = s.arb := (deliverSets_arb ..).trans (takeCount_arb ..)
  rw [← harb]
  rfl

/-- Settles O35: the sections' arrivals leave the arbiter alone, and each context is mapped by `TestContext.deliver`. -/
theorem voltagePairsAreTaken : Obligations.VoltagePairsAreTaken := by
  intro p s hp
  have hcontext (c : Circuit) : (takeFrame (sampleFrameOf p) s).arb.contexts[c] =
      s.arb.contexts[c].map (TestContext.deliver (sampleFrameOf p)) := by
    rw [takeFrame_arb]
    exact Vector.getElem_map ..
  refine ⟨_, sampleFrame_exec hp s, ?_, fun c hc => ?_, fun c x hx => ⟨fun h => ?_, fun h => ?_⟩⟩
  · rw [takeFrame_arb]
  · rw [hcontext, hc]
    rfl
  · obtain ⟨hvalid, hbus⟩ := h
    rw [hcontext, hx, Option.map_some, TestContext.deliver, sampleFrameOf_valid, hvalid,
      (sampleFrameOf_ubusValid p).mpr hbus, sampleFrameOf_voltage]
    rfl
  · rw [hcontext, hx, Option.map_some, TestContext.deliver, if_neg fun hboth => h ?_]
    rwa [Bool.and_eq_true, sampleFrameOf_valid, sampleFrameOf_ubusValid] at hboth

end Sys2Proof.Machine
end

section
/-!
Frames not taken in full, and measurement loss (R1, R2, R5, R6, R7).
-/

namespace Sys2Proof.Machine

variable {s t : State} {n m : Sec} {p : List Byte} {f : SampleFrame} {cause : LossCause}

/-! ### A frame that vouches for no channel (R1, R2) -/

theorem forEach_self {ι : Type} {l : List ι} {f : ι → State → State} (h : ∀ i ∈ l, f i s = s) : forEach l f s = s := by
  induction l with
  | nil => rfl
  | cons i l ih =>
    rw [forEach_cons, h i (List.mem_cons_self ..)]
    exact ih fun j hj => h j (List.mem_cons_of_mem i hj)

theorem deliverSets_none (h : ∀ n : Sec, f.valid[n] = false) (order : List Sec) (s : State) : deliverSets f order s = s :=
  forEach_self fun n _ => if_neg (by rw [h n]; nofun)

theorem deliverToLineTest_none (h : ∀ (c : Circuit) (x : TestContext), s.arb.contexts[c] = some x →
    (f.valid[x.sec] && f.ubusValid) = false) : deliverToLineTest f s = s := by
  have hcontexts : s.arb.contexts.map (Option.map (TestContext.deliver f)) = s.arb.contexts := by
    refine Vector.ext fun i hi => ?_
    rw [Vector.getElem_map]
    cases hx : s.arb.contexts[i] with
    | none => rfl
    | some x => exact congrArg some (if_neg (by rw [h ⟨i, hi⟩ x hx]; nofun))
  unfold deliverToLineTest State.modArb
  dsimp only
  rw [hcontexts]

theorem word_octet (b : Byte) : word b.toNat = b.setWidth 16 := by
  have hb := b.isLt
  rw [word_of_le (by omega), BitVec.ofNat_toNat]

theorem takeCount_jump {c : Byte} (hc : s.port.prevCount = some c) {got : Byte} (hne : c + 1 ≠ got) :
    takeCount got s = { countJump (c + 1) got s with port := { prevCount := some got, frameTimer := some 2 } } := by
  unfold takeCount
  rw [hc]
  dsimp only
  rw [if_neg hne]

/-! ### A section that enters LOST (R7) -/

/-- The state as section `n` has entered LOST, before its action. -/
def State.lost (n : Sec) (cause : LossCause) (s : State) : State :=
  { s with
    fpus := s.fpus.set n (s.fpus[n].enterLost cause s.clock)
    notices := s.noticed .measLost 5 (.sec n) [word cause.code, word s.fpus[n].protection.lossAction.code, s.fpus[n].lastSeq] }

theorem State.lost_fpu : (s.lost n cause).fpus[n] = s.fpus[n].enterLost cause s.clock := Vector.getElem_set_self ..

theorem enterLost_eq : enterLost n cause s =
    match s.fpus[n].protection.lossAction with
    | .trip => tripRequest n .measLoss (ownValues n (s.lost n cause)) (s.lost n cause)
    | .block => s.lost n cause := by
  have hfpu : (s.modFpu n (Fpu.enterLost cause s.clock)).fpus[n] = s.fpus[n].enterLost cause s.clock := updateAt_same ..
  unfold enterLost
  dsimp only
  rw [hfpu]
  rfl

theorem enterLost_blocks (h : s.fpus[n].protection.lossAction = .block) : enterLost n cause s = s.lost n cause := by
  rw [enterLost_eq, h]

theorem enterLost_trips (h : s.fpus[n].protection.lossAction = .trip) :
    enterLost n cause s = tripRequest n .measLoss (ownValues n (s.lost n cause)) (s.lost n cause) := by
  rw [enterLost_eq, h]

theorem enterLost_ignored
    (h : s.fpus[n].protection.lossAction = .block ∨ s.secs[n].state ∉ [.closed, .reclaim, .closing, .tripping]) :
    enterLost n cause s = s.lost n cause := by
  cases ha : s.fpus[n].protection.lossAction with
  | block => exact enterLost_blocks ha
  | trip =>
    refine (enterLost_trips ha).trans (tripRequest_discarded (s := s.lost n cause) _ _ (h.resolve_left ?_))
    rw [ha]
    nofun

theorem lossExpired_eq {left : Nat} (hf : s.fpus[n].state ≠ .lost) (ht : s.fpus[n].lossTimer = some left) :
    lossExpired n s = enterLost n .channels s :=
  if_pos (by rw [ht, decide_eq_true hf]; rfl)

theorem startTrip_calm {c : Cause} {o : Origin} {v : TripValues} (hcap : s.caps[n].state ≠ .awaitTrip)
    (hf : s.secs[n].feedback ≠ .opened) : startTrip n c o v s =
      (if s.secs[n].state.powered then s.reported n false else s).put n
        ((s.secs[n].sequenced o).tripping (newRecord n c o v s)) s.notices := by
  have htriggered : s.triggered n c = s := by rw [State.triggered, if_neg hcap]
  have hstart := startTrip_put (s := s) (n := n) (r := s.secs[n]) (q := s.notices) c (o := o) v (absurd · hcap)
  rw [s.put_self n] at hstart
  rw [hstart, if_neg hf, State.tripStarted_eq, htriggered]

/-! ### Frame silence (R6) -/

/-- What measurement loss may change: sections, their buffers, their FPUs, the power they report, notices. -/
def LossMoved (s t : State) : Prop :=
  ∃ fpus caps secs power sws notices, t = { s with fpus, caps, secs, sws, notices, vt := { s.vt with power } }

theorem LossMoved.refl (s : State) : LossMoved s s := ⟨_, _, _, _, _, _, rfl⟩

theorem LossMoved.trans {u : State} (h : LossMoved s t) (h' : LossMoved t u) : LossMoved s u := by
  obtain ⟨_, _, _, _, _, _, rfl⟩ := h
  obtain ⟨_, _, _, _, _, _, rfl⟩ := h'
  exact ⟨_, _, _, _, _, _, rfl⟩

/-- A section's FPU and its record. -/
def State.feeder (s : State) (n : Sec) : Fpu × Section := (s.fpus[n], s.secs[n])

/-- What a loss makes of a section. -/
structure Lost (cause : LossCause) (now : ClockValue) (x y : Fpu × Section) : Prop where
  fpu : y.1 = x.1.enterLost cause now
  blocked : x.1.protection.lossAction = .block → y.2 = x.2
  tripped : x.1.protection.lossAction = .trip → x.2.state = .closed → x.2.feedback ≠ .opened →
    y.2.state = .tripping ∧ ∃ tr, y.2.record = some tr ∧ tr.causes = [.measLoss]

theorem enterLost_served : LossMoved s (enterLost n cause s) ∧
    Lost cause s.clock (s.feeder n) ((enterLost n cause s).feeder n) ∧
    ∀ m : Sec, m ≠ n → (enterLost n cause s).feeder m = s.feeder m := by
  have hother {m : Sec} (hm : m ≠ n) : (s.lost n cause).fpus[m] = s.fpus[m] :=
    Vector.getElem_set_ne n.isLt m.isLt fun h => hm (Fin.ext h.symm)
  cases ha : s.fpus[n].protection.lossAction with
  | block =>
    rw [enterLost_blocks ha]
    exact ⟨⟨_, _, _, _, _, _, rfl⟩, ⟨State.lost_fpu, fun _ => rfl, fun h => absurd (ha.symm.trans h) nofun⟩,
      fun m hm => Prod.ext (hother hm) rfl⟩
  | trip =>
    obtain ⟨caps, power, sws, r, q, htrip, -, -, hcalm⟩ :=
      tripRequest_moves n .measLoss (ownValues n (s.lost n cause)) (s.lost n cause)
    rw [enterLost_trips ha, htrip]
    refine ⟨⟨_, _, _, _, _, _, rfl⟩, ⟨State.lost_fpu, fun h => absurd (ha.symm.trans h) nofun, fun _ hst hf => ?_⟩,
      fun m hm => Prod.ext (hother hm) (State.put_other _ _ _ hm)⟩
    have hin : s.secs[n].state ∈ [.closed, .reclaim, .closing] := by rw [show s.secs[n].state = .closed from hst]; decide
    obtain ⟨hr, -⟩ := hcalm fun _ => hf
    change (State.put _ n r q).secs[n].state = _ ∧ ∃ tr, (State.put _ n r q).secs[n].record = _ ∧ _
    rw [State.put_sec, hr.trans (Section.requested_start (r := s.secs[n]) _ hin)]
    exact ⟨rfl, _, rfl, rfl⟩

/-- Settles O60: a loss is `State.lost` and perhaps a trip; silence is one loss for each section not yet LOST. -/
theorem framesLostAndMissing : Obligations.FramesLostAndMissing := by
  intro s n p left f lost gone
  have hgone : s.lost n .channels = gone := by
    unfold State.lost gone lost
    cases s.fpus[n].protection.lossAction <;> rfl
  refine ⟨fun hp => ?_, fun c hp hnone hc hne => (sampleFrame_exec hp s).trans (congrArg _ ?_), fun hf ht hor => ?_,
    fun hf ht ha hst hfb hh hcap => ?_, fun time ht => ?_⟩
  · refine congrArg Host.Outcome.next ?_
    rw [sampleFrameEnded, show parseSampleFrame p = none from if_pos hp]
  · have hvalid (m : Sec) : (sampleFrameOf p).valid[m] = false := by
      rw [sampleFrameOf_valid, hnone]
      exact BitVec.getLsbD_zero
    rw [takeFrame, deliverSets_none hvalid, deliverToLineTest_none fun _ x _ => by rw [hvalid]; rfl,
      takeCount_jump (got := (sampleFrameOf p).count) hc hne, ← word_octet, ← word_octet]
    rfl
  · exact congrArg Host.Outcome.next ((lossExpired_eq hf ht).trans ((enterLost_ignored hor).trans hgone))
  · refine congrArg Host.Outcome.next ((lossExpired_eq hf ht).trans ((enterLost_trips ha).trans ?_))
    have hpower : gone.secs[n].state.powered = true := by rw [show gone.secs[n].state = .closed from hst]; rfl
    have hstart := startTrip_calm (s := gone) (c := .measLoss) (o := .closed) (v := ownValues n gone) hcap hfb
    rw [if_pos hpower] at hstart
    rw [hgone, tripRequest_starts (s := gone) (by rw [show gone.secs[n].state = .closed from hst]; decide),
      show gone.secs[n].state = .closed from hst]
    have hfpu : gone.fpus[n] = lost .channels f := Vector.getElem_set_self ..
    refine hstart.trans ?_
    rw [newRecord, ownValues, hfpu]
    rfl
  · let s₀ : State := { s with port := { prevCount := none, frameTimer := none } }
    obtain ⟨hmoved, hserved⟩ := forEach_turns (own := State.feeder) (I := LossMoved s₀) (l := s.order) (s := s₀)
      (P := fun _ x y => (x.1.state = .lost → y = x) ∧ (x.1.state ≠ .lost → Lost .frames s.clock x y)) (Q := fun x y => y = x)
      (f := fun n s => if s.fpus[n].state = .lost then s else enterLost n .frames s)
      (fun _ => rfl) (fun _ _ _ h h' => h'.trans h) (fun _ _ _ _ h h' => h ▸ h') (fun _ _ _ _ h h' => h' ▸ h)
      (fun n t hI => by
        have hclock : t.clock = s.clock := by
          obtain ⟨_, _, _, _, _, _, rfl⟩ := hI
          rfl
        by_cases hlost : t.fpus[n].state = .lost
        · rw [if_pos hlost]
          exact ⟨hI, ⟨fun _ => rfl, fun h => absurd hlost h⟩, fun _ _ => rfl⟩
        · obtain ⟨hmoved, hown, hother⟩ := enterLost_served (s := t) (n := n) (cause := .frames)
          rw [if_neg hlost]
          exact ⟨hI.trans hmoved, ⟨fun h => absurd h hlost, fun _ => hclock ▸ hown⟩, hother⟩)
      s.order_nodup (.refl s₀)
    generalize hlast : forEach s.order (fun n s => if s.fpus[n].state = .lost then s else enterLost n .frames s) s₀ = u
      at hmoved hserved
    have hexec : exec .frameSilence s = .next u.drawn :=
      congrArg Host.Outcome.next ((if_pos (by rw [ht]; rfl)).trans (congrArg State.drawn hlast))
    have hown (m : Sec) := (hserved m).1 (s.mem_order m)
    obtain ⟨fpus, caps, secs, power, sws, notices, rfl⟩ := hmoved
    refine ⟨_, hexec, rfl, rfl, fun m hm => ((hown m).2 hm).fpu, fun m hm => ?_, fun m ha => ?_, fun m hm ha hst hfb => ?_,
      rfl, rfl, rfl, rfl, rfl, rfl, rfl, rfl⟩
    · exact Prod.ext_iff.mp ((hown m).1 hm)
    · by_cases hm : s.fpus[m].state = .lost
      · exact (Prod.ext_iff.mp ((hown m).1 hm)).2
      · exact ((hown m).2 hm).blocked ha
    · exact ((hown m).2 hm).tripped ha hst hfb

end Sys2Proof.Machine
end

section
/-!
A frame with one section's sample set (R1 to R3), its arrival (R12 to R24), and the trips it raises.
-/

namespace Sys2Proof.Machine

variable {s t : State} {n m : Sec} {r : Section} {p : List Byte} {j : Judged} {complete : Bool}

/-! ### Several trip requests in turn (R21, R49 to R51) -/

/-- A request as it is raised: its cause and its values. -/
abbrev TripRequests := List (Cause × TripValues)

/-- The requests are handed over one by one. -/
def requestAll (n : Sec) (l : TripRequests) (s : State) : State := forEach l (fun x => tripRequest n x.1 x.2) s

/-- What several requests make of the record of a section whose breaker does not read OPEN. -/
def Section.requestedAll (complete : Bool) (l : TripRequests) (r : Section) : Section :=
  l.foldl (fun r x => r.requested x.1 x.2 complete) r

/-- The trip record once the requests have joined it. -/
def TripRecord.joinAll (l : TripRequests) (t : TripRecord) : TripRecord := l.foldl (fun t x => t.join x.1) t

theorem Section.Calm.requested {c : Cause} {v : TripValues} (h : r.Calm) : (r.requested c v complete).Calm := by
  by_cases hst : r.state ∈ [.closed, .reclaim, .closing]
  · rw [Section.requested_start _ hst]
    exact nofun
  · by_cases htrip : r.state = .tripping
    · rw [Section.requested_join _ htrip]
      exact fun hin => absurd hin hst
    · rw [Section.requested, if_neg hst, if_neg htrip]
      exact h

theorem requestAll_moves (n : Sec) (l : TripRequests) {s : State} (hcap : s.caps[n].state ≠ .awaitTrip) :
    ∃ power sws r q, requestAll n l s = State.put { s with sws, vt := { s.vt with power } } n r q ∧
      r.feedback = s.secs[n].feedback ∧
      (s.secs[n].Calm → r = s.secs[n].requestedAll (decide (s.fpus[n].state ≠ .lost)) l ∧ q = s.notices) := by
  induction l generalizing s with
  | nil => exact ⟨s.vt.power, s.sws, s.secs[n], s.notices, (s.put_self n).symm, rfl, fun _ => ⟨rfl, rfl⟩⟩
  | cons x l ih =>
    obtain ⟨caps, power, sws, r, q, htrip, hfeedback, hcaps, hcalm⟩ := tripRequest_moves n x.1 x.2 s
    obtain rfl := hcaps hcap
    obtain ⟨power', sws', r', q', hrest, hfeedback', hcalm'⟩ :=
      ih (s := State.put { s with sws, vt := { s.vt with power } } n r q) hcap
    rw [State.put_sec] at hfeedback' hcalm'
    refine ⟨power', sws', r', q', ?_, hfeedback'.trans hfeedback, fun h => ?_⟩
    · rw [requestAll, forEach_cons, htrip]
      exact hrest.trans (State.put_put { s with sws := sws', vt := { s.vt with power := power' } } n r q r' q')
    · obtain ⟨hr, hq⟩ := hcalm h
      obtain ⟨hr', hq'⟩ := hcalm' (hr ▸ h.requested)
      exact ⟨hr'.trans (by rw [hr]; rfl), hq'.trans (hq hcap)⟩

theorem requestAll_discarded (l : TripRequests) (h : s.secs[n].state ∉ [.closed, .reclaim, .closing, .tripping]) :
    requestAll n l s = s :=
  forEach_self fun x _ => tripRequest_discarded x.1 x.2 h

theorem Section.requestedAll_tripping (l : TripRequests) (h : r.state = .tripping) :
    r.requestedAll complete l = { r with record := r.record.map (TripRecord.joinAll l) } := by
  induction l generalizing r with
  | nil =>
    rw [show TripRecord.joinAll [] = id from rfl, Option.map_id]
    rfl
  | cons x l ih =>
    rw [requestedAll, List.foldl_cons, Section.requested_join _ h]
    refine (ih (r := { r with record := r.record.map (TripRecord.join x.1) }) h).trans ?_
    rw [Option.map_map]
    rfl

theorem Section.requestedAll_start {x : Cause × TripValues} (l : TripRequests)
    (h : r.state ∈ [.closed, .reclaim, .closing]) :
    r.requestedAll complete (x :: l) = (r.sequenced r.state.origin).tripping (TripRecord.joinAll l
      { first := x.1, causes := [x.1], principal := x.1, values := x.2, complete, origin := r.state.origin }) := by
  rw [requestedAll, List.foldl_cons, Section.requested_start _ h]
  exact Section.requestedAll_tripping l rfl

theorem TripRecord.mem_join {c c' : Cause} {t : TripRecord} : c' ∈ (t.join c).causes ↔ c' ∈ t.causes ∨ c' = c := by
  rw [TripRecord.join_eq]
  split
  next h => exact ⟨.inl, fun hor => hor.elim id fun heq => heq ▸ h⟩
  next => rw [List.mem_append, List.mem_singleton]

theorem TripRecord.join_fixed (c : Cause) (t : TripRecord) : (t.join c).first = t.first ∧ (t.join c).values = t.values ∧
    (t.join c).complete = t.complete ∧ (t.join c).origin = t.origin := by
  rw [TripRecord.join_eq]
  split <;> exact ⟨rfl, rfl, rfl, rfl⟩

theorem TripRecord.mem_joinAll {c : Cause} {l : TripRequests} {t : TripRecord} :
    c ∈ (t.joinAll l).causes ↔ c ∈ t.causes ∨ ∃ v, (c, v) ∈ l := by
  induction l generalizing t with
  | nil => simp [TripRecord.joinAll]
  | cons x l ih =>
    rw [joinAll, List.foldl_cons]
    refine (ih (t := t.join x.1)).trans ?_
    rw [TripRecord.mem_join, or_assoc]
    refine or_congr_right ⟨?_, ?_⟩
    · rintro (rfl | ⟨v, hv⟩)
      · exact ⟨x.2, List.mem_cons_self ..⟩
      · exact ⟨v, List.mem_cons_of_mem x hv⟩
    · rintro ⟨v, hv⟩
      rcases List.mem_cons.mp hv with h | h
      · exact .inl (congrArg Prod.fst h)
      · exact .inr ⟨v, h⟩

theorem TripRecord.mem_joinAll_started {c : Cause} {x : Cause × TripValues} {l : TripRequests} {t : TripRecord}
    (ht : t.causes = [x.1]) : c ∈ (t.joinAll l).causes ↔ ∃ v, (c, v) ∈ x :: l := by
  rw [mem_joinAll, ht, List.mem_singleton]
  constructor
  · rintro (rfl | ⟨v, hv⟩)
    · exact ⟨x.2, List.mem_cons_self ..⟩
    · exact ⟨v, List.mem_cons_of_mem x hv⟩
  · rintro ⟨v, hv⟩
    rcases List.mem_cons.mp hv with h | h
    · exact .inl (congrArg Prod.fst h)
    · exact .inr ⟨v, h⟩

theorem TripRecord.joinAll_fixed (l : TripRequests) (t : TripRecord) : (t.joinAll l).first = t.first ∧
    (t.joinAll l).values = t.values ∧ (t.joinAll l).complete = t.complete ∧ (t.joinAll l).origin = t.origin := by
  induction l generalizing t with
  | nil => exact ⟨rfl, rfl, rfl, rfl⟩
  | cons x l ih =>
    obtain ⟨hfirst, hvalues, hcomplete, horigin⟩ := t.join_fixed x.1
    obtain ⟨hfirst', hvalues', hcomplete', horigin'⟩ := ih (t := t.join x.1)
    exact ⟨hfirst'.trans hfirst, hvalues'.trans hvalues, hcomplete'.trans hcomplete, horigin'.trans horigin⟩

/-! ### The three hand-overs (R21 to R24) -/

/-- The requests an arrival raises, in their order (R21). -/
def Judged.requests (now : ClockValue) (j : Judged) : TripRequests :=
  (if j.instant then [(.instant, j.values now)] else []) ++ (if j.step then [(.step, j.values now)] else []) ++
  (if j.sustained then [(.sustained, j.values now)] else [])

theorem handTrips_eq (n : Sec) (j : Judged) (s : State) : handTrips n j s = requestAll n (j.requests s.clock) s := by
  unfold handTrips Judged.requests requestAll
  cases j.instant <;> cases j.step <;> cases j.sustained <;> rfl

theorem Judged.mem_requests {c : Cause} {v : TripValues} {now : ClockValue} : (c, v) ∈ j.requests now ↔
    v = j.values now ∧ (c = .instant ∧ j.instant = true ∨ c = .step ∧ j.step = true ∨ c = .sustained ∧ j.sustained = true) := by
  unfold Judged.requests
  cases j.instant <;> cases j.step <;> cases j.sustained <;> simp <;> tauto

theorem evaluateGenerators_none {e : CaptureEntry} (h : ∀ g : Gen, s.gens[g].setting.sec = n → s.gens[g].setting.inputs = [])
    (order : List Gen) : evaluateGenerators order n e s = s :=
  forEach_self fun g _ => if_neg fun hnot => hnot.2 (h g hnot.1)

theorem captureEntry_idle {e : CaptureEntry} (h : s.caps[n].state = .idle) : captureEntry n e s = s :=
  if_pos (by rw [h]; rfl)

/-- With no generator to evaluate and the buffer idle, the trips are all an arrival hands over. -/
theorem handOvers_trips {gens : List Gen} (choice : Nat) (hcap : s.caps[n].state = .idle)
    (hgens : ∀ g : Gen, s.gens[g].setting.sec = n → s.gens[g].setting.inputs = []) :
    forEach (handOverOrder choice) (handOver gens n j) s = requestAll n (j.requests s.clock) s := by
  have hquiet {t : State} (hg : t.gens = s.gens) (hc : t.caps = s.caps) :
      handOver gens n j .values t = t ∧ handOver gens n j .entry t = t :=
    ⟨evaluateGenerators_none (by rw [hg]; exact hgens) gens, captureEntry_idle (by rw [hc]; exact hcap)⟩
  obtain ⟨hvalues, hentry⟩ := hquiet (t := s) rfl rfl
  obtain ⟨power, sws, r, q, hmoves, -⟩ := requestAll_moves n (j.requests s.clock) (s := s) (by rw [hcap]; decide)
  obtain ⟨hvalues', hentry'⟩ := hquiet (t := handTrips n j s) (by rw [handTrips_eq, hmoves]; rfl)
    (by rw [handTrips_eq, hmoves]; rfl)
  have htrips : handOver gens n j .trips s = handTrips n j s := rfl
  rw [← handTrips_eq]
  unfold handOverOrder
  split <;> simp only [forEach_cons, forEach_nil, htrips, hvalues, hentry, hvalues', hentry']

/-! ### A frame with one sample set (R1 to R3) -/

/-- The port after a frame with this count. -/
def portAfter (p : List Byte) : Port := { prevCount := some (p.getD 0 0), frameTimer := some 2 }

theorem OneSet.valid_iff (h : OneSet n p s) : (sampleFrameOf p).valid[m] = true ↔ m = n := by
  obtain ⟨-, hbits, -⟩ := h
  rw [sampleFrameOf_valid, hbits, BitVec.getLsbD_twoPow, Bool.and_eq_true, decide_eq_true_eq, decide_eq_true_eq]
  exact ⟨fun h => Fin.ext h.2.symm, fun h => ⟨n.isLt, by rw [h]⟩⟩

theorem forEach_one {ι : Type} {l : List ι} {f : ι → State → State} {i : ι} (hl : l.Nodup) (hi : i ∈ l)
    (h : ∀ k, k ≠ i → ∀ t, f k t = t) : forEach l f s = f i s := by
  induction l with
  | nil => cases hi
  | cons k l ih =>
    obtain ⟨hk, hl⟩ := List.nodup_cons.mp hl
    rw [forEach_cons]
    by_cases hki : k = i
    · subst hki
      exact forEach_self fun m hm => h m (fun heq => hk (heq ▸ hm)) _
    · rw [h k hki]
      exact ih hl (List.mem_of_ne_of_mem (Ne.symm hki) hi)

theorem takeCount_follows {got : Byte} (h : s.port.prevCount = none ∨ s.port.prevCount = some (got - 1)) :
    takeCount got s = { s with port := { prevCount := some got, frameTimer := some 2 } } := by
  unfold takeCount
  rcases h with h | h <;> rw [h]
  dsimp only
  rw [if_pos (BitVec.sub_add_cancel ..)]

theorem OneSet.arrives (h : OneSet n p s) : exec (.sampleFrame p) s =
    .next (arrival n (BitVec.ofNat 15 (halfAt p (1 + 2 * n.val))).toInt (halfAt p (17 + 2 * n.val) % 4096)
      { s with port := portAfter p }).drawn := by
  obtain ⟨hlen, -, hbus, hport⟩ := id h
  refine (sampleFrame_exec hlen s).trans (congrArg _ ?_)
  have hubus : (sampleFrameOf p).ubusValid = false := by
    rw [← Bool.not_eq_true, sampleFrameOf_ubusValid, hbus]
    decide
  have hsets : deliverSets (sampleFrameOf p) s.order { s with port := portAfter p } =
      arrival n (BitVec.ofNat 15 (halfAt p (1 + 2 * n.val))).toInt (halfAt p (17 + 2 * n.val) % 4096)
        { s with port := portAfter p } := by
    refine (forEach_one s.order_nodup (s.mem_order n) fun m hm t => if_neg fun hv => hm (h.valid_iff.mp hv)).trans ?_
    rw [if_pos (h.valid_iff.mpr rfl), sampleFrameOf_current, sampleFrameOf_voltage]
  rw [takeFrame, show takeCount (sampleFrameOf p).count s = { s with port := portAfter p } from takeCount_follows hport,
    hsets, deliverToLineTest_none fun _ _ _ => by rw [hubus, Bool.and_false]]

end Sys2Proof.Machine
end

section
/-!
The computation of an arrival in MEASURING, and the first arrival after a start or a loss (R4, R8, R12 to R20).
-/

namespace Sys2Proof.Machine

variable {s t : State} {n m : Sec} {r : Section} {p : List Byte} {i : Int} {u : Nat}

/-! ### The judgement of an arrival -/

theorem riseDifference_push (k : Nat) (i : Int) (h : List Int) : riseDifference k (pushHistory i h) =
    if (pushHistory i h).length ≤ k then 0 else i - (pushHistory i h).getD k 0 := rfl

/-- The current has risen by the event's threshold (R16). -/
def Tracker.steps (i : Int) : Tracker → Bool
  | .quiet => false
  | .rising start threshold _ _ => decide ((threshold : Int) ≤ i - start)

/-- The event after an arrival that leaves it running or ends it (R16). -/
def Tracker.after (c : Protection) (i d : Int) : Tracker → Tracker
  | .quiet => .quiet
  | .rising start threshold nActive count =>
    if decide ((threshold : Int) ≤ i - start) = true ∨ d < (c.riseHold : Int) ∨ c.stepDuration ≤ count then .quiet
    else .rising start threshold nActive (count + 1)

theorem Tracker.checked_eq (c : Protection) (i d : Int) (t : Tracker) : t.checked c i d = (t.after c i d, t.steps i) := by
  cases t with
  | quiet => rfl
  | rising start threshold nActive count =>
    rw [checked, after, steps]
    by_cases h : (threshold : Int) ≤ i - start
    · rw [if_pos h, decide_eq_true h, if_pos (.inl rfl)]
    · rw [if_neg h, decide_eq_false h]
      by_cases hd : d < (c.riseHold : Int)
      · rw [if_pos hd, if_pos (.inr (.inl hd))]
      · rw [if_neg hd]
        by_cases hcount : c.stepDuration ≤ count
        · rw [if_pos hcount, if_pos (.inr (.inr hcount))]
        · rw [if_neg hcount, if_neg (by simp [hd, hcount])]

theorem instantRaised_eq (c : Protection) (i : Int) :
    instantRaised c i = decide (i = -16384 ∨ i = 16383 ∨ c.instant ≤ i.natAbs) := by
  rw [instantRaised, saturated, Bool.decide_or, Bool.decide_or, Bool.or_assoc]

/-- What the arrival computes, from the FPU as it finds it. -/
def State.judged (n : Sec) (i : Int) (u : Nat) (s : State) : Judged := (s.fpus[n].prepared i).judge i u (s.active n)

/-! ### The arrival itself -/

/-- The notices once MEAS RESTORED has been queued where it is due (R8). -/
def State.restored (n : Sec) (s : State) : NoticeQueue :=
  match s.fpus[n].state, s.fpus[n].loss with
  | .lost, some (cause, since) => s.noticed .measRestored 2 (.sec n) [word cause.code, word (s.clock - since).toNat]
  | _, _ => s.notices

theorem reportRestored_eq : reportRestored n s = { s with notices := s.restored n } := by
  unfold State.restored reportRestored
  generalize s.fpus[n].state = st
  generalize s.fpus[n].loss = loss
  cases st with
  | starting | measuring => rfl
  | lost => cases loss <;> rfl

theorem State.restored_other (h : s.fpus[n].state ≠ .lost) : s.restored n = s.notices := by
  unfold State.restored
  generalize s.fpus[n].state = st at h
  cases st with
  | starting | measuring => rfl
  | lost => exact absurd rfl h

theorem State.restored_lost {cause : LossCause} {since : ClockValue} (h : s.fpus[n].state = .lost)
    (hloss : s.fpus[n].loss = some (cause, since)) : s.restored n =
      s.noticed .measRestored 2 (.sec n) [word cause.code, word (s.clock - since).toNat] := by
  rw [State.restored, h, hloss]

/-- The state in which the arrival's results are handed over. -/
def State.computed (n : Sec) (i : Int) (u : Nat) (s : State) : State :=
  { s with fpus := s.fpus.set n (s.judged n i u).fpu, notices := s.restored n }

theorem arrival_eq : arrival n i u s = forEach (handOverOrder (Config.handOut s.draws n.val))
    (handOver (s.generatorOrder n) n (s.judged n i u)) (s.computed n i u) := by
  rw [arrival, arrivalIn, reportRestored_eq]
  rfl

/-- With no generator to evaluate and the buffer idle, the arrival is its computation and its trips. -/
theorem arrival_trips (hcap : s.caps[n].state = .idle)
    (hgens : ∀ g : Gen, s.gens[g].setting.sec = n → s.gens[g].setting.inputs = []) :
    arrival n i u s = requestAll n ((s.judged n i u).requests s.clock) (s.computed n i u) :=
  arrival_eq.trans (handOvers_trips (s := s.computed n i u) _ hcap hgens)

/-- A frame with one sample set whose arrival hands over its trips alone. -/
theorem OneSet.exec_trips (h : OneSet n p s) (hcap : s.caps[n].state = .idle)
    (hgens : ∀ g : Gen, s.gens[g].setting.sec = n → s.gens[g].setting.inputs = [])
    (hi : (BitVec.ofNat 15 (halfAt p (1 + 2 * n.val))).toInt = i) (hu : halfAt p (17 + 2 * n.val) % 4096 = u) :
    exec (.sampleFrame p) s = .next (requestAll n ((s.judged n i u).requests s.clock)
      { s with port := portAfter p, fpus := s.fpus.set n (s.judged n i u).fpu, notices := s.restored n }).drawn := by
  rw [h.arrives, hi, hu, arrival_trips (s := { s with port := portAfter p }) hcap hgens]
  rfl

/-- A trip's first request starts it and the others join. -/
theorem requestAll_starts {x : Cause × TripValues} {l : TripRequests} (hcap : s.caps[n].state ≠ .awaitTrip)
    (hst : s.secs[n].state ∈ [.closed, .reclaim, .closing]) (hf : s.secs[n].feedback ≠ .opened) :
    ∃ power sws tr, requestAll n (x :: l) s = State.put { s with sws, vt := { s.vt with power } } n
        ((s.secs[n].sequenced s.secs[n].state.origin).tripping tr) s.notices ∧
      (tr.first = x.1 ∧ tr.values = x.2 ∧ tr.complete = decide (s.fpus[n].state ≠ .lost) ∧
        tr.origin = s.secs[n].state.origin) ∧
      ∀ c, c ∈ tr.causes ↔ ∃ v, (c, v) ∈ x :: l := by
  obtain ⟨power, sws, r, q, hmoves, -, hcalm⟩ := requestAll_moves n (x :: l) hcap
  obtain ⟨rfl, rfl⟩ := hcalm fun _ => hf
  rw [Section.requestedAll_start l hst] at hmoves
  exact ⟨power, sws, _, hmoves, TripRecord.joinAll_fixed .., fun c => TripRecord.mem_joinAll_started rfl⟩

theorem Judged.requests_eq_nil {j : Judged} {now : ClockValue} (hi : j.instant = false) (hs : j.step = false)
    (hd : j.sustained = false) : j.requests now = [] := by
  rw [Judged.requests, hi, hs, hd]
  rfl

theorem Judged.requests_eq_cons {j : Judged} {now : ClockValue} (h : j.instant = true ∨ j.step = true ∨ j.sustained = true) :
    ∃ x l, j.requests now = x :: l ∧ x.2 = j.values now := by
  cases hl : j.requests now with
  | nil =>
    rcases h with h | h | h
    · exact absurd (Judged.mem_requests.mpr ⟨rfl, .inl ⟨rfl, h⟩⟩) (by rw [hl]; exact List.not_mem_nil)
    · exact absurd (Judged.mem_requests.mpr ⟨rfl, .inr (.inl ⟨rfl, h⟩)⟩) (by rw [hl]; exact List.not_mem_nil)
    · exact absurd (Judged.mem_requests.mpr ⟨rfl, .inr (.inr ⟨rfl, h⟩)⟩) (by rw [hl]; exact List.not_mem_nil)
  | cons x l => exact ⟨x, l, rfl, (Judged.mem_requests.mp (hl ▸ List.mem_cons_self ..)).1⟩

/-- Settles O56: the judgement's fields one by one; the arrival is then its trips alone. -/
theorem arrivalComputesTheProtection : Obligations.ArrivalComputesTheProtection := by
  intro n p s hlen hbits hbus hport hmeas hgens hcap f c i history d acc sustained event step tracker instant f' t
  have hprepared : f.prepared i = { f with lossTimer := some 2 } := by rw [Fpu.prepared, hmeas]
  have hevent : f.tracker.begun c history d (s.active n) = event := by
    unfold event Tracker.begun
    cases f.tracker <;> rfl
  have hchecked : event.checked c i d = (tracker, step) := by
    rw [Tracker.checked_eq]
    unfold tracker step
    cases event <;> rfl
  have hpair : (f.tracker.begun c history d (s.active n)).checked c i d = (tracker, step) := by rw [hevent, hchecked]
  let j := s.judged n i (halfAt p (17 + 2 * n.val) % 4096)
  have hjudge : j = Fpu.judge i (halfAt p (17 + 2 * n.val) % 4096) (s.active n) { f with lossTimer := some 2 } :=
    congrArg (Fpu.judge i _ (s.active n)) hprepared
  have hfpu : j.fpu = f' := (congrArg Judged.fpu hjudge).trans
    (congrArg (fun x : Tracker × Bool => ({ f' with tracker := x.1 } : Fpu)) hpair)
  have hinstant : j.instant = instant := (congrArg Judged.instant hjudge).trans (instantRaised_eq c i)
  have hstep : j.step = step := (congrArg Judged.step hjudge).trans (congrArg Prod.snd hpair)
  have hsustained : j.sustained = (sustained == c.duration) := congrArg Judged.sustained hjudge
  have hvalues : (j.values s.clock).current = i ∧ (j.values s.clock).rise = d ∧
      (j.values s.clock).filtered = acc >>> (8 : Nat) ∧ (j.values s.clock).seq = f.seq ∧ (j.values s.clock).time = s.clock := by
    rw [hjudge]
    exact ⟨rfl, rfl, rfl, rfl, rfl⟩
  let u : State := { s with port := portAfter p, fpus := s.fpus.set n f' }
  have hu : ({ s with port := portAfter p, fpus := s.fpus.set n j.fpu, notices := s.restored n } : State) = u := by
    rw [hfpu, State.restored_other (by rw [hmeas]; decide)]
  have hexec : exec (.sampleFrame p) s = .next (requestAll n (j.requests s.clock) u).drawn :=
    hu ▸ OneSet.exec_trips ⟨hlen, hbits, hbus, hport⟩ hcap hgens rfl rfl
  refine ⟨fun hi hs hd => hexec.trans (congrArg _ ?_), fun _ hst => hexec.trans (congrArg _ ?_), fun hraised hst hf => ?_⟩
  · rw [Judged.requests_eq_nil (hinstant.trans hi) (hstep.trans hs) (hsustained.trans (beq_false_of_ne hd))]
    rfl
  · exact congrArg State.drawn (requestAll_discarded (s := u) _ hst)
  · obtain ⟨x, l, hl, hx⟩ := Judged.requests_eq_cons (j := j) (now := s.clock) (by
      rw [hinstant, hstep, hsustained, beq_iff_eq]
      exact hraised)
    obtain ⟨power, sws, tr, hmoves, ⟨-, htr, -, horigin⟩, hmem⟩ := requestAll_starts (s := u) (n := n) (x := x) (l := l)
      (by rw [show u.caps[n].state = .idle from hcap]; decide) (by rw [show u.secs[n].state = .closed from hst]; decide) hf
    have hcause (c : Cause) : c ∈ tr.causes ↔
        c = .instant ∧ j.instant = true ∨ c = .step ∧ j.step = true ∨ c = .sustained ∧ j.sustained = true := by
      rw [hmem, ← hl]
      exact ⟨fun ⟨v, hv⟩ => (Judged.mem_requests.mp hv).2, fun h => ⟨_, Judged.mem_requests.mpr ⟨rfl, h⟩⟩⟩
    rw [hl, hmoves] at hexec
    rw [show u.secs[n].state = .closed from hst] at horigin
    rw [← hx, ← htr] at hvalues
    obtain ⟨hcurrent, hrise, hfiltered, hseq, htime⟩ := hvalues
    have hown := State.put_sec { u with sws, vt := { u.vt with power } } n
      ((u.secs[n].sequenced u.secs[n].state.origin).tripping tr) u.notices
    refine ⟨_, tr, hexec, rfl, rfl, rfl, ?_, fun _ => ?_, ?_, horigin, ?_, ?_, ?_, hcurrent, hrise, hfiltered, hseq, htime,
      fun m hm => State.put_other u _ u.notices hm, rfl, rfl, rfl, rfl, rfl, rfl, rfl⟩
    · exact congrArg Section.state hown
    · exact congrArg Section.tripLine hown
    · exact congrArg Section.record hown
    · simp [hcause, hinstant]
    · simp [hcause, hstep]
    · simp [hcause, hsustained]

end Sys2Proof.Machine
end

section
/-!
The first arrival after a start or a loss (R4, R8).
-/

namespace Sys2Proof.Machine

variable {s t : State} {n m : Sec} {p : List Byte} {i : Int} {u a : Nat} {f : Fpu}

theorem Fpu.prepared_first (h : f.state ≠ .measuring) (i : Int) : f.prepared i =
    { f with state := .measuring, lossTimer := some 2, loss := none, history := [], tracker := .quiet, acc := i * 256
             sustained := 0 } := by
  unfold Fpu.prepared
  cases hst : f.state with
  | measuring => exact absurd hst h
  | starting => rfl
  | lost => rfl

/-- A history of one sample shows no rise. -/
theorem riseDifference_one (k : Nat) (i : Int) : riseDifference k (pushHistory i []) = 0 := by
  rw [riseDifference_push]
  cases k with
  | zero => exact Int.sub_self i
  | succ k => rfl

theorem filterStep_self (shift : Nat) (i : Int) : filterStep shift i (i * 256) = i * 256 := by
  rw [filterStep, Int.sub_self, Int.zero_shiftRight, Int.add_zero]

theorem shiftRight_mul_256 (i : Int) : (i * 256) >>> (8 : Nat) = i := by
  rw [Int.shiftRight_eq_div_pow]
  exact Int.mul_ediv_cancel i (by decide)

/-- The first arrival's computation: a history of one, no rise, the filter at the current. -/
theorem Fpu.judge_first (h : f.state ≠ .measuring) (hrise : 1 ≤ f.protection.riseStart) :
    let j := (f.prepared i).judge i u a
    let sustained := if (f.protection.level : Int) ≤ i then min 1 f.protection.duration else 0
    j.fpu = { f with
      state := .measuring, lossTimer := some 2, loss := none, history := [i], tracker := .quiet, acc := 256 * i, sustained
      seq := f.seq + 1, lastI := i, lastU := u, lastD := 0, lastSeq := f.seq } ∧
    j.instant = instantRaised f.protection i ∧ j.step = false ∧ j.sustained = (sustained == f.protection.duration) ∧
    j.entry.current = i := by
  have hquiet : Tracker.begun f.protection (pushHistory i []) (riseDifference f.protection.window (pushHistory i [])) a
      .quiet = .quiet := by
    rw [riseDifference_one, Tracker.begun, if_neg (by omega)]
  rw [Fpu.prepared_first h]
  unfold Fpu.judge
  dsimp only
  rw [hquiet, riseDifference_one, filterStep_self, shiftRight_mul_256, Int.mul_comm]
  exact ⟨rfl, rfl, rfl, rfl, rfl⟩

theorem Judged.requests_of_instant {j : Judged} (h : j.instant = true) (now : ClockValue) :
    ∃ l, j.requests now = (.instant, j.values now) :: l := by
  rw [Judged.requests, h]
  exact ⟨_, rfl⟩

/-- Settles O57: the first arrival's computation, and then its trips alone. -/
theorem firstArrivalEntersMeasuring : Obligations.FirstArrivalEntersMeasuring := by
  intro n p s hone hmeas hrise hgens hcap f c i sustained instant f' t restored untripped
  obtain ⟨hfpu, hinstant, hstep, hsustained, hcurrent⟩ := Fpu.judge_first (i := i) (u := halfAt p (17 + 2 * n.val) % 4096)
    (a := s.active n) hmeas hrise
  generalize hj : (s.fpus[n].prepared i).judge i (halfAt p (17 + 2 * n.val) % 4096) (s.active n) = j
    at hfpu hinstant hstep hsustained hcurrent
  let u : State := { s with port := portAfter p, fpus := s.fpus.set n f', notices := s.restored n }
  have hexec : exec (.sampleFrame p) s = .next (requestAll n (j.requests s.clock) u).drawn := by
    refine (hone.exec_trips hcap hgens rfl rfl).trans ?_
    rw [State.judged, hj, hfpu]
  have huntripped (h : untripped) : exec (.sampleFrame p) s = .next (t (s.restored n)) := by
    refine hexec.trans (congrArg _ ?_)
    rcases h with ⟨hi, hd⟩ | hst
    · rw [Judged.requests_eq_nil (hinstant.trans ?_) hstep (hsustained.trans (beq_false_of_ne hd))]
      · rfl
      · rw [instantRaised_eq]
        exact decide_eq_false hi
    · exact congrArg State.drawn (requestAll_discarded (s := u) _ hst)
  refine ⟨fun hst h => ?_, fun cause since hst hloss h => ?_, fun hi hst hf => ?_⟩
  · rw [huntripped h, State.restored_other (by rw [hst]; decide)]
  · rw [huntripped h, State.restored_lost hst hloss]
  · obtain ⟨l, hl⟩ := j.requests_of_instant (hinstant.trans ((instantRaised_eq ..).trans (decide_eq_true hi))) s.clock
    obtain ⟨power, sws, tr, hmoves, ⟨hfirst, htr, hcomplete, -⟩, -⟩ := requestAll_starts (s := u) (n := n)
      (x := (.instant, j.values s.clock)) (l := l)
      (by rw [show u.caps[n].state = .idle from hcap]; decide) (by rw [show u.secs[n].state = .closed from hst]; decide) hf
    rw [hl, hmoves] at hexec
    have hown := State.put_sec { u with sws, vt := { u.vt with power } } n
      ((u.secs[n].sequenced u.secs[n].state.origin).tripping tr) u.notices
    have hfpu' : u.fpus[n] = f' := Vector.getElem_set_self ..
    refine ⟨_, tr, hexec, hfpu', congrArg Section.state hown, congrArg Section.record hown, hfirst, ?_,
      (congrArg TripValues.current htr).trans hcurrent, fun h => ?_, fun cause since h hloss => ?_, fun m hm => ⟨?_, ?_⟩⟩
    · rw [hcomplete, hfpu']
      rfl
    · exact State.restored_other (by rw [h]; decide)
    · exact State.restored_lost h hloss
    · exact Vector.getElem_set_ne n.isLt m.isLt fun heq => hm (Fin.ext heq.symm)
    · exact State.put_other u _ u.notices hm

end Sys2Proof.Machine
end

section
/-!
A capture entry in every state of its buffer (R36, R38 to R42).
-/

namespace Sys2Proof.Machine

variable {s t : State} {n m : Sec} {p : List Byte} {b : Capture} {q : NoticeQueue} {e : CaptureEntry}

/-! ### One buffer and the notices -/

/-- The state with the buffer of section `n` and the notices replaced. -/
def State.buffer (s : State) (n : Sec) (b : Capture) (q : NoticeQueue) : State :=
  { s with caps := s.caps.set n b, notices := q }

@[simp] theorem State.buffer_cap (s : State) (n : Sec) (b : Capture) (q : NoticeQueue) : (s.buffer n b q).caps[n] = b :=
  Vector.getElem_set_self ..

theorem State.buffer_self (s : State) (n : Sec) : s.buffer n s.caps[n] s.notices = s :=
  congrArg (fun caps => { s with caps }) (Vector.set_getElem_self ..)

theorem modCap_buffer (f : Capture → Capture) : (s.buffer n b q).modCap n f = s.buffer n (f b) q := by
  have hset : updateAt (s.caps.set n b) n f = s.caps.set n (f b) := by
    rw [updateAt, show (s.caps.set n b)[n] = b from Vector.getElem_set_self .., Vector.set_set]
  exact congrArg (fun caps => { s with caps, notices := q }) hset

theorem queueNotice_buffer (kind : NoticeKind) (prio : Nat) (src : Source) (ws : List Half) :
    queueNotice kind prio src ws (s.buffer n b q) = s.buffer n b (q.take s.clock kind prio src ws) := rfl

/-! ### A candidate written (R38, R39, R42) -/

/-- The buffer once a candidate has been written into it. -/
def Capture.written (e : CaptureEntry) (b : Capture) : Capture :=
  if b.entries.length < 64 then
    { b with entries := b.entries ++ [e], armed := b.armed && decide (b.entries.length + 1 ≠ b.setting.watermark) }
  else { b with entries := b.entries.tail ++ [e], overrun := true }

/-- The notices once a candidate has been written: the watermark reached, or the first entry overrun. -/
def Capture.writeNotices (n : Sec) (e : CaptureEntry) (now : ClockValue) (b : Capture) (q : NoticeQueue) : NoticeQueue :=
  if b.entries.length < 64 then
    if b.armed = true ∧ b.entries.length + 1 = b.setting.watermark then
      q.take now .captureWatermark 2 (.sec n) [word (b.entries.length + 1), e.seq]
    else q
  else if b.overrun then q else q.take now .captureOverrun 3 (.sec n) [(b.entries.head?.map (·.seq)).getD 0]

theorem captureAppend_buffer (h : b.entries.length < 64) :
    captureAppend n e (s.buffer n b q) = s.buffer n (b.written e) (b.writeNotices n e s.clock q) := by
  have hlen : (b.entries ++ [e]).length = b.entries.length + 1 := List.length_append
  rw [Capture.written, Capture.writeNotices, if_pos h, if_pos h, captureAppend]
  dsimp only
  rw [modCap_buffer, State.buffer_cap, hlen]
  by_cases hmark : b.armed = true ∧ b.entries.length + 1 = b.setting.watermark
  · obtain ⟨harmed, hmark⟩ := id hmark
    rw [if_pos ‹_ ∧ _›, if_pos (by simp [harmed, hmark]), queueNotice_buffer, modCap_buffer]
    simp [hmark]
  · rw [if_neg hmark, if_neg (by simpa using hmark)]
    have harmed : (b.armed && decide (b.entries.length + 1 ≠ b.setting.watermark)) = b.armed := by
      cases ha : b.armed <;> simp_all
    rw [harmed]

theorem captureRing_buffer :
    captureRing n e (s.buffer n b q) = s.buffer n (b.written e) (b.writeNotices n e s.clock q) := by
  by_cases hlt : b.entries.length < 64
  · rw [← captureAppend_buffer hlt, captureRing, State.buffer_cap]
    dsimp only
    split
    · rw [if_pos hlt]
    · rfl
  · rw [Capture.written, Capture.writeNotices, if_neg hlt, if_neg hlt, captureRing, State.buffer_cap]
    dsimp only
    split
    next oldest rest heq =>
      rw [if_neg hlt, modCap_buffer, heq, List.tail_cons]
      split <;> rfl
    next heq => rw [heq] at hlt; simp at hlt

theorem Capture.written_newest (e : CaptureEntry) (b : Capture) : (b.written e).newestSeq = e.seq := by
  unfold written newestSeq
  split <;> simp

theorem captureFreeze_buffer : captureFreeze n (s.buffer n b q) = s.buffer n { b with state := .frozen }
    (q.take s.clock .captureFrozen 4 (.sec n) [word b.entries.length, b.newestSeq, word ((b.trigger.map Cause.code).getD 0)]) := by
  rw [captureFreeze, modCap_buffer, State.buffer_cap]
  rfl

/-! ### An entry by the buffer's state (R36) -/

/-- The buffer with the entry counted. -/
def Capture.counted (b : Capture) : Capture := { b with decCount := (b.decCount + 1) % b.setting.decimation }

theorem captureEntry_discarded (h : s.caps[n].state ∈ [.idle, .full, .frozen]) : captureEntry n e s = s := by
  refine if_pos ?_
  simp only [List.mem_cons, List.not_mem_nil, or_false] at h
  rcases h with h | h | h <;> rw [h] <;> rfl

theorem captureEntry_taken (h : s.caps[n].state ∉ [.idle, .full, .frozen]) : captureEntry n e s =
    if s.caps[n].decCount = 0 then captureCandidate n e (s.buffer n s.caps[n].counted s.notices)
    else s.buffer n s.caps[n].counted s.notices := by
  have hnot : s.caps[n].state.discards = false := by
    generalize s.caps[n].state = st at h
    cases st <;> simp_all [CaptureState.discards]
  unfold captureEntry
  dsimp only
  rw [hnot]
  rfl

theorem captureCandidate_filling (hst : b.state = .filling) (h : b.entries.length < 64) :
    captureCandidate n e (s.buffer n b q) = s.buffer n
      (if b.entries.length + 1 = 64 then { b.written e with state := .full } else b.written e)
      (b.writeNotices n e s.clock q) := by
  have hlen : (b.written e).entries.length = b.entries.length + 1 := by
    rw [Capture.written, if_pos h]
    exact List.length_append
  rw [captureCandidate, State.buffer_cap, hst]
  dsimp only
  rw [captureAppend_buffer h, State.buffer_cap, hlen, modCap_buffer]
  by_cases hfull : b.entries.length + 1 = 64
  · rw [if_pos hfull, if_pos (Nat.le_of_eq hfull.symm)]
  · rw [if_neg hfull, if_neg (by omega)]

theorem captureCandidate_rings (hst : b.state = .ringing ∨ b.state = .awaitTrip ∨ b.state = .gated ∧ b.gate = true) :
    captureCandidate n e (s.buffer n b q) = s.buffer n (b.written e) (b.writeNotices n e s.clock q) := by
  rw [captureCandidate, State.buffer_cap, ← captureRing_buffer]
  rcases hst with hst | hst | ⟨hst, hgate⟩
  · rw [hst]
  · rw [hst]
  · rw [hst, hgate]
    rfl

theorem captureCandidate_shut (hst : b.state = .gated) (hgate : b.gate = false) :
    captureCandidate n e (s.buffer n b q) = s.buffer n b q := by
  rw [captureCandidate, State.buffer_cap, hst, hgate]
  rfl

theorem captureCandidate_triggered (hst : b.state = .postTrigger) :
    captureCandidate n e (s.buffer n b q) =
      if b.remainder - 1 = 0 then s.buffer n { b.written e with remainder := b.remainder - 1, state := .frozen }
        ((b.writeNotices n e s.clock q).take s.clock .captureFrozen 4 (.sec n)
          [word (b.written e).entries.length, e.seq, word ((b.trigger.map Cause.code).getD 0)])
      else s.buffer n { b.written e with remainder := b.remainder - 1 } (b.writeNotices n e s.clock q) := by
  have hkept : (b.written e).remainder = b.remainder ∧ (b.written e).trigger = b.trigger := by
    unfold Capture.written
    split <;> exact ⟨rfl, rfl⟩
  rw [captureCandidate, State.buffer_cap, hst]
  dsimp only
  rw [captureRing_buffer, modCap_buffer, State.buffer_cap, hkept.1, captureFreeze_buffer]
  dsimp only
  rw [hkept.2, ← (b.written_newest e)]
  rfl

/-! ### The arrival -/

/-- With no generator to evaluate and no trip to take, the entry is all an arrival hands over. -/
theorem handOvers_entry {gens : List Gen} {j : Judged} (choice : Nat)
    (hst : s.secs[n].state ∉ [.closed, .reclaim, .closing, .tripping])
    (hgens : ∀ g : Gen, s.gens[g].setting.sec = n → s.gens[g].setting.inputs = []) :
    forEach (handOverOrder choice) (handOver gens n j) s = captureEntry n j.entry s := by
  have hquiet {t : State} (hg : t.gens = s.gens) (hsecs : t.secs = s.secs) :
      handOver gens n j .values t = t ∧ handOver gens n j .trips t = t :=
    ⟨evaluateGenerators_none (by rw [hg]; exact hgens) gens,
      (handTrips_eq ..).trans (requestAll_discarded _ (by rw [hsecs]; exact hst))⟩
  obtain ⟨hvalues, htrips⟩ := hquiet (t := s) rfl rfl
  obtain ⟨caps, notices, hcaptured⟩ := captureEntry_captured (s := s) (n := n) j.entry
  obtain ⟨hvalues', htrips'⟩ := hquiet (t := captureEntry n j.entry s) (by rw [hcaptured]) (by rw [hcaptured])
  have hentry : handOver gens n j .entry s = captureEntry n j.entry s := rfl
  unfold handOverOrder
  split <;> simp only [forEach_cons, forEach_nil, htrips, hvalues, hentry, hvalues', htrips']

/-- A frame with one sample set, in MEASURING, whose arrival hands over its entry alone. -/
theorem OneSet.exec_entry (h : OneSet n p s) (hmeas : s.fpus[n].state = .measuring)
    (hst : s.secs[n].state ∉ [.closed, .reclaim, .closing, .tripping])
    (hgens : ∀ g : Gen, s.gens[g].setting.sec = n → s.gens[g].setting.inputs = []) :
    let j := s.judged n (BitVec.ofNat 15 (halfAt p (1 + 2 * n.val))).toInt (halfAt p (17 + 2 * n.val) % 4096)
    exec (.sampleFrame p) s = .next
      (captureEntry n j.entry { s with port := portAfter p, fpus := s.fpus.set n j.fpu }).drawn := by
  intro j
  rw [h.arrives, arrival_eq]
  have hcomputed : State.computed n (BitVec.ofNat 15 (halfAt p (1 + 2 * n.val))).toInt (halfAt p (17 + 2 * n.val) % 4096)
      { s with port := portAfter p } = { s with port := portAfter p, fpus := s.fpus.set n j.fpu } := by
    rw [State.computed, State.restored_other (by rw [show State.fpus _ = s.fpus from rfl, hmeas]; decide)]
    rfl
  rw [hcomputed, handOvers_entry (s := { s with port := portAfter p, fpus := s.fpus.set n j.fpu }) _ hst hgens]
  rfl

theorem Tracker.isRising_eq (t : Tracker) : t.isRising = decide (t ≠ .quiet) := by
  cases t <;> rfl

theorem Fpu.prepared_seq (i : Int) (f : Fpu) : (f.prepared i).seq = f.seq := by
  unfold Fpu.prepared
  split <;> rfl

/-- The entry shows what the FPU has just kept. -/
theorem State.judged_entry (n : Sec) (i : Int) (u : Nat) (s : State) :
    let f := (s.judged n i u).fpu
    (s.judged n i u).entry =
      { seq := s.fpus[n].seq, current := f.lastI, voltage := f.lastU, rise := f.lastD, filtered := f.acc >>> (8 : Nat)
        rising := decide (f.tracker ≠ .quiet), saturated := decide (f.lastI = -16384 ∨ f.lastI = 16383) } := by
  intro f
  rw [← Tracker.isRising_eq, Bool.decide_or, ← Fpu.prepared_seq i]
  rfl

/-- Settles O59: the arrival is its entry alone, and the entry is taken by `captureEntry_discarded` or `captureEntry_taken`. -/
theorem captureEntryIsTakenByTheBuffersState : Obligations.CaptureEntryIsTakenByTheBuffersState := by
  intro n p s hone hmeas hst hgens hroom b held
  have hexec := hone.exec_entry hmeas hst hgens
  have hexec₀ := OneSet.exec_entry (s := { s with caps := s.caps.set n { b with state := .idle } }) hone hmeas hst hgens
  have hjudged := s.judged_entry n (BitVec.ofNat 15 (halfAt p (1 + 2 * n.val))).toInt (halfAt p (17 + 2 * n.val) % 4096)
  dsimp only at hexec hexec₀ hjudged
  rw [captureEntry_idle ((congrArg Capture.state (Vector.getElem_set_self ..)).trans rfl)] at hexec₀
  refine ⟨_, hexec₀, ?_⟩
  intro f e t counted written noticed
  generalize hj : s.judged n (BitVec.ofNat 15 (halfAt p (1 + 2 * n.val))).toInt (halfAt p (17 + 2 * n.val) % 4096) = j
    at hexec hjudged
  have hf : f = j.fpu := (Vector.getElem_set_self ..).trans (congrArg Judged.fpu hj)
  have he : j.entry = e := by
    unfold e
    rw [hf]
    exact hjudged
  let u : State := { s with port := portAfter p, fpus := s.fpus.set n j.fpu }
  have ht (b' : Capture) (q : NoticeQueue) : (u.buffer n b' q).drawn = t b' q := by
    unfold t u
    rw [← hj]
    rfl
  rw [he] at hexec
  have hcounted : b.counted = counted := rfl
  have hwritten : counted.written e = written := rfl
  have hnoticed : counted.writeNotices n e s.clock s.notices = noticed := rfl
  have hnot {st : CaptureState} (h : b.state = st) (hin : st ∉ [.idle, .full, .frozen]) : b.state ∉ [.idle, .full, .frozen] :=
    h ▸ hin
  have htaken (h : b.state ∉ [.idle, .full, .frozen]) : captureEntry n e u =
      if b.decCount = 0 then captureCandidate n e (u.buffer n counted s.notices) else u.buffer n counted s.notices :=
    captureEntry_taken h
  clear_value e t
  have hdone {b' : Capture} {q : NoticeQueue} (h : captureEntry n e u = u.buffer n b' q) :
      exec (.sampleFrame p) s = .next (t b' q) := by
    rw [← ht, ← h]
    exact hexec
  refine ⟨fun h => hdone ?_, fun h hor => hdone ?_, fun hdec => ?_⟩
  · exact (captureEntry_discarded (s := u) h).trans (u.buffer_self n).symm
  · rw [htaken h]
    by_cases hdec : b.decCount = 0
    · obtain ⟨hgated, hgate⟩ := hor.resolve_left (absurd hdec)
      rw [if_pos hdec, captureCandidate_shut (b := counted) hgated hgate]
    · rw [if_neg hdec]
  · have hcandidate (h : b.state ∉ [.idle, .full, .frozen]) :
        captureEntry n e u = captureCandidate n e (u.buffer n counted s.notices) := (htaken h).trans (if_pos hdec)
    refine ⟨fun h hlt => hdone ?_, fun h => hdone ?_, fun h hrem => hdone ?_, fun h hrem => hdone ?_⟩
    · rw [hcandidate (hnot h (by decide)), captureCandidate_filling (b := counted) h hlt]
      rfl
    · rw [hcandidate (by rcases h with h | h | h; exacts [hnot h (by decide), hnot h (by decide), hnot h.1 (by decide)]),
        captureCandidate_rings (b := counted) h]
      rfl
    · rw [hcandidate (hnot h (by decide)), captureCandidate_triggered (b := counted) h, if_neg (by change ¬ b.remainder - 1 = 0; omega)]
      rfl
    · rw [hcandidate (hnot h (by decide)), captureCandidate_triggered (b := counted) h, if_pos (by change b.remainder - 1 = 0; omega)]
      have hzero : counted.remainder - 1 = 0 := by change b.remainder - 1 = 0; omega
      rw [hzero]
      rfl

end Sys2Proof.Machine
end

section
/-!
A generator's evaluation at an arrival (R28 to R33).
-/

namespace Sys2Proof.Machine

variable {s t u : State} {n m : Sec} {g : Gen} {p : List Byte} {e : CaptureEntry} {c : Condition} {j : Judged}

/-! ### The output state (R30 to R32) -/

/-- The output state reaches ON at this evaluation. -/
def GenState.reachesOn (c : Condition) (combined : Bool) (o : GenState) : Bool :=
  combined && match o with
    | .off => decide (c.onset = 0)
    | .onset count => decide (c.onset ≤ count + 1)
    | _ => false

/-- Where an output state moves that does not reach ON from OFF or ONSET. -/
def GenState.drifts (c : Condition) (combined : Bool) (o : GenState) : GenState :=
  match o with
  | .off => if combined then .onset 0 else .off
  | .onset count => if combined then .onset (count + 1) else .off
  | .on => if combined then .on else if c.release = 0 then .off else .release 0
  | .release count => if combined then .on else if c.release ≤ count + 1 then .off else .release (count + 1)
  | .latched => .latched

theorem GenState.next_eq (c : Condition) (combined : Bool) (o : GenState) :
    o.next c combined = if o.reachesOn c combined then (.on, true) else (o.drifts c combined, false) := by
  cases combined with
  | false =>
    cases o with
    | off | onset _ | latched => rfl
    | on => exact (apply_ite (·, false) _ _ _).symm
    | release count => exact (apply_ite (·, false) _ _ _).symm
  | true =>
    cases o with
    | off => exact if_congr decide_eq_true_iff.symm rfl rfl
    | onset count => exact if_congr decide_eq_true_iff.symm rfl rfl
    | on | release _ | latched => rfl

/-- The generator after an evaluation that gives `results`. -/
def Generator.after (results : List Bool) (x : Generator) : Generator :=
  { x with
    out := if x.out.reachesOn x.setting (x.setting.combine results) then if x.setting.latch then .latched else .on
      else x.out.drifts x.setting (x.setting.combine results)
    results, combined := x.setting.combine results }

theorem Generator.evaluated_eq (present : Nat) (f : Feedback) (x : Generator) :
    x.evaluated e present f =
      (x.after (x.setting.inputs.map (Comparator.result e present f)),
        x.out.reachesOn x.setting (x.setting.combine (x.setting.inputs.map (Comparator.result e present f)))) := by
  unfold Generator.evaluated Generator.after
  dsimp only
  rw [GenState.next_eq]
  generalize x.setting.combine (x.setting.inputs.map (Comparator.result e present f)) = combined
  cases x.out.reachesOn x.setting combined with
  | false => rfl
  | true => cases x.setting.latch <;> rfl

theorem resultWord_eq (results : List Bool) : resultWord results =
    ((List.range results.length).map fun k => if results.getD k false then 2 ^ k else 0).sum := by
  induction results with
  | nil => rfl
  | cons b results ih =>
    have htail : ((List.range results.length).map fun k => if results.getD k false then 2 ^ (k + 1) else 0).sum =
        2 * resultWord results := by
      rw [ih, ← List.sum_map_mul_left]
      refine congrArg List.sum (List.map_congr_left fun k _ => ?_)
      split
      · rw [Nat.pow_succ, Nat.mul_comm]
      · rfl
    rw [resultWord, List.foldr_cons, List.length_cons, List.range_succ_eq_map, List.map_cons, List.map_map, List.sum_cons]
    refine congrArg₂ (· + ·) ?_ htail.symm
    cases b <;> rfl

theorem Section.requestedAll_none {r : Section} {complete : Bool} (l : TripRequests)
    (h : r.state ∉ [.closed, .reclaim, .closing, .tripping]) : r.requestedAll complete l = r := by
  induction l with
  | nil => rfl
  | cons x l ih =>
    rw [requestedAll, List.foldl_cons, requested_none _ h]
    exact ih

theorem Section.Calm.requestedAll {r : Section} {complete : Bool} (h : r.Calm) (l : TripRequests) :
    (r.requestedAll complete l).Calm := by
  induction l generalizing r with
  | nil => exact h
  | cons x l ih => exact ih (Section.Calm.requested h)

/-! ### A generator's evaluation (R28, R33, R41) -/

/-- The buffers once generator `g`, whose gate stood at `before`, has its gate at `now`. -/
def State.gated (g : Gen) (before now : Bool) (s : State) : Vector Capture 8 :=
  s.caps.map fun b =>
    { b with gate := if b.setting.mode = .onCondition ∧ b.setting.gen = g ∧ now ≠ before then now else b.gate }

theorem tellChange_eq {before : Bool} :
    tellChange g before s = { s with caps := s.gated g before s.gens[g].gateOpen } := by
  unfold tellChange State.gated
  dsimp only
  split
  next h =>
    have hsame : (s.caps.map fun b => ({ b with gate := if b.setting.mode = .onCondition ∧ b.setting.gen = g ∧
        s.gens[g].gateOpen ≠ before then s.gens[g].gateOpen else b.gate } : Capture)) = s.caps := by
      refine Vector.ext fun i hi => ?_
      rw [Vector.getElem_map, if_neg fun hnot => hnot.2.2 h.symm]
    rw [hsame]
  next h =>
    refine congrArg (fun caps => { s with caps }) (Vector.map_congr_left fun b _ => ?_)
    by_cases hb : b.setting.mode = .onCondition ∧ b.setting.gen = g
    · rw [if_pos hb, if_pos ⟨hb.1, hb.2, fun heq => h heq.symm⟩]
    · rw [if_neg hb, if_neg fun hnot => hb ⟨hnot.1, hnot.2.1⟩]

theorem tellChange_of {before now : Bool} (h : s.gens[g].gateOpen = now) :
    tellChange g before s = { s with caps := s.gated g before now } := h ▸ tellChange_eq

/-- The results of generator `g`'s inputs on the entry. -/
def State.results (n : Sec) (g : Gen) (e : CaptureEntry) (s : State) : List Bool :=
  s.gens[g].setting.inputs.map (Comparator.result e (s.present n) s.secs[n].feedback)

/-- Generator `g` reaches ON over the entry and acts. -/
def State.acts (n : Sec) (g : Gen) (e : CaptureEntry) (s : State) : Bool :=
  s.gens[g].out.reachesOn s.gens[g].setting (s.gens[g].setting.combine (s.results n g e))

/-- The notices once the generator has been evaluated. -/
def State.conditioned (n : Sec) (g : Gen) (e : CaptureEntry) (s : State) : NoticeQueue :=
  if s.acts n g e && s.gens[g].setting.notice then
    s.noticed .condition 4 (.generator g)
      [word (number n), e.seq, word (markCode s.gens[g].setting.all), word (resultWord (s.results n g e))]
  else s.notices

/-- The state once the generator has been evaluated, before its trip request. -/
def State.evaluated (n : Sec) (g : Gen) (e : CaptureEntry) (s : State) : State :=
  { s with
    gens := s.gens.set g (s.gens[g].after (s.results n g e))
    caps := s.gated g s.gens[g].gateOpen (s.gens[g].after (s.results n g e)).gateOpen
    notices := s.conditioned n g e }

/-- The requests the evaluation raises. -/
def State.condRequests (n : Sec) (g : Gen) (e : CaptureEntry) (s : State) : TripRequests :=
  if s.acts n g e && s.gens[g].setting.trip then [(.cond, condValues n e s)] else []

theorem evaluateGenerator_eq : evaluateGenerator n e g s = requestAll n (s.condRequests n g e) (s.evaluated n g e) := by
  let looked : State := s.modGen g fun _ => s.gens[g].after (s.results n g e)
  let told : State :=
    if s.acts n g e && s.gens[g].setting.notice then
      queueNotice .condition 4 (.generator g)
        [word (number n), e.seq, word (markCode s.gens[g].setting.all), word (resultWord (s.results n g e))] looked
    else looked
  have htold : told = { looked with notices := s.conditioned n g e } := by
    unfold told State.conditioned
    split <;> rfl
  have hgate : told.gens[g].gateOpen = (s.gens[g].after (s.results n g e)).gateOpen := by
    rw [htold]
    exact congrArg Generator.gateOpen (Vector.getElem_set_self ..)
  have hchange : tellChange g s.gens[g].gateOpen told = s.evaluated n g e := by
    rw [tellChange_of hgate, htold]
    rfl
  have heval : evaluateGenerator n e g s =
      if s.acts n g e && s.gens[g].setting.trip then
        tripRequest n .cond (condValues n e (tellChange g s.gens[g].gateOpen told)) (tellChange g s.gens[g].gateOpen told)
      else tellChange g s.gens[g].gateOpen told := by
    unfold evaluateGenerator
    dsimp only
    rw [Generator.evaluated_eq]
    rfl
  rw [heval, hchange, State.condRequests]
  split <;> rfl

/-! ### The evaluation among the hand-overs -/

/-- What trips and the evaluation of generator `g` leave, the requests taken in the order of `l`. -/
def Evaluated (n : Sec) (g : Gen) (e : CaptureEntry) (l : TripRequests) (s t : State) : Prop :=
  ∃ power sws r q, t = State.put { s.evaluated n g e with sws, vt := { s.vt with power } } n r q ∧
    (s.secs[n].Calm → r = s.secs[n].requestedAll (decide (s.fpus[n].state ≠ .lost)) l ∧ q = s.conditioned n g e)

theorem gated_state {before now : Bool} (n : Sec) : (s.gated g before now)[n].state = s.caps[n].state :=
  (congrArg Capture.state (Vector.getElem_map ..)).trans rfl

theorem Evaluated.idle {l : TripRequests} (h : Evaluated n g e l s t) (hcap : s.caps[n].state = .idle) :
    t.caps[n].state = .idle := by
  obtain ⟨power, sws, r, q, rfl, -⟩ := h
  exact (gated_state n).trans hcap

theorem evaluateGenerator_evaluated (hcap : s.caps[n].state = .idle) (l : TripRequests) :
    Evaluated n g e (s.condRequests n g e ++ l) s (requestAll n l (evaluateGenerator n e g s)) := by
  have hall : requestAll n l (evaluateGenerator n e g s) = requestAll n (s.condRequests n g e ++ l) (s.evaluated n g e) := by
    rw [evaluateGenerator_eq]
    exact (List.foldl_append ..).symm
  have hidle : (s.evaluated n g e).caps[n].state ≠ .awaitTrip := by
    rw [show (s.evaluated n g e).caps[n].state = .idle from (gated_state n).trans hcap]
    decide
  obtain ⟨power, sws, r, q, hmoves, -, hcalm⟩ := requestAll_moves n (s.condRequests n g e ++ l) hidle
  exact ⟨power, sws, r, q, hall.trans hmoves, hcalm⟩

theorem evaluated_afterTrips (hcap : s.caps[n].state = .idle) (l : TripRequests) :
    Evaluated n g e (l ++ s.condRequests n g e) s (evaluateGenerator n e g (requestAll n l s)) := by
  obtain ⟨power, sws, r, q, hmoves, hfeedback, hcalm⟩ := requestAll_moves n l (s := s) (by rw [hcap]; decide)
  let u : State := State.put { s with sws, vt := { s.vt with power } } n r q
  have hresults : u.results n g e = s.results n g e := by
    unfold State.results
    rw [show u.secs[n].feedback = s.secs[n].feedback from
      (congrArg Section.feedback (State.put_sec { s with sws, vt := { s.vt with power } } n r q)).trans hfeedback]
    rfl
  have hacts : u.acts n g e = s.acts n g e := by
    unfold State.acts
    rw [hresults]
    rfl
  have hcond : u.condRequests n g e = s.condRequests n g e := by
    unfold State.condRequests
    rw [hacts]
    rfl
  have hevaluated : u.evaluated n g e =
      State.put { s.evaluated n g e with sws, vt := { s.vt with power } } n r (u.conditioned n g e) := by
    unfold State.evaluated
    rw [hresults]
    rfl
  obtain ⟨power', sws', r', q', hmoves', -, hcalm'⟩ := requestAll_moves n (s.condRequests n g e) (s := u.evaluated n g e)
    (by rw [show (u.evaluated n g e).caps[n].state = .idle from (gated_state n).trans hcap]; decide)
  refine ⟨power', sws', r', q', ?_, fun h => ?_⟩
  · rw [hmoves, evaluateGenerator_eq, hcond]
    refine hmoves'.trans ?_
    rw [hevaluated]
    exact State.put_put { s.evaluated n g e with sws := sws', vt := { s.vt with power := power' } } n r _ r' q'
  · obtain ⟨hr, hq⟩ := hcalm h
    have hsec : (u.evaluated n g e).secs[n] = r := State.put_sec { s with sws, vt := { s.vt with power } } n r q
    rw [hsec] at hcalm'
    obtain ⟨hr', hq'⟩ := hcalm' (hr ▸ h.requestedAll l)
    refine ⟨hr'.trans ?_, hq'.trans ?_⟩
    · rw [hr]
      exact (List.foldl_append ..).symm
    · change u.conditioned n g e = s.conditioned n g e
      unfold State.conditioned
      rw [hacts, hresults, show u.notices = s.notices from hq]
      unfold State.noticed
      rw [show u.notices = s.notices from hq]
      rfl

theorem requestAll_gens (l : TripRequests) : (requestAll n l s).gens = s.gens := by
  refine forEach_keeps (P := fun t => t.gens = s.gens) l (fun x _ t h => ?_) s rfl
  obtain ⟨caps, power, sws, r, q, htrip, -⟩ := tripRequest_moves n x.1 x.2 t
  rw [htrip]
  exact h

theorem evaluateGenerators_skipped {order : List Gen}
    (h : ∀ g ∈ order, s.gens[g].setting.sec = n → s.gens[g].setting.inputs = []) : evaluateGenerators order n e s = s :=
  forEach_self fun g hg => if_neg fun hnot => hnot.2 (h g hg hnot.1)

/-- The evaluation of the one generator bound to the section, among the others. -/
theorem evaluateGenerators_one {order : List Gen} (hnodup : order.Nodup) (hmem : g ∈ order)
    (hg : s.gens[g].setting.sec = n ∧ s.gens[g].setting.inputs ≠ [])
    (hother : ∀ h : Gen, h ≠ g → s.gens[h].setting.sec = n → s.gens[h].setting.inputs = []) :
    evaluateGenerators order n e s = evaluateGenerator n e g s := by
  induction order with
  | nil => cases hmem
  | cons h order ih =>
    obtain ⟨hh, hnodup⟩ := List.nodup_cons.mp hnodup
    by_cases hhg : h = g
    · subst hhg
      have hfirst : evaluateGenerators (h :: order) n e s = evaluateGenerators order n e (evaluateGenerator n e h s) := by
        rw [evaluateGenerators, forEach_cons, if_pos hg]
        rfl
      refine hfirst.trans (evaluateGenerators_skipped fun h' hh' => ?_)
      have hne : h' ≠ h := fun heq => hh (heq ▸ hh')
      have hsame : (evaluateGenerator n e h s).gens[h'] = s.gens[h'] := by
        rw [evaluateGenerator_eq, requestAll_gens]
        exact Vector.getElem_set_ne h.isLt h'.isLt fun heq => hne (Fin.ext heq.symm)
      rw [hsame]
      exact hother h' hne
    · have hfirst : evaluateGenerators (h :: order) n e s = evaluateGenerators order n e s := by
        rw [evaluateGenerators, forEach_cons, if_neg fun hnot => hnot.2 (hother h hhg hnot.1)]
        rfl
      exact hfirst.trans (ih hnodup (List.mem_of_ne_of_mem (Ne.symm hhg) hmem))

/-- With the buffer idle and one generator to evaluate, an arrival hands over its trips and that evaluation, in either
order. -/
theorem handOvers_generator {order : List Gen} (choice : Nat) (hcap : s.caps[n].state = .idle) (hnodup : order.Nodup)
    (hmem : g ∈ order) (hg : s.gens[g].setting.sec = n ∧ s.gens[g].setting.inputs ≠ [])
    (hother : ∀ h : Gen, h ≠ g → s.gens[h].setting.sec = n → s.gens[h].setting.inputs = []) :
    ∃ l, (l = s.condRequests n g j.entry ++ j.requests s.clock ∨ l = j.requests s.clock ++ s.condRequests n g j.entry) ∧
      Evaluated n g j.entry l s (forEach (handOverOrder choice) (handOver order n j) s) := by
  let u := requestAll n (j.requests s.clock) s
  obtain ⟨power, sws, r, q, hu, -⟩ := requestAll_moves n (j.requests s.clock) (s := s) (by rw [hcap]; decide)
  have hugens : u.gens = s.gens := requestAll_gens _
  have hucap : u.caps[n].state = .idle := by
    rw [show u = _ from hu]
    exact hcap
  have hlast : Evaluated n g j.entry (j.requests s.clock ++ s.condRequests n g j.entry) s
      (evaluateGenerator n j.entry g u) := evaluated_afterTrips hcap (j.requests s.clock)
  have hfirst := evaluateGenerator_evaluated (g := g) (e := j.entry) hcap (j.requests s.clock)
  have halone := evaluateGenerator_evaluated (g := g) (e := j.entry) hcap []
  have hvcap : (evaluateGenerator n j.entry g s).caps[n].state = .idle := halone.idle hcap
  have hvclock : (evaluateGenerator n j.entry g s).clock = s.clock := by
    obtain ⟨_, _, _, _, h, -⟩ := halone
    rw [show evaluateGenerator n j.entry g s = _ from h]
    rfl
  have htrips : handOver order n j .trips s = u := handTrips_eq ..
  have htrips' : handOver order n j .trips (evaluateGenerator n j.entry g s) =
      requestAll n (j.requests s.clock) (evaluateGenerator n j.entry g s) := by
    rw [← hvclock]
    exact handTrips_eq ..
  have hvalues : handOver order n j .values s = evaluateGenerator n j.entry g s :=
    evaluateGenerators_one hnodup hmem hg hother
  have hvalues' : handOver order n j .values u = evaluateGenerator n j.entry g u :=
    evaluateGenerators_one hnodup hmem (by rw [hugens]; exact hg) (by rw [hugens]; exact hother)
  have hentry {t : State} (h : t.caps[n].state = .idle) : handOver order n j .entry t = t := captureEntry_idle h
  unfold handOverOrder
  split <;> simp only [forEach_cons, forEach_nil, htrips, hvalues, htrips', hvalues', hentry hcap, hentry hucap, hentry hvcap,
    hentry (hlast.idle hcap), hentry (hfirst.idle hcap)]
  · exact ⟨_, .inr rfl, hlast⟩
  · exact ⟨_, .inr rfl, hlast⟩
  · exact ⟨_, .inl rfl, hfirst⟩
  · exact ⟨_, .inl rfl, hfirst⟩
  · exact ⟨_, .inr rfl, hlast⟩
  · exact ⟨_, .inl rfl, hfirst⟩

theorem State.mem_condRequests {x : Cause × TripValues} : x ∈ s.condRequests n g e ↔
    x = (.cond, condValues n e s) ∧ (s.acts n g e && s.gens[g].setting.trip) = true := by
  unfold State.condRequests
  split
  next h => rw [List.mem_singleton, and_iff_left h]
  next h => exact ⟨nofun, fun hx => absurd hx.2 h⟩

/-- The only request of cause COND is the evaluation's. -/
theorem cond_mem_iff {l : TripRequests} {v : TripValues}
    (hl : l = s.condRequests n g e ++ j.requests s.clock ∨ l = j.requests s.clock ++ s.condRequests n g e) :
    (.cond, v) ∈ l ↔ v = condValues n e s ∧ (s.acts n g e && s.gens[g].setting.trip) = true := by
  have hnot : (.cond, v) ∉ j.requests s.clock := fun h => by
    obtain ⟨-, ⟨h, -⟩ | ⟨h, -⟩ | ⟨h, -⟩⟩ := Judged.mem_requests.mp h <;> cases h
  have hcond : (.cond, v) ∈ s.condRequests n g e ↔
      v = condValues n e s ∧ (s.acts n g e && s.gens[g].setting.trip) = true := by
    rw [State.mem_condRequests, Prod.mk.injEq, and_iff_right rfl]
  rcases hl with rfl | rfl
  · rw [List.mem_append, or_iff_left hnot, hcond]
  · rw [List.mem_append, or_iff_right hnot, hcond]

/-- Settles O58: an arrival's hand-overs are its trips and the one evaluation, whichever comes first. -/
theorem generatorsAreEvaluatedAtAnArrival : Obligations.GeneratorsAreEvaluatedAtAnArrival := by
  intro n g p s hone hmeas hcap hsec hinputs hother
  let i : Int := (BitVec.ofNat 15 (halfAt p (1 + 2 * n.val))).toInt
  generalize hj : s.judged n i (halfAt p (17 + 2 * n.val) % 4096) = j
  have hjudged := s.judged_entry n i (halfAt p (17 + 2 * n.val) % 4096)
  dsimp only at hjudged
  rw [hj] at hjudged
  let u : State := { s with port := portAfter p, fpus := s.fpus.set n j.fpu }
  have hcomputed : State.computed n i (halfAt p (17 + 2 * n.val) % 4096) { s with port := portAfter p } = u := by
    rw [State.computed, State.restored_other (by rw [show State.fpus _ = s.fpus from rfl, hmeas]; decide)]
    exact congrArg (fun x : Judged => ({ s with port := portAfter p, fpus := s.fpus.set n x.fpu } : State)) hj
  obtain ⟨l, hl, power, sws, r, q, heq, hcalm⟩ := handOvers_generator (s := u) (n := n) (g := g) (j := j)
    (Config.handOut s.draws n.val) hcap (s.generatorOrder_nodup n) (s.mem_generatorOrder n g) ⟨hsec, hinputs⟩ hother
  have hexec : exec (.sampleFrame p) s =
      .next (State.put { u.evaluated n g j.entry with sws, vt := { u.vt with power } } n r q).drawn := by
    rw [hone.arrives, arrival_eq]
    refine congrArg (fun t => Host.Outcome.next (State.drawn t)) ?_
    have hjport : State.judged n i (halfAt p (17 + 2 * n.val) % 4096) { s with port := portAfter p } = j := hj
    rw [hcomputed, hjport]
    exact heq
  refine ⟨_, hexec, ?_⟩
  intro f c before result results combined reaches out gate trips opened bits
  have hf : f = j.fpu := Vector.getElem_set_self ..
  have hentry : j.entry = ⟨s.fpus[n].seq, f.lastI, f.lastU, f.lastD, f.acc >>> (8 : Nat), decide (f.tracker ≠ .quiet),
      decide (f.lastI = -16384 ∨ f.lastI = 16383)⟩ := by
    rw [hf]
    exact hjudged
  have hseq : j.entry.seq = f.lastSeq := by
    rw [hf, ← hj]
    rfl
  have hresult : result = Comparator.result j.entry (s.present n) s.secs[n].feedback := by
    rw [hentry]
    funext x
    cases x <;> rfl
  have hresults : u.results n g j.entry = results := by
    unfold results
    rw [hresult]
    rfl
  have hacts : u.acts n g j.entry = reaches := by
    unfold State.acts
    rw [hresults]
    rfl
  have hafter : u.gens[g].after (u.results n g j.entry) = ⟨c, out, results, combined⟩ := by
    rw [hresults]
    rfl
  have hgate (o : GenState) (rs : List Bool) (b : Bool) : Generator.gateOpen ⟨c, o, rs, b⟩ = gate o := by
    cases o <;> rfl
  have hcond (v : TripValues) : (.cond, v) ∈ l ↔ v = condValues n j.entry s ∧ trips = true := by
    rw [cond_mem_iff hl, hacts]
    rfl
  have hcalmed (h : ¬ opened) : s.secs[n].Calm := fun hin hread => h ⟨hin, hread⟩
  have hown := State.put_sec { u.evaluated n g j.entry with sws, vt := { u.vt with power } } n r q
  clear_value f
  refine ⟨?_, fun m => ?_, fun h => ?_, fun h => ?_, fun hin h => ⟨fun ht => ?_, fun hst => ?_⟩, fun tr hst hrec => ?_,
    fun m hm => ⟨?_, ?_⟩, rfl, rfl, rfl, rfl, rfl, rfl, rfl⟩
  · exact congrArg (s.gens.set g) hafter
  · refine (Vector.getElem_map ..).trans ?_
    rw [hafter, hgate, show u.gens[g].gateOpen = gate before from hgate before _ _]
    rfl
  · obtain ⟨-, hq⟩ := hcalm (hcalmed h)
    refine hq.trans ?_
    rw [State.conditioned, hacts, hresults, hseq, resultWord_eq]
    rfl
  · obtain ⟨hr, -⟩ := hcalm fun hin => absurd hin fun hin => h (by simp only [List.mem_cons] at hin ⊢; tauto)
    rw [Section.requestedAll_none l h] at hr
    rw [hr]
    exact Vector.set_getElem_self ..
  · obtain ⟨hr, -⟩ := hcalm (hcalmed h)
    have hmem := (hcond (condValues n j.entry s)).mpr ⟨rfl, ht⟩
    obtain ⟨x, l', rfl⟩ := List.exists_cons_of_ne_nil (List.ne_nil_of_mem hmem)
    rw [Section.requestedAll_start (r := u.secs[n]) l' hin] at hr
    refine (congrArg Section.state hown).trans ?_
    rw [hr]
    rfl
  · obtain ⟨hr, -⟩ := hcalm (hcalmed h)
    have hst : r.state = .tripping := (congrArg Section.state hown).symm.trans hst
    cases l with
    | nil =>
      rw [show r = s.secs[n] from hr] at hst
      rw [hst] at hin
      exact absurd hin (by decide)
    | cons x l' =>
      rw [Section.requestedAll_start (r := u.secs[n]) l' hin] at hr
      refine ⟨_, (congrArg Section.record hown).trans (congrArg Section.record hr), ?_, fun hfirst => ?_⟩
      · exact (TripRecord.mem_joinAll_started rfl).trans
          ⟨fun ⟨v, hv⟩ => ((hcond v).mp hv).2, fun h => ⟨_, (hcond _).mpr ⟨rfl, h⟩⟩⟩
      · obtain ⟨hfirst', hvalues, -⟩ := TripRecord.joinAll_fixed l'
          ⟨x.1, [x.1], x.1, x.2, decide (u.fpus[n].state ≠ .lost), u.secs[n].state.origin, none⟩
        have hx : (.cond, x.2) ∈ x :: l' := by
          rw [← hfirst, show (TripRecord.joinAll l' _).first = x.1 from hfirst']
          exact List.mem_cons_self ..
        refine (show (TripRecord.joinAll l' _).values = x.2 from hvalues).trans (((hcond _).mp hx).1.trans ?_)
        rw [condValues, hseq, hentry]
  · have hcalmTrip : u.secs[n].Calm := fun hin => by
      rw [show u.secs[n].state = .tripping from hst] at hin
      exact absurd hin (by decide)
    obtain ⟨hr, -⟩ := hcalm hcalmTrip
    rw [Section.requestedAll_tripping (r := u.secs[n]) l hst, show u.secs[n].record = some tr from hrec] at hr
    refine ⟨tr.joinAll l, (congrArg Section.record hown).trans (congrArg Section.record hr), ?_⟩
    rw [TripRecord.mem_joinAll]
    exact or_congr_right ⟨fun ⟨v, hv⟩ => ((hcond v).mp hv).2, fun h => ⟨_, (hcond _).mpr ⟨rfl, h⟩⟩⟩
  · exact State.put_other u r q hm
  · exact Vector.getElem_set_ne n.isLt m.isLt fun heq => hm (Fin.ext heq.symm)

end Sys2Proof.Machine
end

section
/-!
RESTART (R74, R128, R162, R184): what each of its steps leaves.
-/

namespace Sys2Proof.Machine

variable {s t u : State} {n m : Sec} {k : Sw} {g : Gen} {w : SwitchPoint}

/-! ### Step 1: the sections (R74) -/

/-- A section's restart puts its record, and reports its power where that changed. -/
theorem restartSection_eq (n : Sec) (s : State) : ∃ q, restartSection n s =
    State.put (if s.secs[n].state.powered = (s.secs[n].restarted s.halted).state.powered then s
      else s.reported n (s.secs[n].restarted s.halted).state.powered) n (s.secs[n].restarted s.halted) q := by
  have hreport (r' : Section) (q : NoticeQueue) : reportChange n s.secs[n].state (s.put n r' q) =
      State.put (if s.secs[n].state.powered = r'.state.powered then s else s.reported n r'.state.powered) n r' q := by
    rw [reportChange_put]
    split <;> rfl
  unfold restartSection Section.restarted
  dsimp only
  by_cases hfail : s.secs[n].state = .breakerFail
  · rw [if_pos hfail, if_pos hfail, if_pos rfl]
    exact ⟨s.notices, (s.put_self n).symm⟩
  · rw [if_neg hfail, if_neg hfail]
    by_cases hf : s.secs[n].feedback = .closed ∨ s.secs[n].feedback = .discrepant
    · have henter : (enter n .closed s).modSec n (fun r => { r with attempt := 0, manual := false }) =
          s.put n { s.secs[n].entered s.halted .closed with attempt := 0, manual := false } s.notices := by
        conv_lhs => rw [← s.put_self n]
        rw [enter_put, modSec_put]
      rw [if_pos hf, if_pos hf, henter]
      exact ⟨_, hreport ..⟩
    · obtain ⟨q, henter⟩ : ∃ q, enterLockout n .restart s = s.put n (s.secs[n].entered s.halted .lockout) q := by
        conv in enterLockout n .restart s => rw [← s.put_self n]
        exact ⟨_, enterLockout_put ..⟩
      rw [if_neg hf, if_neg hf, henter]
      exact ⟨_, hreport ..⟩

/-- What a section's power report makes of a switch point fed from it (R126). -/
def SwitchPoint.reported (powered halted : Bool) (w : SwitchPoint) : SwitchPoint :=
  if powered then ({ w with power := true } : SwitchPoint).serve halted
  else if w.position = .moving then { w with power := false, driveTimer := none, stage := .none, position := .unknown }
  else { w with power := false }

theorem SwitchPoint.serve_feeding (halted : Bool) (w : SwitchPoint) : (w.serve halted).feeding = w.feeding := by
  unfold serve
  split
  · rfl
  · split <;> rfl

theorem SwitchPoint.reported_feeding (powered halted : Bool) (w : SwitchPoint) :
    (w.reported powered halted).feeding = w.feeding := by
  unfold reported
  split
  · exact serve_feeding ..
  · split <;> rfl

theorem reported_sw (n : Sec) (powered : Bool) (s : State) (k : Sw) : (s.reported n powered).sws[k] =
    if s.sws[k].feeding = some n then s.sws[k].reported powered s.halted else s.sws[k] :=
  Vector.getElem_map ..

/-- A section, and the switch points fed from it. -/
def State.fed (s : State) (n : Sec) : Section × (Sw → Option SwitchPoint) :=
  (s.secs[n], fun k => if s.sws[k].feeding = some n then some s.sws[k] else none)

/-- What the restart of a section makes of it and of the switch points fed from it. -/
def Restarted (halted : Bool) (x y : Section × (Sw → Option SwitchPoint)) : Prop :=
  y.1 = x.1.restarted halted ∧ ∀ (k : Sw) (w : SwitchPoint), x.2 k = some w →
    y.2 k = some (if x.1.state.powered = y.1.state.powered then w else w.reported y.1.state.powered halted)

/-- What the sections' restart may change. -/
def SectionsRestarted (s t : State) : Prop :=
  (∃ secs power sws notices, t = { s with secs, sws, notices, vt := { s.vt with power } }) ∧
  ∀ k : Sw, t.sws[k].feeding = s.sws[k].feeding ∧ (s.sws[k].feeding = none → t.sws[k] = s.sws[k])

theorem SectionsRestarted.refl (s : State) : SectionsRestarted s s :=
  ⟨⟨_, _, _, _, rfl⟩, fun _ => ⟨rfl, fun _ => rfl⟩⟩

theorem SectionsRestarted.trans (h : SectionsRestarted s t) (h' : SectionsRestarted t u) : SectionsRestarted s u := by
  obtain ⟨⟨_, _, _, _, rfl⟩, hsws⟩ := h
  obtain ⟨⟨_, _, _, _, rfl⟩, hsws'⟩ := h'
  refine ⟨⟨_, _, _, _, rfl⟩, fun k => ⟨(hsws' k).1.trans (hsws k).1, fun hk => ?_⟩⟩
  exact ((hsws' k).2 ((hsws k).1.trans hk)).trans ((hsws k).2 hk)

theorem restartSection_served (n : Sec) (s : State) : SectionsRestarted s (restartSection n s) ∧
    Restarted s.halted (s.fed n) ((restartSection n s).fed n) ∧
    ∀ m : Sec, m ≠ n → (restartSection n s).fed m = s.fed m := by
  obtain ⟨q, heq⟩ := restartSection_eq n s
  have hsws (k : Sw) : (restartSection n s).sws[k] =
      if s.sws[k].feeding = some n ∧ s.secs[n].state.powered ≠ (s.secs[n].restarted s.halted).state.powered then
        s.sws[k].reported (s.secs[n].restarted s.halted).state.powered s.halted
      else s.sws[k] := by
    rw [heq]
    split
    next h => exact (if_neg fun hnot => hnot.2 h).symm
    next h =>
      refine (reported_sw ..).trans (if_congr ?_ rfl rfl)
      rw [and_iff_left h]
  have hfeeding (k : Sw) : (restartSection n s).sws[k].feeding = s.sws[k].feeding := by
    rw [hsws]
    split
    · exact SwitchPoint.reported_feeding ..
    · rfl
  have hsec : (restartSection n s).secs[n] = s.secs[n].restarted s.halted := by
    rw [heq]
    exact State.put_sec ..
  refine ⟨⟨?_, fun k => ⟨hfeeding k, fun hk => ?_⟩⟩, ⟨hsec, fun k w hw => ?_⟩,
    fun m hm => Prod.ext ?_ (funext fun k => ?_)⟩
  · rw [heq]
    split
    · exact ⟨_, _, _, _, rfl⟩
    · exact ⟨_, _, _, _, rfl⟩
  · rw [hsws, if_neg fun hnot => by rw [hk] at hnot; cases hnot.1]
  · have hfed : s.sws[k].feeding = some n ∧ s.sws[k] = w := by
      have hw : (if s.sws[k].feeding = some n then some s.sws[k] else none) = some w := hw
      split at hw
      next h => exact ⟨h, Option.some.inj hw⟩
      next => cases hw
    obtain ⟨hn, rfl⟩ := hfed
    change (if (restartSection n s).sws[k].feeding = some n then some (restartSection n s).sws[k] else none) =
      some (if s.secs[n].state.powered = (restartSection n s).secs[n].state.powered then s.sws[k] else
        s.sws[k].reported (restartSection n s).secs[n].state.powered s.halted)
    rw [if_pos ((hfeeding k).trans hn), hsws, hsec]
    by_cases h : s.secs[n].state.powered = (s.secs[n].restarted s.halted).state.powered
    · rw [if_pos h, if_neg fun hnot => hnot.2 h]
    · rw [if_neg h, if_pos ⟨hn, h⟩]
  · rw [heq]
    change (State.put _ n _ q).secs[m] = s.secs[m]
    refine (State.put_other _ _ _ hm).trans ?_
    split <;> rfl
  · change (if (restartSection n s).sws[k].feeding = some m then some (restartSection n s).sws[k] else none) =
      if s.sws[k].feeding = some m then some s.sws[k] else none
    rw [hfeeding]
    by_cases h : s.sws[k].feeding = some m
    · rw [if_pos h, if_pos h, hsws, if_neg fun hnot => hm (Option.some.inj (h.symm.trans hnot.1))]
    · rw [if_neg h, if_neg h]

/-- The state that step 1 leaves of a part that was halted. -/
theorem sectionsRestart_halted (hh : s.halted = true) :
    SectionsRestarted { s with halted := false, draws := s.draws + 1 } (sectionsRestart s) ∧
    ∀ n : Sec, Restarted false (s.fed n) ((sectionsRestart s).fed n) := by
  obtain ⟨hmoved, hserved⟩ := forEach_turns (own := State.fed) (I := SectionsRestarted { s with halted := false })
    (P := fun _ => Restarted false) (Q := fun x y => y = x) (f := restartSection) (l := s.order)
    (s := { s with halted := false }) (fun _ => rfl) (fun _ _ _ h h' => h'.trans h) (fun _ _ _ _ h h' => h ▸ h')
    (fun _ _ _ _ h h' => h' ▸ h) (fun n t ht => by
      have hrun : t.halted = false := by
        obtain ⟨⟨_, _, _, _, rfl⟩, -⟩ := ht
        rfl
      obtain ⟨hmoved, hown, hother⟩ := restartSection_served n t
      exact ⟨ht.trans hmoved, hrun ▸ hown, hother⟩) s.order_nodup (.refl _)
  have heq : sectionsRestart s = (forEach s.order restartSection { s with halted := false }).drawn := if_pos hh
  rw [heq]
  refine ⟨?_, fun n => (hserved n).1 (s.mem_order n)⟩
  obtain ⟨⟨secs, power, sws, notices, hforEach⟩, hsws⟩ := hmoved
  rw [hforEach] at hsws ⊢
  exact ⟨⟨secs, power, sws, notices, rfl⟩, hsws⟩

/-! ### Step 2: the switch points (R128) -/

/-- A switch point's restart: a drive still PENDING is cancelled, and the head served. -/
def SwitchPoint.restarted (halted : Bool) (w : SwitchPoint) : SwitchPoint :=
  (if w.stage = .pending then w.cancelDrive else w).serve halted

theorem swRestart_eq (k : Sw) (s : State) : swRestart k s = s.modSw k (SwitchPoint.restarted s.halted) := by
  have hqueue : (if s.sws[k].stage = .pending then s.sws[k].cancelDrive else s.sws[k]).queue = s.sws[k].queue := by
    split <;> rfl
  exact swEvent_quiet (s := s) (t := s) (w := if s.sws[k].stage = .pending then s.sws[k].cancelDrive else s.sws[k])
    (q := s.notices) rfl hqueue

theorem switchesRestart_eq (wasHalted : Bool) (s : State) : switchesRestart wasHalted s =
    if wasHalted then { s with sws := s.sws.map (SwitchPoint.restarted s.halted) } else s := by
  unfold switchesRestart
  split
  · exact forEach_modSw s (SwitchPoint.restarted s.halted) swRestart fun k s' h => h ▸ swRestart_eq k s'
  · rfl

/-- The serving rule makes a drive toward the head's direction, or nothing. -/
theorem SwitchPoint.serve_or (w : SwitchPoint) : w.serve false = w ∨ ∃ h, w.queue.head? = some h ∧
    ({ w with position := .unknown } : SwitchPoint).mayServe false = true ∧ w.serve false = w.startDrive h.dir := by
  unfold serve
  cases hq : w.queue.head? with
  | none => exact .inl rfl
  | some h =>
    dsimp only
    split
    next hmay =>
      refine .inr ⟨h, rfl, ?_, rfl⟩
      rw [Bool.and_eq_true] at hmay
      obtain ⟨hmay, -⟩ := hmay
      simp_all [mayServe]
    next => exact .inl rfl

theorem SwitchPoint.serve_starts {h : QueueEntry} (hhead : w.queue.head? = some h) (hmay : w.mayServe false = true)
    (hdir : w.position ≠ h.dir.position) : w.serve false = w.startDrive h.dir := by
  rw [serve, hhead]
  exact if_pos (by rw [hmay, decide_eq_true hdir]; rfl)

theorem SwitchPoint.restarted_pending (hw : w.stage = .pending) : w.restarted false = w.cancelDrive.serve false := by
  rw [restarted, if_pos hw]

theorem SwitchPoint.serve_restarted (hw : w.stage = .pending) :
    (w.serve false).restarted false = w.cancelDrive.serve false := by
  rcases w.serve_or with hserve | ⟨h, hhead, hmay, hserve⟩
  · rw [hserve, restarted_pending hw]
  · have hdir : Position.unknown ≠ h.dir.position := by cases h.dir <;> nofun
    rw [hserve, restarted_pending rfl]
    exact (serve_starts (w := (w.startDrive h.dir).cancelDrive) hhead hmay hdir).trans
      (serve_starts (w := w.cancelDrive) hhead hmay hdir).symm

/-- A PENDING drive, whatever its section's power report has made of it, ends cancelled and served. -/
theorem SwitchPoint.restarted_of_pending (hw : w.stage = .pending) (powered : Bool) :
    (if w.power = powered then w else w.reported powered false).restarted false =
      ({ w with power := powered, driveTimer := none, stage := .none, position := .unknown } : SwitchPoint).serve false := by
  by_cases hp : w.power = powered
  · rw [if_pos hp, restarted, if_pos hw, ← hp]
    rfl
  · rw [if_neg hp]
    cases powered with
    | false =>
      rw [reported, if_neg nofun]
      by_cases hm : w.position = .moving
      · rw [if_pos hm, restarted, if_neg nofun]
      · rw [if_neg hm, restarted, if_pos hw]
        rfl
    | true =>
      rw [reported, if_pos rfl]
      exact serve_restarted hw

/-! ### Step 3: the loop (R162) -/

/-- Choosing an exchange leaves the cycle's marks and the notices as they are. -/
theorem tryExchange_marks (s : State) :
    (tryExchange s).1.loop.running = s.loop.running ∧ (tryExchange s).1.loop.cycleTimer = s.loop.cycleTimer ∧
    (tryExchange s).1.loop.late = s.loop.late ∧ (tryExchange s).1.loop.overrun = s.loop.overrun ∧
    (tryExchange s).1.notices = s.notices ∧
    ((tryExchange s).2 = true → (tryExchange s).1.loop.exchange.isSome = true) ∧
    ((tryExchange s).2 = false → (tryExchange s).1.loop.exchange = s.loop.exchange) := by
  have hcarried (a : Sta) (c : LoopCommand) (t : State) :
      (markCarried a c t).loop = t.loop ∧ (markCarried a c t).notices = t.notices := by
    unfold markCarried
    split <;> exact ⟨rfl, rfl⟩
  unfold tryExchange
  split
  next a _ =>
    obtain ⟨hloop, hnotices⟩ := hcarried a (pollCommand a s) (s.modLoop fun l => { l with pollPos := number a })
    exact ⟨(congrArg Loop.running hloop :), (congrArg Loop.cycleTimer hloop :), (congrArg Loop.late hloop :),
      (congrArg Loop.overrun hloop :), hnotices, fun _ => rfl, nofun⟩
  · split
    · exact ⟨rfl, rfl, rfl, rfl, rfl, nofun, fun _ => rfl⟩
    · split
      · exact ⟨rfl, rfl, rfl, rfl, rfl, fun _ => rfl, nofun⟩
      · exact ⟨rfl, rfl, rfl, rfl, rfl, nofun, fun _ => rfl⟩

/-- A cycle begun with no exchange in flight runs exactly while it has one (R146). -/
theorem newCycle_marks (he : s.loop.exchange = none) (ho : s.loop.overrun = false) :
    (newCycle s).loop.overrun = false ∧ (newCycle s).loop.late = false ∧
    (newCycle s).loop.cycleTimer = some s.loop.cycleTime ∧
    ((newCycle s).loop.exchange.isSome = true ↔ (newCycle s).loop.running = true) ∧
    (newCycle s).notices = s.notices := by
  obtain ⟨hrunning, htimer, hlate, hoverrun, hnotices, hsome, hnone⟩ := tryExchange_marks (s.modLoop Loop.startCycle)
  unfold newCycle
  generalize tryExchange (s.modLoop Loop.startCycle) = x at *
  obtain ⟨t, found⟩ := x
  cases found with
  | true => exact ⟨hoverrun.trans ho, hlate, htimer, ⟨fun _ => hrunning, fun _ => hsome rfl⟩, hnotices⟩
  | false =>
    refine ⟨rfl, hlate, htimer, ⟨fun h => ?_, nofun⟩, hnotices⟩
    have hexchange : t.loop.exchange = none := (hnone rfl).trans he
    rw [show (t.modLoop Loop.rest).loop.exchange = t.loop.exchange from rfl, hexchange] at h
    cases h

theorem loopRestart_eq (s : State) : ∃ loop sws, loopRestart s = { s with loop, sws } ∧
    (∀ k : Sw, s.sws[k].SameButCarried sws[k]) ∧ loop.holding = false ∧ loop.overrun = false ∧
    loop.stations = s.loop.stations ∧ loop.late = false ∧ loop.cycleTimer = some s.loop.cycleTime ∧
    (loop.exchange.isSome = true ↔ loop.running = true) := by
  let u : State := { s with loop := { s.loop with holding := false, exchange := none, overrun := false } }
  have heq : loopRestart s = newCycle u := rfl
  obtain ⟨loop, sws, notices, hmoved, ⟨hholding, hstations⟩, hsws⟩ := newCycle_moved u
  obtain ⟨hoverrun, hlate, htimer, hexchange, hnotices⟩ := newCycle_marks (s := u) rfl rfl
  rw [hmoved] at hoverrun hlate htimer hexchange hnotices
  exact ⟨loop, sws, heq.trans (hmoved.trans (by rw [show notices = s.notices from hnotices])), hsws, hholding, hoverrun,
    hstations, hlate, htimer, hexchange⟩

/-! ### Steps 4 and 5: the generators and the buffers (R35, R45) -/

/-- A generator's turn of a RESTART, and what it leaves of the buffers' settings. -/
theorem generatorRestart_served (g : Gen) (s : State) :
    let t := (generatorOff g s).modGen g fun g => { g with results := [], combined := false }
    (∃ gens caps, t = { s with gens, caps } ∧ ∀ n : Sec, caps[n].setting = s.caps[n].setting) ∧
    t.gens[g] = { s.gens[g] with out := .off, results := [], combined := false } ∧
    ∀ h : Gen, h ≠ g → t.gens[h] = s.gens[h] := by
  have hsetting (n : Sec) : (s.gateShut g)[n].setting = s.caps[n].setting := by
    refine (congrArg Capture.setting (Vector.getElem_map ..)).trans ?_
    split <;> rfl
  rw [generatorOff_eq]
  refine ⟨⟨_, _, rfl, hsetting⟩, ?_, fun h hne => ?_⟩
  · refine (updateAt_same ..).trans ?_
    rw [show (s.gens.set g { s.gens[g] with out := .off })[g] = _ from Vector.getElem_set_self ..]
  · exact (updateAt_other _ hne _).trans (Vector.getElem_set_ne g.isLt h.isLt fun heq => hne (Fin.ext heq.symm))

theorem generatorsRestart_eq (s : State) : ∃ gens caps, generatorsRestart s = { s with gens, caps } ∧
    (∀ n : Sec, caps[n].setting = s.caps[n].setting) ∧
    ∀ g : Gen, gens[g] = { s.gens[g] with out := .off, results := [], combined := false } := by
  obtain ⟨⟨gens, caps, heq, hsetting⟩, hserved⟩ := forEach_turns (own := fun t (g : Gen) => t.gens[g])
    (I := fun t => ∃ gens caps, t = { s with gens, caps } ∧ ∀ n : Sec, caps[n].setting = s.caps[n].setting)
    (P := fun _ x y => y = { x with out := .off, results := [], combined := false }) (Q := fun x y => y = x)
    (f := fun g s => (generatorOff g s).modGen g fun g => { g with results := [], combined := false })
    (l := List.finRange 8) (s := s) (fun _ => rfl) (fun _ _ _ h h' => h'.trans h) (fun _ _ _ _ h h' => h ▸ h')
    (fun _ _ _ _ h h' => h' ▸ h) (fun g t ht => by
      obtain ⟨⟨gens, caps, heq, hsetting⟩, hown, hother⟩ := generatorRestart_served g t
      obtain ⟨_, _, rfl, hsetting'⟩ := ht
      exact ⟨⟨gens, caps, heq, fun n => (hsetting n).trans (hsetting' n)⟩, hown, hother⟩)
    (List.nodup_finRange 8) ⟨_, _, rfl, fun _ => rfl⟩
  refine ⟨gens, caps, heq, hsetting, fun g => ?_⟩
  have hown := (hserved g).1 (List.mem_finRange g)
  rw [heq] at hown
  exact hown

/-! ### RESTART as a whole (R184) -/

theorem Section.restarted_failed {halted : Bool} (r : Section) :
    (r.restarted halted).state = .breakerFail ↔ r.state = .breakerFail := by
  unfold restarted
  split
  next h => rw [h]
  next h =>
    split
    · exact ⟨nofun, fun h' => absurd h' h⟩
    · exact ⟨nofun, fun h' => absurd h' h⟩

theorem Section.restarted_cases (r : Section) :
    (r.state = .breakerFail → r.restarted false = r) ∧
    (r.state ≠ .breakerFail → r.feedback = .closed ∨ r.feedback = .discrepant →
      r.restarted false = { r.standing .closed with
        tripLine := false, attempt := 0, manual := false, holds := { r.holds with noSupply := false } }) ∧
    (r.state ≠ .breakerFail → r.feedback = .opened ∨ r.feedback = .travel →
      r.restarted false = r.standingOpen .lockout) := by
  refine ⟨fun h => if_pos h, fun hfail hf => ?_, fun hfail hf => ?_⟩
  · rw [restarted, if_neg hfail, if_pos hf, entered_closed]
  · have hopen : ¬ (r.feedback = .closed ∨ r.feedback = .discrepant) := by
      rcases hf with hf | hf
      · simp [hf]
      · simp [hf]
    rw [restarted, if_neg hfail, if_neg hopen, entered_openLike rfl]

/-- What steps 1 and 2 leave of a switch point whose drive was PENDING. -/
theorem restarted_pending_fed {w' : SwitchPoint} {power : Bool} (hw : w.stage = .pending)
    (h : w' = w ∧ power = w.power ∨ w' = if w.power = power then w else w.reported power false) : w'.restarted false =
      ({ w with power, driveTimer := none, stage := .none, position := .unknown } : SwitchPoint).serve false := by
  rcases h with ⟨rfl, rfl⟩ | rfl
  · exact SwitchPoint.restarted_pending hw
  · exact SwitchPoint.restarted_of_pending hw power

/-- The state after step 1, in a halt and out of it. -/
theorem sectionsRestart_eq (s : State) : ∃ secs power sws notices draws,
    sectionsRestart s = { s with halted := false, secs, sws, notices, draws, vt := { s.vt with power } } ∧
    (s.halted = false → secs = s.secs ∧ power = s.vt.power ∧ sws = s.sws ∧ notices = s.notices) ∧
    (s.halted = true → (∀ n : Sec, secs[n] = s.secs[n].restarted false) ∧
      ∀ k : Sw, (s.sws[k].feeding = none → sws[k] = s.sws[k]) ∧
        ∀ n : Sec, s.sws[k].feeding = some n → sws[k] =
          if s.secs[n].state.powered = secs[n].state.powered then s.sws[k]
          else s.sws[k].reported secs[n].state.powered false) := by
  cases hh : s.halted with
  | false =>
    refine ⟨s.secs, s.vt.power, s.sws, s.notices, s.draws, ?_, fun _ => ⟨rfl, rfl, rfl, rfl⟩, nofun⟩
    rw [sectionsRestart, if_neg (by rw [hh]; nofun), ← hh]
  | true =>
    obtain ⟨⟨⟨secs, power, sws, notices, heq⟩, hsws⟩, hrestarted⟩ := sectionsRestart_halted hh
    rw [heq] at hsws hrestarted
    refine ⟨secs, power, sws, notices, s.draws + 1, heq, nofun, fun _ => ⟨fun n => (hrestarted n).1, fun k =>
      ⟨(hsws k).2, fun n hk => ?_⟩⟩⟩
    have hfed := (hrestarted n).2 k s.sws[k] (if_pos hk)
    have hown : (if sws[k].feeding = some n then some sws[k] else none) = some sws[k] := if_pos ((hsws k).1.trans hk)
    exact Option.some.inj (hown.symm.trans hfed)

/-- Settles O55: the five steps of R184 one after another; the sections come first, so the switch points' step meets the
power copies that their reports have left. -/
theorem restartResetsItsBlocks : Obligations.RestartResetsItsBlocks := by
  intro s hs failed
  obtain ⟨secs, power, sws, notices, draws, hsections, hrunning, hhalted⟩ := sectionsRestart_eq (hunting s)
  let sws' := if s.halted then sws.map (SwitchPoint.restarted false) else sws
  have hswitches : switchesRestart s.halted (sectionsRestart (hunting s)) = { hunting s with
      halted := false, secs, sws := sws', notices, draws, vt := { s.vt with power } } := by
    rw [hsections, switchesRestart_eq]
    simp only [sws']
    split
    · rfl
    · rfl
  obtain ⟨loop, sws'', hloop, hcarried, hholding, hoverrun, hstations, hlate, htimer, hexchange⟩ :=
    loopRestart_eq { hunting s with halted := false, secs, sws := sws', notices, draws, vt := { s.vt with power } }
  obtain ⟨gens, caps, hgenerators, hsetting, hoff⟩ := generatorsRestart_eq
    { hunting s with halted := false, secs, sws := sws'', notices, draws, loop, vt := { s.vt with power } }
  let caps' : Vector Capture 8 := caps.map fun b => b.restarted (fun g => gens[g].gateOpen) b.setting
  have hfailed : ((List.finRange 8).filter fun n => decide (secs[n].state = .breakerFail)).length = failed := by
    rw [← List.countP_eq_length_filter]
    refine List.countP_congr fun n _ => ?_
    rw [decide_eq_true_iff, decide_eq_true_iff]
    cases hh : s.halted with
    | false => rw [(hrunning hh).1]; rfl
    | true => rw [(hhalted hh).1 n]; exact Section.restarted_failed _
  refine ⟨{ s with
      halted := false, secs, sws := sws'', notices, draws, loop, gens, vt := { s.vt with power }, caps := caps' },
    taken_in_halt hs rfl ?_, rfl, rfl, rfl, rfl, rfl, rfl, rfl, rfl, fun hh => ?_, fun hh n => ?_, fun hh k => ?_,
    fun hh hpower k hk => ?_, hholding, hoverrun, hstations, hlate, htimer, hexchange, hoff, fun n => ?_⟩
  · have hpart : captureRestart (generatorsRestart (loopRestart (switchesRestart s.halted (sectionsRestart (hunting s))))) =
        { hunting s with
          halted := false, secs, sws := sws'', notices, draws, loop, gens, caps := caps', vt := { s.vt with power } } := by
      rw [hswitches, hloop, hgenerators]
      rfl
    have hreply : restartPart (hunting s) = accept
        (captureRestart (generatorsRestart (loopRestart (switchesRestart s.halted (sectionsRestart (hunting s))))))
        [fieldMark s.halted, fieldVal (captureRestart (generatorsRestart (loopRestart (switchesRestart s.halted
          (sectionsRestart (hunting s)))))).failed.length, fieldMark (captureRestart (generatorsRestart (loopRestart
            (switchesRestart s.halted (sectionsRestart (hunting s)))))).busTrip] := rfl
    rw [hreply, hpart, ← hfailed]
    rfl
  · obtain ⟨rfl, rfl, -, rfl⟩ := hrunning hh
    exact ⟨rfl, rfl, rfl⟩
  · obtain ⟨hstay, hclosed, hlockout⟩ := s.secs[n].restarted_cases
    have hn : secs[n] = s.secs[n].restarted false := (hhalted hh).1 n
    exact ⟨fun h => hn.trans (hstay h), fun h hf => hn.trans (hclosed h hf), fun h hf => hn.trans (hlockout h hf)⟩
  · have hsws : sws' = s.sws := (if_neg (by rw [hh]; nofun)).trans (hrunning hh).2.2.1
    have hk : sws''[k] = { sws'[k] with carried := sws''[k].carried } := hcarried k
    rw [hsws] at hk
    exact hk
  · obtain ⟨hnone, hfed⟩ := (hhalted hh).2 k
    have hsws : sws'[k] = sws[k].restarted false := by
      rw [show sws' = sws.map (SwitchPoint.restarted false) from if_pos hh]
      exact Vector.getElem_map ..
    have hk' : sws''[k] = { sws'[k] with carried := sws''[k].carried } := hcarried k
    refine hk'.trans (congrArg (fun w : SwitchPoint => { w with carried := sws''[k].carried }) (hsws.trans ?_))
    refine restarted_pending_fed hk ?_
    have hcopy := hpower.2 k
    split
    next hx => exact .inl ⟨hnone hx, rfl⟩
    next n hx => exact .inr (hcopy n hx ▸ hfed n hx)
  · have hn : caps'[n] = caps[n].restarted (fun g => gens[g].gateOpen) caps[n].setting := Vector.getElem_map ..
    have hset : caps[n].setting = s.caps[n].setting := hsetting n
    change caps'[n].setting = s.caps[n].setting ∧ caps'[n].entries = [] ∧ caps'[n].overrun = false ∧ caps'[n].decCount = 0 ∧
      caps'[n].remainder = 0 ∧ caps'[n].armed = true ∧ caps'[n].state = s.caps[n].setting.mode.begins ∧
      (s.caps[n].setting.mode = .onCondition → caps'[n].gate = false)
    rw [hn, ← hset]
    refine ⟨rfl, rfl, rfl, rfl, rfl, rfl, rfl, fun hmode => (if_pos hmode).trans ?_⟩
    rw [hoff]
    exact Bool.and_false _

end Sys2Proof.Machine
end

section
/-!
A reply that passes its checks (R152 to R155, R187): what it is read as, and how a poll's reply is handed on.
-/

namespace Sys2Proof.Machine

variable {s t u : State} {k : Sw} {a : Sta} {e : Exchange} {w : SwitchPoint} {q : NoticeQueue} {o : List Byte}
  {mark : Bool} {report : StationPosition}

/-! ### Reading a reply (R187) -/

theorem getLsbD_seven (b : Byte) : b.getLsbD 7 = decide (128 ≤ b.toNat) := by
  have hlt := b.isLt
  rw [BitVec.getLsbD, Nat.testBit_eq_decide_div_mod_eq, decide_eq_decide]
  omega

theorem parseLoopReply_ok {census : Bool} {recordKind kind position events telegrams : Nat} {es : List ContactEvent}
    (h : ReplyOf a o) (hmark : octetAt o 2 = position + 16 * kind + (if mark then 128 else 0))
    (hcounts : octetAt o 4 = 16 * events + telegrams) (hlength : o.length = 6 + events + 5 * telegrams)
    (hevents : events ≤ 8) (htelegrams : telegrams ≤ 2)
    (hes : contactsOf ((List.range events).map fun j => octetAt o (5 + j)) = some es)
    (hkind : (if census then kind else recordKind) = 1 ∧ position = 3 ∨
      (if census then kind else recordKind) ≠ 1 ∧ position ≤ 2)
    (hcensus : census = true → kind ≤ 1 ∧ (kind = 0 → octetAt o 3 ≤ 2)) (hk : kind ≤ 3) :
    parseLoopReply a census recordKind o = .ok
      { mark, kind, position, poles := octetAt o 3, events := es
        telegrams := (List.range telegrams).map fun j => telegramAt o (5 + events + 5 * j) } := by
  obtain ⟨hsum, h0, haddress⟩ := h
  have hbit : (o.getD 2 0).getLsbD 7 = mark := by
    rw [getLsbD_seven, show (o.getD 2 0).toNat = octetAt o 2 from rfl, hmark]
    cases mark with
    | true => exact decide_eq_true (by rw [if_pos rfl]; omega)
    | false => exact decide_eq_false (by rw [if_neg nofun]; omega)
  obtain ⟨hkind', hposition'⟩ : octetAt o 2 / 16 % 4 = kind ∧ octetAt o 2 % 4 = position := by
    rw [hmark]
    split <;> omega
  obtain ⟨hevents', htelegrams'⟩ : octetAt o 4 / 16 = events ∧ octetAt o 4 % 4 = telegrams := by omega
  have hread (h : census = true) : (if census then kind else recordKind) = kind := if_pos h
  rw [parseLoopReply, if_neg (not_not_intro hsum), if_neg (by omega), hkind', parseLoopBody,
    hevents', htelegrams', hposition', hkind', if_neg (by omega),
    if_neg (fun h => by have := hcensus h.1; have := hread h.1; omega), if_neg (by omega),
    if_neg (fun h => by have := (hcensus h.1).2 ((hread h.1).symm.trans h.2.1); omega), hes, hbit]

theorem stationPositionOf_code (p : StationPosition) : stationPositionOf p.code = some p := by
  cases p <;> rfl

theorem StationPosition.code_le (p : StationPosition) : p.code ≤ 2 := by
  cases p <;> decide

/-- A poll's reply from a switch station. -/
theorem parseLoopReply_switch {events telegrams : Nat} {es : List ContactEvent}
    (h : ReplyOf a o) (hmark : octetAt o 2 = report.code + (if mark then 128 else 0))
    (hcounts : octetAt o 4 = 16 * events + telegrams) (hlength : o.length = 6 + events + 5 * telegrams)
    (hevents : events ≤ 8) (htelegrams : telegrams ≤ 2)
    (hes : contactsOf ((List.range events).map fun j => octetAt o (5 + j)) = some es) :
    parseLoopReply a false 0 o = .ok
      { mark, kind := 0, position := report.code, poles := octetAt o 3, events := es
        telegrams := (List.range telegrams).map fun j => telegramAt o (5 + events + 5 * j) } :=
  parseLoopReply_ok h (kind := 0) hmark hcounts hlength hevents htelegrams hes (.inr ⟨nofun, report.code_le⟩) nofun
    (Nat.zero_le 3)

/-! ### The end of a poll (R150, R153, R154) -/

/-- The state in which a poll's reply is handed on: the exchange over, the station's failures 0, its mark stored. -/
def State.heard (s : State) (a : Sta) (mark : Bool) : State :=
  { s with loop := { s.loop with
    stations := s.loop.stations.set a { s.loop.stations[a] with failures := 0, mark := some mark }, exchange := none } }

/-- A poll's reply handed to the switch point, if any is bound, and to the Vehicle Table. -/
def handReply (a : Sta) (role : Role) (c : LoopCommand) (isNew : Bool) (r : LoopReply) (s : State) : State :=
  let s :=
    match role.switchPoint with
    | none => s
    | some k => handToSwitch k c isNew r s
  if isNew then handTelegrams a role r.telegrams s else s

theorem pollSucceeded_eq (e : Exchange) (r : LoopReply) (s : State) : pollSucceeded e r (dropExchange s) =
    handReply e.station s.loop.stations[e.station].role e.command
      (decide (s.loop.stations[e.station].mark ≠ some r.mark)) r (s.heard e.station r.mark) := rfl

/-- After the last exchange of a cycle that is in time, the loop rests. -/
theorem nextExchange_rests {v : State} {r : Station} (hs : s.loop.Spent)
    (hr : r.state = .online → s.loop.stations[a].state = .online)
    (hv : v.loop = { s.loop with stations := s.loop.stations.set a r, exchange := none }) :
    nextExchange v = { v with loop := s.loop.restingWith a r } := by
  rw [nextExchange_of_spent (by rw [hv]; exact hs.set_station hr), State.modLoop, hv]
  rfl

/-- A poll's reply that passes its checks, the last of its cycle. -/
theorem exec_pollReply {r : LoopReply} {v : State} (he : s.loop.exchange = some e) (hp : e.phase ≠ .sending)
    (hc : e.command ≠ .census) (hs : s.loop.Spent)
    (hr : parseLoopReply e.station false (s.loop.stations[e.station].role.kindCode.getD 0) o = .ok r)
    (hv : handReply e.station s.loop.stations[e.station].role e.command
      (decide (s.loop.stations[e.station].mark ≠ some r.mark)) r (s.heard e.station r.mark) = v)
    (hloop : v.loop = (s.heard e.station r.mark).loop) :
    exec (.loopReplyComplete o) s = .next { v with
      loop := s.loop.restingWith e.station { s.loop.stations[e.station] with failures := 0, mark := some r.mark } } := by
  have hjudged : judgeReply e o s = exchangeSucceeded e r s := by
    simp only [judgeReply, decide_eq_false hc, hr]
  have hpoll : exchangeSucceeded e r s = nextExchange (pollSucceeded e r (dropExchange s)) := by
    unfold exchangeSucceeded
    cases h : e.command with
    | census => exact absurd h hc
    | poll => rfl
    | drive => rfl
  refine congrArg Host.Outcome.next ((loopCompleted_listening he hp).trans (hjudged.trans (hpoll.trans ?_)))
  rw [pollSucceeded_eq, hv]
  exact nextExchange_rests hs id hloop

end Sys2Proof.Machine
end

section
/-!
One switch point under a reply: a position report, a contact event, an acceptance (R123, R124, R127, R129 to R131).
-/

namespace Sys2Proof.Machine

variable {s t u : State} {k : Sw} {w : SwitchPoint} {q : NoticeQueue} {p : StationPosition} {d : Direction}
  {halted : Bool} {i : Slot} {v : Vehicle} {h : QueueEntry} {rest : List QueueEntry}

/-! ### The serving rule, again (R121) -/

theorem SwitchPoint.serve_of_blocked (hw : w.mayServe halted = false) : w.serve halted = w := by
  unfold serve
  split
  · rfl
  · exact if_neg (by rw [hw]; nofun)

theorem SwitchPoint.serve_of_poles (hw : w.poles ≠ 0) : w.serve halted = w :=
  serve_of_blocked (by simp [mayServe, hw])

theorem SwitchPoint.serve_of_moving (hw : w.position = .moving) : w.serve halted = w :=
  serve_of_blocked (by simp [mayServe, hw])

/-- The serving rule leaves the record, or makes a drive toward a direction the frog does not stand in. -/
theorem SwitchPoint.serve_cases (halted : Bool) (w : SwitchPoint) : w.serve halted = w ∨
    ∃ d : Direction, w.position ≠ d.position ∧ w.serve halted = w.startDrive d := by
  unfold serve
  split
  · exact .inl rfl
  next h _ =>
    split
    next hmay =>
      rw [Bool.and_eq_true, decide_eq_true_iff] at hmay
      exact .inr ⟨h.dir, hmay.2, rfl⟩
    next => exact .inl rfl

theorem SwitchPoint.serve_serve (halted : Bool) (w : SwitchPoint) : (w.serve halted).serve halted = w.serve halted := by
  rcases w.serve_cases halted with h | ⟨d, -, h⟩
  · rw [h, h]
  · rw [h]
    exact serve_of_moving rfl

/-- The record with a report stored. -/
def SwitchPoint.reporting (p : StationPosition) (w : SwitchPoint) : SwitchPoint := { w with lastReport := p }

theorem SwitchPoint.serve_reporting (halted : Bool) (p : StationPosition) (w : SwitchPoint) :
    (w.reporting p).serve halted = (w.serve halted).reporting p := by
  have hmay : (w.reporting p).mayServe halted = w.mayServe halted := rfl
  unfold serve
  rw [hmay, show (w.reporting p).queue = w.queue from rfl, show (w.reporting p).position = w.position from rfl]
  split
  · rfl
  · split <;> rfl

/-! ### A position report (R124, R127) -/

/-- The report of a frog that stands in direction `d`. -/
def Direction.report : Direction → StationPosition
  | .straight => .straight
  | .turnout => .turnout

theorem Direction.report_atEnd (d : Direction) : d.report.atEnd = some d := by cases d <;> rfl

theorem Direction.report_code (d : Direction) : d.report.code = d.code := by cases d <;> rfl

theorem StationPosition.eq_report (h : p.code = d.code) : p = d.report := by
  cases d with
  | straight =>
    cases p with
    | straight => rfl
    | _ => cases h
  | turnout =>
    cases p with
    | turnout => rfl
    | _ => cases h

theorem swPosition_of {w' : SwitchPoint} {q' : NoticeQueue}
    (h : (match w.position with
      | .moving => if p.atEnd = some w.target then driveArrives k (t.switch k (w.reporting p) q)
        else t.switch k (w.reporting p) q
      | .unknown => t.switch k ((w.reporting p).learn p) q
      | .straight => if p = .straight then t.switch k (w.reporting p) q
        else unexpectedMove k p (t.switch k (w.reporting p) q)
      | .turnout => if p = .turnout then t.switch k (w.reporting p) q
        else unexpectedMove k p (t.switch k (w.reporting p) q)) = t.switch k w' q')
    (hq : w'.queue = w.queue) : swPosition k p (t.switch k w q) = t.switch k (w'.serve t.halted) q' := by
  refine swEvent_quiet (t := t) ?_ (by rw [State.switch_sw, hq])
  rw [modSw_switch]
  dsimp only
  rw [State.switch_sw, modSw_switch]
  exact h

/-- A report of the position held, or one other than the target of a drive. -/
theorem swPosition_stays (hw : w.position = .moving ∧ p.atEnd ≠ some w.target ∨
      ∃ d : Direction, w.position = d.position ∧ p = d.report) :
    swPosition k p (t.switch k w q) = t.switch k ((w.reporting p).serve t.halted) q := by
  refine swPosition_of ?_ rfl
  rcases hw with ⟨hmoving, htarget⟩ | ⟨d, hheld, rfl⟩
  · rw [hmoving]
    exact if_neg htarget
  · rw [hheld]
    cases d <;> rfl

/-- A report of the position held, after an event: a drive that the serving rule has just made goes elsewhere. -/
theorem swPosition_held (hw : w.position = d.position) :
    swPosition k d.report (t.switch k (w.serve t.halted) q) = t.switch k ((w.reporting d.report).serve t.halted) q := by
  have hagree : ((w.serve t.halted).position = .moving ∧ d.report.atEnd ≠ some (w.serve t.halted).target) ∨
      ∃ d' : Direction, (w.serve t.halted).position = d'.position ∧ d.report = d'.report := by
    rcases w.serve_cases t.halted with h | ⟨d', hd, h⟩
    · rw [h]
      exact .inr ⟨d, hw, rfl⟩
    · rw [h, d.report_atEnd]
      exact .inl ⟨rfl, fun heq => hd (hw.trans (congrArg Direction.position (Option.some.inj heq)))⟩
  rw [swPosition_stays hagree, SwitchPoint.serve_reporting, SwitchPoint.serve_reporting, SwitchPoint.serve_serve]

/-- The record when the target is reported: the drive is over (R124). -/
def SwitchPoint.arrived (d : Direction) (w : SwitchPoint) : SwitchPoint :=
  { w.reporting d.report with driveTimer := none, stage := .none, position := d.position, failed := 0 }

theorem swPosition_arrives (hw : w.position = .moving) (hd : w.target = d) :
    swPosition k d.report (t.switch k w q) = t.switch k ((w.arrived d).serve t.halted)
      (q.take t.clock .switchMoved 1 (.switch k)
        [word d.position.code, w.headWord, word (if w.stage = .sent then w.driveMs else 0)]) := by
  refine swPosition_of ?_ rfl
  rw [hw]
  refine (if_pos (d.report_atEnd.trans (congrArg some hd.symm))).trans ?_
  rw [driveArrives, modSw_switch, State.switch_sw, queueNotice_switch, ← hd]
  rfl

/-- The record when an end it did not stand in, or none, is reported (R127). -/
def SwitchPoint.moved (p : StationPosition) (w : SwitchPoint) : SwitchPoint :=
  { w.reporting p with position := match p.atEnd with | some d => d.position | none => .unknown }

theorem unexpectedMove_switch : unexpectedMove k p (t.switch k (w.reporting p) q) = t.switch k (w.moved p)
    (q.take t.clock .unexpectedMove 5 (.switch k) [word w.position.code, word p.code, word w.poles]) := by
  rw [unexpectedMove, modSw_switch, State.switch_sw, queueNotice_switch]
  rfl

theorem swPosition_differs (hw : w.position = d.position) (hd : p.code ≠ d.code) :
    swPosition k p (t.switch k w q) = t.switch k ((w.moved p).serve t.halted)
      (q.take t.clock .unexpectedMove 5 (.switch k) [word d.code, word p.code, word w.poles]) := by
  have hcode : d.position.code = d.code := by cases d <;> rfl
  rw [← hcode, ← hw]
  refine swPosition_of ?_ rfl
  rw [← unexpectedMove_switch, hw]
  cases d with
  | straight => exact if_neg fun h => hd (by rw [h]; rfl)
  | turnout => exact if_neg fun h => hd (by rw [h]; rfl)

/-! ### Two switch points' records -/

theorem State.switch_switch {w' : SwitchPoint} {q' : NoticeQueue} : (t.switch k w q).switch k w' q' = t.switch k w' q' :=
  congrArg (fun sws => { t with sws, notices := q' }) (Vector.set_set ..)

theorem State.switch_comm {j : Sw} {w' : SwitchPoint} {q₁ q₂ : NoticeQueue} (h : j ≠ k) :
    (t.switch k w q₁).switch j w' q = (t.switch j w' q₂).switch k w q :=
  congrArg (fun sws => { t with sws, notices := q })
    (Vector.set_comm _ _ fun hk : k.val = j.val => h (Fin.ext hk.symm))

/-! ### A passage begins (R129) -/

/-- The record as a passage begins. -/
def SwitchPoint.passing (w : SwitchPoint) : SwitchPoint :=
  { w with poles := 1, both := false, poleTimer := .running w.tPole, passTimer := .running w.tPass }

theorem beginPassage_eq : beginPassage k (t.switch k w q) =
    match w.queue.head? with
    | some h =>
      let t := vehicleOccupies h.number k (t.switch k { w.passing with occupant := some h.number } q)
      if w.position ≠ .moving ∧ w.position ≠ h.dir.position then
        queueNotice .mismatch 4 (.switch k) [word h.number, word h.dir.code, word w.position.code, 1] t
      else t
    | none => t.switch k w.passing
      (q.take t.clock .unannounced 4 (.switch k) [word w.position.code, word w.lock.code]) := by
  rw [beginPassage, modSw_switch]
  dsimp only
  rw [State.switch_sw]
  dsimp only
  cases w.queue.head? with
  | none => rfl
  | some h =>
    dsimp only
    rw [modSw_switch]
    rfl

theorem beginPassage_unannounced (hq : w.queue = []) : beginPassage k (t.switch k w q) = t.switch k w.passing
    (q.take t.clock .unannounced 4 (.switch k) [word w.position.code, word w.lock.code]) := by
  rw [beginPassage_eq, hq]
  rfl

/-- The head's vehicle becomes the occupant, and its record is told. -/
theorem beginPassage_announced (hq : w.queue = h :: rest) (ht : TableOk t) (hv : t.vt.slots[i] = some v)
    (hnum : v.number = h.number) : beginPassage k (t.switch k w q) =
      (t.putVehicle i { v with occupied := some k }).switch k { w.passing with occupant := some h.number }
        (if w.position ≠ .moving ∧ w.position ≠ h.dir.position then
          q.take t.clock .mismatch 4 (.switch k) [word h.number, word h.dir.code, word w.position.code, 1] else q) := by
  have hoccupies (w' : SwitchPoint) : vehicleOccupies h.number k (t.switch k w' q) =
      (t.putVehicle i { v with occupied := some k }).switch k w' q := by
    rw [← hnum]
    exact modVehicle_eq (s := t.switch k w' q) ht hv _
  rw [beginPassage_eq, hq, List.head?_cons]
  dsimp only
  rw [hoccupies]
  split
  · rfl
  · rfl

/-! ### ENTRY (R129, R130) -/

theorem swEntry_of {w' : SwitchPoint} {q' : NoticeQueue} (hm : w.position ≠ .moving)
    (h : countEntry k (t.switch k w q) = u.switch k w' q') (hq : w'.queue = w.queue) :
    swContact k .entry (t.switch k w q) = u.switch k (w'.serve u.halted) q' := by
  rw [swContact, swEntry]
  refine swEvent_quiet (t := u) ?_ (by rw [State.switch_sw, hq])
  rw [State.switch_sw, if_neg hm, h]

theorem countEntry_first (h0 : w.poles = 0) : countEntry k (t.switch k w q) = beginPassage k (t.switch k w q) := by
  rw [countEntry, State.switch_sw, h0]
  rfl

theorem countEntry_second (h1 : w.poles = 1) :
    countEntry k (t.switch k w q) = t.switch k { w with poles := 2, both := true, poleTimer := .stopped } q := by
  rw [countEntry, State.switch_sw, h1]
  exact modSw_switch ..

theorem contactFault_switch (event : Half) : contactFault k event (t.switch k w q) = t.switch k w
    (q.take t.clock .contactFault 5 (.switch k) [event, word w.poles, word (w.occupant.getD 0)]) := by
  rw [contactFault, State.switch_sw, queueNotice_switch, vehicleWord_eq]

theorem countEntry_third (h2 : w.poles = 2) : countEntry k (t.switch k w q) = t.switch k w
    (q.take t.clock .contactFault 5 (.switch k) [1, word w.poles, word (w.occupant.getD 0)]) := by
  rw [← contactFault_switch, countEntry, State.switch_sw, h2]
  rfl

/-! ### EXIT (R131) -/

theorem swExit_of {w' : SwitchPoint} {q' : NoticeQueue}
    (h : (match w.poles with
      | 0 => contactFault k 2 (t.switch k w q)
      | 1 => endPassage k (t.switch k w q)
      | n + 2 => t.switch k { w with poles := n + 1 } q) = u.switch k w' q')
    (hq : w'.queue = w.queue ∨ w'.lock ≠ .pinned) :
    swContact k .exit (t.switch k w q) = u.switch k (w'.serve u.halted) q' := by
  rw [swContact, swExit]
  refine (swEvent_switch (t := u) (w := w') (q := q') ?_).trans ?_
  · rw [State.switch_sw, ← h]
    cases w.poles with
    | zero => rfl
    | succ n =>
      cases n with
      | zero => rfl
      | succ n => exact modSw_switch ..
  · rcases hq with hq | hq
    · refine pinnedMismatch_of_same_head ?_
      rw [State.switch_sw, State.switch_sw, (SwitchPoint.serve_kept ..).1, hq]
    · refine pinnedMismatch_of_unpinned ?_ _ _
      rw [State.switch_sw, (SwitchPoint.serve_kept ..).2.1]
      exact hq

/-- The record as a passage ends. -/
def SwitchPoint.vacated (w : SwitchPoint) : SwitchPoint :=
  { w with poles := 0, poleTimer := .stopped, passTimer := .stopped, occupant := none }

/-- PASSAGE INCOMPLETE unless both poles were seen. -/
def SwitchPoint.passageNotices (w : SwitchPoint) (k : Sw) (clock : ClockValue) (q : NoticeQueue) : NoticeQueue :=
  if w.both then q
  else q.take clock .passageIncomplete 4 (.switch k) [word (w.occupant.getD 0), word w.lock.code]

theorem endPassage_vacant (ho : w.occupant = none) : endPassage k (t.switch k w q) =
    t.switch k w.vacated (w.passageNotices k t.clock q) := by
  have hvacated : ({ w with poles := 0, poleTimer := .stopped, passTimer := .stopped } : SwitchPoint) = w.vacated := by
    unfold SwitchPoint.vacated
    rw [ho]
  rw [endPassage, State.switch_sw, modSw_switch, hvacated, SwitchPoint.passageNotices, queueNotice_switch, vehicleWord_eq,
    ho]
  cases w.both with
  | true => rfl
  | false => rfl

/-- The occupant gives up its place. -/
theorem endPassage_occupied (hq : w.queue = h :: rest) (ho : w.occupant = some h.number)
    (hrest : ∀ e ∈ rest, e.number ≠ h.number) : endPassage k (t.switch k w q) =
      vehicleRemoved h.number (t.switch k { w.vacated with queue := rest } (w.passageNotices k t.clock q)) := by
  have hfilter : w.queue.filter (fun e => e.number != h.number) = rest := by
    rw [hq, List.filter_cons_of_neg (by simp), List.filter_eq_self]
    exact fun e he => bne_iff_ne.mpr (hrest e he)
  rw [endPassage, State.switch_sw, modSw_switch]
  dsimp only
  rw [queueNotice_switch, vehicleWord_eq, ho]
  dsimp only
  rw [dropEntry, ← hfilter, SwitchPoint.passageNotices, ho]
  split
  · rw [modSw_switch, modSw_switch]
    rfl
  · rw [modSw_switch, modSw_switch]
    rfl

/-! ### An ENTRY under a moving frog (R130, R134) -/

/-- The state with the hold SWITCH_LOCK present in a section. -/
def State.lockHeld (s : State) (n : Sec) : State :=
  { s with secs := s.secs.set n { s.secs[n] with holds := { s.secs[n].holds with switchLock := true } } }

/-- A section that gains a hold joins no list. -/
theorem setHolds_switchLock (n : Sec) (s : State) :
    setHolds n (fun h => { h with switchLock := true }) s = s.lockHeld n := by
  conv_lhs => rw [← s.withSec_self n]
  rw [setHolds_withSec, holdsChanged_stays (.inr (.inr fun h => Bool.noConfusion (congrArg Holds.switchLock h)))]
  rfl

/-- The lock leaves another for DEWIRED, and the section fed from has its hold. -/
theorem setLock_holds {n : Sec} (hf : w.feeding = some n) (hl : w.lock ≠ .dewired) :
    setLock k .dewired (t.switch k w q) = (t.lockHeld n).switch k { w with lock := .dewired } q := by
  have hlocked : (t.switch k { w with lock := .dewired } q).switchLocked n = true :=
    switchLocked_switch.mpr (.inl ⟨hf, rfl⟩)
  rw [setLock_told hf fun h => hl (h.mpr rfl), reportLock, hlocked, setHolds_switchLock]
  rfl

/-- The record once an ENTRY has found the frog MOVING. -/
def SwitchPoint.caught (w : SwitchPoint) : SwitchPoint := { w.cancelDrive with lock := .dewired }

theorem swEntry_moving {n : Sec} {w' : SwitchPoint} {q' : NoticeQueue} (hm : w.position = .moving)
    (h : countEntry k (t.switch k w q) = u.switch k w' q') (hq : w'.queue = w.queue) (hf : w'.feeding = some n)
    (hl : w'.lock ≠ .dewired) : swContact k .entry (t.switch k w q) = (u.lockHeld n).switch k w'.caught
      (q'.take u.clock .dewire 6 (.switch k) [word (w'.occupant.getD 0), 0, word w'.target.code]) := by
  have hserve : w'.caught.serve (u.lockHeld n).halted = w'.caught := SwitchPoint.serve_of_locked _ nofun
  rw [swContact, swEntry, ← hserve]
  refine swEvent_quiet ?_ (by rw [State.switch_sw]; exact hq)
  rw [State.switch_sw, if_pos hm, h, entryDuringMove, modSw_switch, setLock_holds (w := w'.cancelDrive) hf hl,
    queueDewire, State.switch_sw, queueNotice_switch, vehicleWord_eq]
  rfl

/-! ### A DRIVE accepted (R123) -/

/-- The record once the DRIVE is accepted. -/
def SwitchPoint.sent (w : SwitchPoint) : SwitchPoint :=
  { w with stage := .sent, carried := false, driveTimer := some w.tDrive, driveMs := 0 }

theorem driveAccepted_pending (hm : w.position = .moving) (hs : w.stage = .pending) (hc : w.carried = true) :
    driveAccepted k (t.switch k w q) = t.switch k w.sent q := by
  have hserve : w.sent.serve t.halted = w.sent := SwitchPoint.serve_of_moving hm
  rw [driveAccepted, ← hserve]
  refine swEvent_quiet ?_ (by rw [State.switch_sw]; rfl)
  rw [modSw_switch, if_pos ⟨hs, hc⟩]
  rfl

/-! ### Approaches (R119) -/

/-- The record with a number appended to its queue. -/
def SwitchPoint.approached (num : Nat) (dir : Direction) (w : SwitchPoint) : SwitchPoint :=
  { w with queue := w.queue ++ [⟨num, dir⟩] }

/-- An approach is appended; `u` is the state once the vehicle's record, if any, is told. -/
theorem swApproach_appends {num : Nat} {route : Route} (hh : s.sws[k].holds num = false) (hl : s.sws[k].queue.length < 4)
    (hu : vehicleQueued num k (s.switch k (s.sws[k].approached num (route.getD s.sws[k].default)) s.notices) =
      u.switch k (s.sws[k].approached num (route.getD s.sws[k].default)) s.notices) :
    swApproach k num route s = pinnedMismatch k s.sws[k].queue.head? false
      (u.switch k ((s.sws[k].approached num (route.getD s.sws[k].default)).serve u.halted) s.notices) := by
  rw [swApproach]
  refine swEvent_switch ?_
  dsimp only
  rw [if_neg (by rw [hh]; nofun), if_neg (by omega)]
  exact hu

theorem vehicleQueued_eq {w : SwitchPoint} (ht : TableOk s) (hv : s.vt.slots[i] = some v) :
    vehicleQueued v.number k (s.switch k w q) = (s.putVehicle i { v with queue := some k }).switch k w q :=
  modVehicle_eq (s := s.switch k w q) ht hv _

end Sys2Proof.Machine
end

section
/-!
A switch station's reply to a poll (R123, R124, R127, R129 to R131, R154).
-/

namespace Sys2Proof.Machine

variable {s t u v : State} {k : Sw} {a : Sta} {e : Exchange} {w : SwitchPoint} {q : NoticeQueue} {o : List Byte}
  {mark : Bool} {p : StationPosition} {d : Direction} {es : List ContactEvent} {c : LoopCommand}

/-! ### The reply handed on (R154) -/

/-- What a switch station's reply without telegrams does, in R154's order. -/
def switchHears (k : Sw) (c : LoopCommand) (es : List ContactEvent) (p : StationPosition) (s : State) : State :=
  swPosition k p (forEach es (swContact k) (match c with | .drive _ => driveAccepted k s | .poll => s | .census => s))

/-- The contact events that are handed on: those of a new reply. -/
def eventsTaken (s : State) (a : Sta) (mark : Bool) (es : List ContactEvent) : List ContactEvent :=
  if s.loop.stations[a].mark = some mark then [] else es

theorem eventsTaken_of_new (h : s.loop.stations[a].mark ≠ some mark) : eventsTaken s a mark es = es := if_neg h

theorem eventsTaken_nil : eventsTaken s a mark [] = [] := ite_self _

theorem heard_switch (s : State) (a : Sta) (mark : Bool) (k : Sw) :
    s.heard a mark = (s.heard a mark).switch k s.sws[k] s.notices := ((s.heard a mark).switch_self k).symm

theorem exec_switchReply {events : Nat} (he : s.loop.exchange = some e) (hp : e.phase ≠ .sending) (hc : e.command = c)
    (hcensus : c ≠ .census) (hs : s.loop.Spent) (hrole : s.loop.stations[e.station].role = .switch (some k))
    (ho : ReplyOf e.station o) (hmark : octetAt o 2 = p.code + (if mark then 128 else 0))
    (hcounts : octetAt o 4 = 16 * events) (hlength : o.length = 6 + events) (hevents : events ≤ 8)
    (hes : contactsOf ((List.range events).map fun j => octetAt o (5 + j)) = some es)
    (hv : switchHears k c (eventsTaken s e.station mark es) p
      ((s.heard e.station mark).switch k s.sws[k] s.notices) = v)
    (hloop : v.loop = (s.heard e.station mark).loop) : exec (.loopReplyComplete o) s = .next { v with
      loop := s.loop.restingWith e.station { s.loop.stations[e.station] with failures := 0, mark := some mark } } := by
  subst hc
  refine exec_pollReply he hp hcensus hs (by
    rw [hrole]
    exact parseLoopReply_switch ho hmark (telegrams := 0) hcounts hlength hevents (Nat.zero_le 2) hes) ?_ hloop
  rw [← hv, ← heard_switch, hrole, handReply, Role.switchPoint, eventsTaken]
  unfold switchHears handToSwitch handPosition
  dsimp only
  rw [stationPositionOf_code]
  by_cases hnew : s.loop.stations[e.station].mark = some mark
  · rw [if_pos hnew, decide_eq_false (not_not_intro hnew)]
    cases e.command <;> rfl
  · rw [if_neg hnew, decide_eq_true hnew]
    cases e.command <;> rfl

/-- The DRIVE accepted, and nothing new of the position. -/
theorem switchHears_accepts (hm : w.position = .moving) (hst : w.stage = .pending) (hcar : w.carried = true) :
    switchHears k (.drive d) [] .between (t.switch k w q) = t.switch k (w.sent.reporting .between) q := by
  have hstays := swPosition_stays (t := t) (k := k) (q := q) (p := .between) (w := w.sent) (.inl ⟨hm, nofun⟩)
  rw [SwitchPoint.serve_of_moving (w := w.sent.reporting .between) hm] at hstays
  exact (congrArg (swPosition k .between) (driveAccepted_pending hm hst hcar)).trans hstays

/-- The target reported, with no vehicle waiting. -/
theorem switchHears_arrives (hm : w.position = .moving) (hd : w.target = d) (hst : w.stage = .sent) (hq : w.queue = []) :
    switchHears k .poll [] d.report (t.switch k w q) = t.switch k (w.arrived d)
      (q.take t.clock .switchMoved 1 (.switch k) [word d.position.code, 0, word w.driveMs]) := by
  have harrives := swPosition_arrives (t := t) (k := k) (q := q) hm hd
  rw [SwitchPoint.serve_of_empty _ (show (w.arrived d).queue = [] from hq), if_pos hst, SwitchPoint.headWord, hq] at harrives
  exact harrives

/-- An ENTRY under a frog at rest, then the position held. -/
theorem switchHears_entry {w' : SwitchPoint} {q' : NoticeQueue} (hw : w.position = d.position)
    (h : countEntry k (t.switch k w q) = u.switch k w' q') (hq : w'.queue = w.queue) (hw' : w'.position = d.position) :
    switchHears k .poll [.entry] d.report (t.switch k w q) =
      u.switch k ((w'.reporting d.report).serve u.halted) q' := by
  have hentry := swEntry_of (by rw [hw]; exact d.position_ne_moving) h hq
  exact (congrArg (swPosition k d.report) hentry).trans (swPosition_held hw')

/-- A reply of one contact event. -/
theorem contactsOf_single {event : ContactEvent} (h : contactOf (octetAt o 5) = some event) :
    contactsOf ((List.range 1).map fun j => octetAt o (5 + j)) = some [event] := by
  change (match contactOf (octetAt o 5), some [] with | some e, some es => some (e :: es) | _, _ => none) = _
  rw [h]

/-! ### The obligation -/

/-- Settles O46: the acceptance, the end of a drive and the beginning of a passage, each one event, then the position. -/
theorem switchStationReplyActsOnTheSwitchPoint : Obligations.SwitchStationReplyActsOnTheSwitchPoint := by
  intro s e k o mark he hp hs hrole hsum h0 haddress r w loop
  have ho : ReplyOf e.station o := ⟨hsum, h0, haddress⟩
  have hbetween (h2 : octetAt o 2 = if mark then 130 else 2) :
      octetAt o 2 = StationPosition.between.code + (if mark then 128 else 0) := by
    rw [h2]
    cases mark <;> rfl
  have hstraight (h2 : octetAt o 2 = if mark then 128 else 0) :
      octetAt o 2 = StationPosition.straight.code + (if mark then 128 else 0) := h2.trans (Nat.zero_add _).symm
  refine ⟨fun d hlen h4 h2 hc hm hst hcar => ?_, fun d hlen h4 h2 hc hm hd hst hq => ?_,
    fun hlen h4 h5 h2 hc hnew hpos hpoles => ?_⟩
  · refine exec_switchReply (v := (s.heard e.station mark).switch k (w.sent.reporting .between) s.notices) he hp hc nofun hs
      hrole ho (hbetween h2) h4 hlen (Nat.zero_le 8) rfl ?_ rfl
    rw [eventsTaken_nil]
    exact switchHears_accepts hm hst hcar
  · refine (exec_switchReply (v := (s.heard e.station mark).switch k (w.arrived d) (s.noticed .switchMoved 1 (.switch k)
      [word d.position.code, 0, word w.driveMs])) he hp hc nofun hs hrole ho (by rw [h2, d.report_code]) h4 hlen
      (Nat.zero_le 8) rfl ?_ rfl).trans (by cases d <;> rfl)
    rw [eventsTaken_nil]
    exact switchHears_arrives hm hd hst hq
  · have hexec {v : State} {w' : SwitchPoint} {q' : NoticeQueue}
        (hbegins : beginPassage k ((s.heard e.station mark).switch k w s.notices) = v.switch k w' q')
        (hqueue : w'.queue = w.queue) (hunder : w'.poles ≠ 0) (hposition : w'.position = .straight)
        (hloop : v.loop = (s.heard e.station mark).loop) :
        exec (.loopReplyComplete o) s = .next { v.switch k (w'.reporting .straight) q' with
          loop := s.loop.restingWith e.station { r with failures := 0, mark := some mark } } := by
      refine exec_switchReply he hp hc nofun hs hrole ho (hstraight h2) h4 hlen (by decide)
        (contactsOf_single (event := .entry) (by rw [h5]; rfl)) (v := v.switch k (w'.reporting .straight) q') ?_ hloop
      rw [eventsTaken_of_new hnew]
      refine (switchHears_entry (d := .straight) hpos ((countEntry_first hpoles).trans hbegins) hqueue hposition).trans ?_
      rw [SwitchPoint.serve_of_poles (w := w'.reporting Direction.straight.report) hunder]
      rfl
    refine ⟨fun hq => hexec (beginPassage_unannounced hq) rfl nofun hpos rfl, fun h rest i v hq ht hv hnum => ?_⟩
    have hmismatch : (if w.position ≠ .moving ∧ w.position ≠ h.dir.position then
        s.noticed .mismatch 4 (.switch k) [word h.number, word h.dir.code, word w.position.code, 1] else s.notices) =
        if h.dir = .straight then s.notices
        else s.noticed .mismatch 4 (.switch k) [word h.number, 1, word w.position.code, 1] := by
      rw [hpos]
      cases h.dir <;> rfl
    rw [← hmismatch]
    exact hexec (beginPassage_announced hq ht hv hnum) rfl nofun hpos rfl

end Sys2Proof.Machine
end

section
/-!
Contact events and positions in a switch station's reply (R127, R129 to R131, R108).
-/

namespace Sys2Proof.Machine

variable {s t u : State} {k b : Sw} {a : Sta} {e : Exchange} {w : SwitchPoint} {q : NoticeQueue} {o : List Byte}
  {mark : Bool} {p : StationPosition} {d : Direction} {es : List ContactEvent} {i : Slot} {v : Vehicle} {route : Route}

/-! ### A reply's event and its position -/

theorem eventsTaken_of_old (h : s.loop.stations[a].mark = some mark) : eventsTaken s a mark es = [] := if_pos h

/-- An EXIT, then the position held. -/
theorem switchHears_exit {w' : SwitchPoint} {q' : NoticeQueue}
    (h : (match w.poles with
      | 0 => contactFault k 2 (t.switch k w q)
      | 1 => endPassage k (t.switch k w q)
      | n + 2 => t.switch k { w with poles := n + 1 } q) = u.switch k w' q')
    (hq : w'.queue = w.queue ∨ w'.lock ≠ .pinned) (hw' : w'.position = d.position) :
    switchHears k .poll [.exit] d.report (t.switch k w q) = u.switch k ((w'.reporting d.report).serve u.halted) q' :=
  (congrArg (swPosition k d.report) (swExit_of h hq)).trans (swPosition_held hw')

/-- No end reported by a frog whose position is UNKNOWN. -/
theorem swPosition_unknown (hw : w.position = .unknown) : swPosition k .between (t.switch k w q) =
    t.switch k (({ w.reporting .between with position := .unknown } : SwitchPoint).serve t.halted) q := by
  refine swPosition_of ?_ rfl
  rw [hw]
  rfl

/-- An ENTRY under a moving frog, then a position between the ends. -/
theorem switchHears_caught {n : Sec} {w' : SwitchPoint} {q' : NoticeQueue} (hm : w.position = .moving)
    (h : countEntry k (t.switch k w q) = u.switch k w' q') (hq : w'.queue = w.queue) (hf : w'.feeding = some n)
    (hl : w'.lock ≠ .dewired) : switchHears k .poll [.entry] .between (t.switch k w q) =
      (u.lockHeld n).switch k (w'.caught.reporting .between)
        (q'.take u.clock .dewire 6 (.switch k) [word (w'.occupant.getD 0), 0, word w'.target.code]) := by
  have hserve (halted : Bool) : (w'.caught.reporting .between).serve halted = w'.caught.reporting .between :=
    SwitchPoint.serve_of_locked _ nofun
  refine (congrArg (swPosition k .between) (swEntry_moving hm h hq hf hl)).trans ?_
  rw [← hserve (u.lockHeld n).halted]
  exact swPosition_unknown rfl

/-! ### The occupant's place, and its deferred approach (R106, R108) -/

theorem State.putVehicle_switch : (s.switch k w q).putVehicle i v = (s.putVehicle i v).switch k w q := rfl

/-- The removal of a vehicle releases its deferred approach, to a switch point that takes it. -/
theorem vehicleRemoved_defers (ht : TableOk s) (hv : s.vt.slots[i] = some v) (hd : v.deferred = some (b, route))
    (hl : s.sws[b].lock ≠ .pinned) (hh : s.sws[b].holds v.number = false) (hlen : s.sws[b].queue.length < 4) :
    vehicleRemoved v.number s =
      (s.putVehicle i { v with queue := some b, occupied := none, deferred := none }).switch b
        ((s.sws[b].approached v.number (route.getD s.sws[b].default)).serve s.halted) s.notices := by
  let x := s.putVehicle i v.unqueued
  have hx : TableOk x := TableOk.putVehicle ht hv rfl
  have hxv : x.vt.slots[i] = some v.unqueued := s.putVehicle_slot i v.unqueued
  have happroach : swApproach b v.number route x =
      (x.putVehicle i { v.unqueued with queue := some b }).switch b
        ((s.sws[b].approached v.number (route.getD s.sws[b].default)).serve s.halted) s.notices := by
    refine (swApproach_appends (s := x) hh hlen (vehicleQueued_eq (v := v.unqueued) hx hxv)).trans
      (pinnedMismatch_of_unpinned ?_ _ _)
    rw [State.switch_sw, (SwitchPoint.serve_kept ..).2.1]
    exact hl
  rw [vehicleRemoved, findVehicle_of_slot ht hv]
  dsimp only
  rw [hv, show (some v).bind (·.deferred) = some (b, route) from hd, modSlot_eq hv]
  dsimp only
  rw [show s.putVehicle i { v with queue := none, occupied := none } = x from rfl, happroach]
  have hput : TableOk (x.putVehicle i { v.unqueued with queue := some b }) := TableOk.putVehicle hx hxv rfl
  refine (modVehicle_eq (s := (x.putVehicle i { v.unqueued with queue := some b }).switch b _ _)
    (v := { v.unqueued with queue := some b }) hput (x.putVehicle_slot i _) _).trans ?_
  rw [State.putVehicle_switch, State.putVehicle_put]
  exact congrArg (fun y : State => y.switch b
    ((s.sws[b].approached v.number (route.getD s.sws[b].default)).serve s.halted) s.notices) (s.putVehicle_put i ..)

/-! ### One event and the position held -/

section
variable (hd : w.position = d.position)
include hd

theorem switchHears_second_entry (h1 : w.poles = 1) : switchHears k .poll [.entry] d.report (t.switch k w q) =
    t.switch k { w.reporting d.report with poles := 2, both := true, poleTimer := .stopped } q := by
  have hserve : ({ w.reporting d.report with poles := 2, both := true, poleTimer := .stopped } : SwitchPoint).serve
    t.halted = _ := SwitchPoint.serve_of_poles nofun
  rw [← hserve]
  exact switchHears_entry hd (countEntry_second h1) rfl hd

theorem switchHears_third_entry (h2 : w.poles = 2) : switchHears k .poll [.entry] d.report (t.switch k w q) =
    t.switch k (w.reporting d.report)
      (q.take t.clock .contactFault 5 (.switch k) [1, word w.poles, word (w.occupant.getD 0)]) := by
  have hserve : (w.reporting d.report).serve t.halted = w.reporting d.report :=
    SwitchPoint.serve_of_poles (by rw [show (w.reporting d.report).poles = 2 from h2]; nofun)
  rw [← hserve]
  exact switchHears_entry hd (countEntry_third h2) rfl hd

theorem switchHears_unmatched_exit (h0 : w.poles = 0) : switchHears k .poll [.exit] d.report (t.switch k w q) =
    t.switch k ((w.reporting d.report).serve t.halted)
      (q.take t.clock .contactFault 5 (.switch k) [2, word w.poles, word (w.occupant.getD 0)]) :=
  switchHears_exit (by rw [← contactFault_switch, h0]) (.inl rfl) hd

theorem switchHears_first_exit (h2 : w.poles = 2) : switchHears k .poll [.exit] d.report (t.switch k w q) =
    t.switch k { w.reporting d.report with poles := 1 } q := by
  have hserve : ({ w.reporting d.report with poles := 1 } : SwitchPoint).serve t.halted = _ :=
    SwitchPoint.serve_of_poles nofun
  rw [← hserve]
  exact switchHears_exit (w' := { w with poles := 1 }) (by rw [h2]) (.inl rfl) hd

theorem switchHears_last_exit_vacant (h1 : w.poles = 1) (ho : w.occupant = none) :
    switchHears k .poll [.exit] d.report (t.switch k w q) =
      t.switch k ((w.vacated.reporting d.report).serve t.halted) (w.passageNotices k t.clock q) :=
  switchHears_exit (w' := w.vacated) (by rw [h1]; exact endPassage_vacant ho) (.inl rfl) hd

variable {h : QueueEntry} {rest : List QueueEntry} (h1 : w.poles = 1) (hq : w.queue = h :: rest)
  (ho : w.occupant = some h.number) (hrest : ∀ e ∈ rest, e.number ≠ h.number) (hl : w.lock ≠ .pinned)
  (ht : TableOk t) (hv : t.vt.slots[i] = some v) (hnum : v.number = h.number)
include h1 hq ho hrest hl hnum

/-- The occupant's place is given up; `u` is the state once its removal has been reported. -/
theorem switchHears_last_exit {q' : NoticeQueue}
    (hu : vehicleRemoved v.number (t.switch k { w.vacated with queue := rest } (w.passageNotices k t.clock q)) =
      u.switch k { w.vacated with queue := rest } q') :
    switchHears k .poll [.exit] d.report (t.switch k w q) =
      u.switch k (({ w.vacated.reporting d.report with queue := rest } : SwitchPoint).serve u.halted) q' := by
  refine switchHears_exit (w' := { w.vacated with queue := rest }) ?_ (.inr hl) hd
  rw [← hu, h1, hnum]
  exact endPassage_occupied hq ho hrest

include ht hv

theorem switchHears_last_exit_occupied (hdef : v.deferred = none) :
    switchHears k .poll [.exit] d.report (t.switch k w q) = (t.putVehicle i v.unqueued).switch k
      (({ w.vacated.reporting d.report with queue := rest } : SwitchPoint).serve t.halted) (w.passageNotices k t.clock q) :=
  switchHears_last_exit hd h1 hq ho hrest hl hnum
    (vehicleRemoved_eq (s := t.switch k { w.vacated with queue := rest } (w.passageNotices k t.clock q)) ht hv hdef)

theorem switchHears_last_exit_deferred (hdef : v.deferred = some (b, route)) (hb : b ≠ k) (hlb : t.sws[b].lock ≠ .pinned)
    (hhb : t.sws[b].holds v.number = false) (hlen : t.sws[b].queue.length < 4) :
    switchHears k .poll [.exit] d.report (t.switch k w q) =
      ((t.putVehicle i { v with queue := some b, occupied := none, deferred := none }).switch k
        (({ w.vacated.reporting d.report with queue := rest } : SwitchPoint).serve t.halted)
          (w.passageNotices k t.clock q)).switch b
        ((t.sws[b].approached v.number (route.getD t.sws[b].default)).serve t.halted) (w.passageNotices k t.clock q) := by
  have hsw : (t.switch k { w.vacated with queue := rest } (w.passageNotices k t.clock q)).sws[b] = t.sws[b] :=
    State.switch_other _ _ _ _ hb
  have hremoved := vehicleRemoved_defers
    (s := t.switch k { w.vacated with queue := rest } (w.passageNotices k t.clock q)) ht hv hdef
    (by rw [hsw]; exact hlb) (by rw [hsw]; exact hhb) (by rw [hsw]; exact hlen)
  rw [hsw, State.putVehicle_switch] at hremoved
  rw [State.switch_comm (q₂ := w.passageNotices k t.clock q) hb]
  exact switchHears_last_exit hd h1 hq ho hrest hl hnum (hremoved.trans (State.switch_comm hb))

end

/-! ### The obligation -/

/-- Settles O48: the event, if the reply is new, changes the record that the position then finds. -/
theorem contactEventsCountThePoles : Obligations.ContactEventsCountThePoles := by
  intro s e k o mark report he hp hc hs hrole ho hmark r w loop reports vehicle fault incomplete ended becomes entry exit held
  have hevent {event : ContactEvent} (hlen : o.length = 7) (h4 : octetAt o 4 = 16)
      (h5 : contactOf (octetAt o 5) = some event) {v : State}
      (hv : switchHears k .poll (eventsTaken s e.station mark [event]) report
        ((s.heard e.station mark).switch k w s.notices) = v)
      (hloop : v.loop = (s.heard e.station mark).loop) : exec (.loopReplyComplete o) s = .next { v with loop } :=
    exec_switchReply he hp hc nofun hs hrole ho hmark h4 hlen (by decide) (contactsOf_single h5) hv hloop
  have hentry (h : entry) (hnew : r.mark ≠ some mark) {v : State}
      (hv : switchHears k .poll [.entry] report ((s.heard e.station mark).switch k w s.notices) = v)
      (hloop : v.loop = (s.heard e.station mark).loop) : exec (.loopReplyComplete o) s = .next { v with loop } := by
    obtain ⟨hlen, h4, h5⟩ := h
    exact hevent (event := .entry) hlen h4 (by rw [h5]; rfl) (by rw [eventsTaken_of_new hnew]; exact hv) hloop
  have hexit (h : exit) (hnew : r.mark ≠ some mark) {v : State}
      (hv : switchHears k .poll [.exit] report ((s.heard e.station mark).switch k w s.notices) = v)
      (hloop : v.loop = (s.heard e.station mark).loop) : exec (.loopReplyComplete o) s = .next { v with loop } := by
    obtain ⟨hlen, h4, h5⟩ := h
    exact hevent (event := .exit) hlen h4 (by rw [h5]; rfl) (by rw [eventsTaken_of_new hnew]; exact hv) hloop
  refine ⟨?_, ?_, ?_, ?_, ?_⟩
  · rintro ⟨d, hd, hcode⟩ hold hcontact
    obtain rfl := StationPosition.eq_report hcode
    obtain ⟨event, hlen, h4, h5⟩ : ∃ event, o.length = 7 ∧ octetAt o 4 = 16 ∧ contactOf (octetAt o 5) = some event := by
      rcases hcontact with ⟨hlen, h4, h5⟩ | ⟨hlen, h4, h5⟩
      · exact ⟨.entry, hlen, h4, by rw [h5]; rfl⟩
      · exact ⟨.exit, hlen, h4, by rw [h5]; rfl⟩
    refine hevent (v := (s.heard e.station mark).switch k (reports.serve s.halted) s.notices) hlen h4 h5 ?_ rfl
    rw [eventsTaken_of_old hold]
    exact swPosition_stays (.inr ⟨d, hd, rfl⟩)
  · rintro ⟨d, hd, hcode⟩ hnew hcontact
    obtain rfl := StationPosition.eq_report hcode
    exact ⟨fun h1 => hentry hcontact hnew (switchHears_second_entry hd h1) rfl,
      fun h2 => hentry hcontact hnew (switchHears_third_entry hd h2) rfl⟩
  · rintro ⟨d, hd, hcode⟩ hnew hcontact
    obtain rfl := StationPosition.eq_report hcode
    refine ⟨fun h0 => hexit hcontact hnew (switchHears_unmatched_exit hd h0) rfl,
      fun h2 => hexit hcontact hnew (switchHears_first_exit hd h2) rfl,
      fun h1 hocc => hexit hcontact hnew (switchHears_last_exit_vacant hd h1 hocc) rfl, ?_⟩
    intro h rest i v h1 hq hocc hrest hl ht hv hnum after put
    refine ⟨fun hdef => ?_, fun b route hdef hb hlb hhb hlen => ?_⟩
    · exact hexit hcontact hnew (switchHears_last_exit_occupied hd h1 hq hocc hrest hl ht hv hnum hdef) rfl
    · exact hexit hcontact hnew
        (switchHears_last_exit_deferred hd h1 hq hocc hrest hl ht hv hnum hdef hb hlb hhb hlen) rfl
  · intro n hbetween hnew hcontact hm h0 hl hf stopped secs
    subst hbetween
    refine ⟨fun hq hocc => ?_, fun h rest i v hq ht hv hnum => ?_⟩
    · have hcaught := switchHears_caught (t := s.heard e.station mark) (q := s.notices) hm
        ((countEntry_first h0).trans (beginPassage_unannounced (k := k) hq)) rfl hf hl
      rw [show w.passing.occupant = none from hocc, hm] at hcaught
      exact hentry hcontact hnew hcaught rfl
    · have hcaught := switchHears_caught (t := s.heard e.station mark) (q := s.notices) hm
        ((countEntry_first h0).trans (beginPassage_announced (k := k) hq ht hv hnum)) rfl hf hl
      rw [if_neg fun hmis => hmis.1 hm] at hcaught
      exact hentry hcontact hnew hcaught rfl
  · intro d hlen h4 hd hcode moved
    have hmoved : moved = w.moved report := by cases report <;> rfl
    rw [hmoved]
    refine exec_switchReply (v := (s.heard e.station mark).switch k ((w.moved report).serve s.halted)
      (s.noticed .unexpectedMove 5 (.switch k) [word d.code, word report.code, word w.poles])) he hp hc nofun hs hrole ho
      hmark h4 hlen (Nat.zero_le 8) rfl ?_ rfl
    rw [eventsTaken_nil]
    exact swPosition_differs hd hcode

end Sys2Proof.Machine
end

section
/-!
A census reply: the station ONLINE or DISABLED, and its switch point's count settled (R140, R145, R157).
-/

namespace Sys2Proof.Machine

variable {s t u : State} {k : Sw} {a : Sta} {e : Exchange} {w : SwitchPoint} {q : NoticeQueue} {o : List Byte}
  {mark : Bool} {p : StationPosition} {r : LoopReply} {census kind : Nat}

/-! ### The end of a census (R150, R157) -/

theorem exec_censusReply (he : s.loop.exchange = some e) (hp : e.phase ≠ .sending) (hc : e.command = .census)
    (hr : parseLoopReply e.station true (s.loop.stations[e.station].role.kindCode.getD 0) o = .ok r) :
    exec (.loopReplyComplete o) s = .next (nextExchange (censusSucceeded e.station r (dropExchange s))) := by
  have hjudged : judgeReply e o s = exchangeSucceeded e r s := by
    simp only [judgeReply, hc, decide_true, hr]
  have hcensus : exchangeSucceeded e r s = nextExchange (censusSucceeded e.station r (dropExchange s)) := by
    simp only [exchangeSucceeded, hc]
  exact congrArg Host.Outcome.next ((loopCompleted_listening he hp).trans (hjudged.trans hcensus))

/-- What a station that leaves ONLINE, or was not there, leaves of its switch point (R139). -/
theorem SwitchPoint.takeState_eq (st : StationState) (w : SwitchPoint) : w.takeState st =
    if w.station = .online then
      { w with
        station := st, driveTimer := none, stage := .none, position := .unknown
        lock := if w.lock = .none ∨ w.lock = .pinned then .noField else w.lock
        poleTimer := w.poleTimer.suspend, passTimer := w.passTimer.suspend }
    else { w with station := st } := by
  rw [SwitchPoint.takeState, SwitchPoint.loseStation]
  cases w.lock <;> rfl

/-- A station of the wrong kind (R157). -/
theorem censusMismatch_eq (a : Sta) (r : LoopReply) (s : State) : censusMismatch a r (dropExchange s) =
    let old := s.loop.stations[a]
    { s with
      loop := { s.loop with stations := s.loop.stations.set a { old with state := .disabled }, exchange := none }
      sws := old.role.told .disabled s.sws
      notices := s.noticed .stationMismatch 5 (.station (number a)) [old.kindWord, word r.kind, word old.rate.code] } := by
  unfold censusMismatch
  simp only [tellStation_eq (st := .disabled) (by decide), State.modStation_loop, updateAt_same]
  rfl

/-- A station of another kind than its record's: it is DISABLED, and its switch point told. -/
theorem exec_censusMismatch (he : s.loop.exchange = some e) (hp : e.phase ≠ .sending) (hc : e.command = .census)
    (hs : s.loop.Spent)
    (hr : parseLoopReply e.station true (s.loop.stations[e.station].role.kindCode.getD 0) o = .ok r)
    (hkind : s.loop.stations[e.station].role.kindCode ≠ some r.kind) :
    let old := s.loop.stations[e.station]
    exec (.loopReplyComplete o) s = .next { s with
      loop := s.loop.restingWith e.station { old with state := .disabled }
      sws := old.role.told .disabled s.sws
      notices := s.noticed .stationMismatch 5 (.station (number e.station))
        [old.kindWord, word r.kind, word old.rate.code] } := by
  intro old
  have hmismatch : censusSucceeded e.station r (dropExchange s) = censusMismatch e.station r (dropExchange s) :=
    if_neg hkind
  rw [exec_censusReply he hp hc hr, hmismatch, censusMismatch_eq,
    nextExchange_rests (a := e.station) (r := { old with state := .disabled }) hs nofun rfl]

/-- The state in which a census reply is handed on: the station ONLINE, the one this cycle's census has found. -/
def State.foundBy (s : State) (a : Sta) (mark : Bool) : State :=
  { s with loop := { s.loop with
    stations := s.loop.stations.set a { s.loop.stations[a] with state := .online, failures := 0, mark := some mark }
    exchange := none, found := some a } }

/-- The station that a census has found is not polled in the same cycle. -/
theorem Loop.Spent.found {l : Loop} {r : Station} (h : l.Spent) (hf : l.found = none) :
    ({ l with stations := l.stations.set a r, exchange := none, found := some a } : Loop).Spent := by
  obtain ⟨hpolls, hcensus, hlate⟩ := h
  refine ⟨fun c hpos honline => ?_, hcensus, hlate⟩
  by_cases hca : c = a
  · exact congrArg some hca.symm
  · have hsame : (l.stations.set a r)[c] = l.stations[c] :=
      Vector.getElem_set_ne a.isLt c.isLt fun hv => hca (Fin.ext hv.symm)
    have hnone := hpolls c hpos (hsame ▸ honline)
    rw [hf] at hnone
    cases hnone

/-- The bound switch point, if any, is told that its station is ONLINE, with the reply's poles count and position. -/
def tellOnline (role : Role) (r : LoopReply) (s : State) : State :=
  match role.switchPoint, stationPositionOf r.position with
  | some k, some p => swOnline k r.poles p s
  | _, _ => s

theorem tellOnline_unbound {role : Role} (h : role.switchPoint = none) : tellOnline role r s = s := by
  rw [tellOnline, h]

theorem tellOnline_bound {role : Role} (h : role.switchPoint = some k) (hp : r.position = p.code) :
    tellOnline role r s = swOnline k r.poles p s := by
  rw [tellOnline, h, hp, stationPositionOf_code]

/-- A station of its record's kind, whose reply has no telegrams; `v` is what the switch point's part leaves. -/
theorem exec_censusFound {v : State} (he : s.loop.exchange = some e) (hp : e.phase ≠ .sending) (hc : e.command = .census)
    (hs : s.loop.Spent) (hf : s.loop.found = none)
    (hr : parseLoopReply e.station true (s.loop.stations[e.station].role.kindCode.getD 0) o = .ok r)
    (hkind : s.loop.stations[e.station].role.kindCode = some r.kind) (htelegrams : r.telegrams = [])
    (hv : tellOnline s.loop.stations[e.station].role r (s.foundBy e.station r.mark) = v)
    (hloop : v.loop = (s.foundBy e.station r.mark).loop) : exec (.loopReplyComplete o) s = .next { v with
      loop := { s.loop.restingWith e.station
        { s.loop.stations[e.station] with state := .online, failures := 0, mark := some r.mark } with
          found := some e.station }
      notices := v.notices.take v.clock .stationOnline 2 (.station (number e.station))
        [word r.kind, word s.loop.stations[e.station].rate.code, word s.loop.stations[e.station].state.code] } := by
  have hfound : censusSucceeded e.station r (dropExchange s) =
      queueNotice .stationOnline 2 (.station (number e.station)) [s.loop.stations[e.station].kindWord,
        word s.loop.stations[e.station].rate.code, word s.loop.stations[e.station].state.code] v := by
    refine (if_pos hkind).trans ?_
    rw [← hv]
    unfold censusFound
    rw [htelegrams]
    dsimp only
    rw [show (handTelegrams e.station (dropExchange s).loop.stations[e.station].role [] : State → State) = id from rfl,
      id, ite_self]
    rfl
  rw [exec_censusReply he hp hc hr, hfound, nextExchange_of_spent, Station.kindWord, hkind]
  · refine congrArg Host.Outcome.next ?_
    rw [State.modLoop, show (queueNotice _ _ _ _ v).loop = v.loop from rfl, hloop]
    rfl
  · rw [show (queueNotice _ _ _ _ v).loop = v.loop from rfl, hloop]
    exact hs.found hf

/-! ### The count settled (R140) -/

/-- The count of poles settled against the census count by R140's table: the count and the timers that the record `w` has
decide what is written into `y`. -/
def SwitchPoint.settle (census : Nat) (w y : SwitchPoint) : SwitchPoint :=
  match w.poles, census with
  | 0, 0 => y
  | 0, 1 => { y with poles := 1, both := false, poleTimer := .running w.tPole, passTimer := .running w.tPass }
  | 0, _ => { y with poles := 2, both := true, poleTimer := .stopped, passTimer := .running w.tPass }
  | 1, 0 => { y with poles := 0, poleTimer := .stopped, passTimer := .stopped }
  | 1, 1 => { y with poleTimer := w.poleTimer.resume, passTimer := w.passTimer.resume }
  | 1, _ => { y with poles := 2, both := true, poleTimer := .stopped, passTimer := w.passTimer.resume }
  | _, 0 => { y with poles := 0, both := true, poleTimer := .stopped, passTimer := .stopped }
  | _, 1 => { y with poles := 1, poleTimer := .stopped, passTimer := w.passTimer.resume }
  | _, _ => { y with passTimer := w.passTimer.resume }

/-- The notices of a passage that the census begins or ends, no vehicle waiting. -/
def SwitchPoint.resyncNotices (w : SwitchPoint) (k : Sw) (census : Nat) (clock : ClockValue) (q : NoticeQueue) :
    NoticeQueue :=
  if w.poles = 0 ∧ 0 < census then q.take clock .unannounced 4 (.switch k) [word w.position.code, word w.lock.code]
  else if w.poles = 1 ∧ census = 0 ∧ w.both = false then q.take clock .passageIncomplete 4 (.switch k) [0, word w.lock.code]
  else q

/-- No passage begins or ends, or none with a vehicle: then the queue and the occupant stay. -/
theorem resyncPoles_eq (hp : w.poles ≤ 2) (hc : census ≤ 2)
    (h : w.poles = census ∨ 0 < w.poles ∧ 0 < census ∨ w.queue = [] ∧ w.occupant = none) :
    resyncPoles k census (t.switch k w q) = t.switch k (w.settle census w) (w.resyncNotices k census t.clock q) := by
  have hbegins (h0 : w.poles = 0) (hpos : 0 < census) : beginPassage k (t.switch k w q) = t.switch k w.passing
      (q.take t.clock .unannounced 4 (.switch k) [word w.position.code, word w.lock.code]) :=
    beginPassage_unannounced (by
      rcases h with h | h | h
      · omega
      · omega
      · exact h.1)
  have hvacant (hpos : 0 < w.poles) (h0 : census = 0) : w.occupant = none := by
    rcases h with h | h | h
    · omega
    · omega
    · exact h.2
  have hsilent (h0 : w.poles = 0 → census = 0) (h1 : w.poles = 1 → census ≠ 0) :
      w.resyncNotices k census t.clock q = q := by
    rw [SwitchPoint.resyncNotices, if_neg (by omega), if_neg (fun h => h1 h.1 h.2.1)]
  have hmod (f : SwitchPoint → SwitchPoint) : (t.switch k w q).modSw k f = t.switch k (f w) q := modSw_switch ..
  unfold resyncPoles SwitchPoint.settle
  rw [State.switch_sw]
  obtain h0 | h1 | h2 : w.poles = 0 ∨ w.poles = 1 ∨ w.poles = 2 := by omega
  · obtain rfl | hpos : census = 0 ∨ 0 < census := Nat.eq_zero_or_pos census
    · rw [hsilent (fun _ => rfl) (by omega), h0]
      rfl
    · rw [SwitchPoint.resyncNotices, if_pos ⟨h0, hpos⟩, h0, hbegins h0 hpos]
      obtain rfl | rfl : census = 1 ∨ census = 2 := by omega
      · rfl
      · exact modSw_switch ..
  · obtain rfl | hpos : census = 0 ∨ 0 < census := Nat.eq_zero_or_pos census
    · have ho := hvacant (by omega) rfl
      rw [h1, endPassage_vacant ho, SwitchPoint.passageNotices, SwitchPoint.resyncNotices, h1, SwitchPoint.vacated, ho]
      cases w.both <;> rfl
    · rw [hsilent (by omega) (by omega)]
      obtain rfl | rfl : census = 1 ∨ census = 2 := by omega
      · simp only [h1, hmod]
      · simp only [h1, hmod]
  · rw [hsilent (by omega) (by omega)]
    obtain rfl | rfl | rfl : census = 0 ∨ census = 1 ∨ census = 2 := by omega
    · have ho := hvacant (by omega) rfl
      have hend := endPassage_vacant (t := t) (k := k) (w := { w with both := true }) (q := q) ho
      rw [SwitchPoint.vacated, ← ho] at hend
      simp only [h2, hmod]
      simp only [h2] at hend
      exact hend
    · simp only [h2, hmod]
    · simp only [h2, hmod]

/-- The record as its station comes back with this position. -/
def SwitchPoint.returned (p : StationPosition) (w : SwitchPoint) : SwitchPoint :=
  ({ w with station := .online, lastReport := p } : SwitchPoint).learn p

/-- The record without the lock NO_FIELD. -/
def SwitchPoint.fielded (w : SwitchPoint) : SwitchPoint := { w with lock := if w.lock = .noField then .none else w.lock }

theorem swOnline_eq (hp : w.poles ≤ 2) (hc : census ≤ 2)
    (h : w.poles = census ∨ 0 < w.poles ∧ 0 < census ∨ w.queue = [] ∧ w.occupant = none) :
    swOnline k census p (t.switch k w q) = t.switch k ((((w.returned p).settle census (w.returned p)).fielded).serve t.halted)
      ((w.returned p).resyncNotices k census t.clock
        (if w.poles = census then q else q.take t.clock .contactResync 4 (.switch k)
          [word w.poles, word census, word (w.occupant.getD 0), word (w.returned p).position.code])) := by
  obtain ⟨hpoles, hqueue, hoccupant⟩ : (w.returned p).poles = w.poles ∧ (w.returned p).queue = w.queue ∧
      (w.returned p).occupant = w.occupant := by cases p <;> exact ⟨rfl, rfl, rfl⟩
  have hkept : ((w.returned p).settle census (w.returned p)).queue = w.queue := by
    rw [← hqueue]
    unfold SwitchPoint.settle
    split <;> rfl
  have hreturned : (t.switch k w q).modSw k (fun w => ({ w with station := .online, lastReport := p } : SwitchPoint).learn p) =
      t.switch k (w.returned p) q := modSw_switch ..
  refine swEvent_quiet ?_ (by rw [State.switch_sw]; exact hkept)
  rw [hreturned]
  dsimp only
  rw [State.switch_sw, hpoles, hoccupant, queueNotice_switch, vehicleWord_eq]
  have hsettles (q' : NoticeQueue) : (resyncPoles k census (t.switch k (w.returned p) q')).modSw k SwitchPoint.fielded =
      t.switch k ((w.returned p).settle census (w.returned p)).fielded ((w.returned p).resyncNotices k census t.clock q') := by
    rw [resyncPoles_eq (hpoles ▸ hp) hc (by rw [hpoles, hqueue, hoccupant]; exact h), modSw_switch]
  rw [← apply_ite (t.switch k (w.returned p))]
  exact hsettles _

theorem SwitchPoint.fielded_settle (y : SwitchPoint) : (w.settle census y).fielded = w.settle census y.fielded := by
  unfold SwitchPoint.settle
  split <;> rfl

/-! ### The obligation -/

/-- Settles O47: a station of the wrong kind is only DISABLED; one of its kind is ONLINE, and its switch point's count is
settled case by case. -/
theorem censusReplyJudgesTheStation : Obligations.CensusReplyJudgesTheStation := by
  intro s e o mark kind position he hc hp hs hf ho hlen h4 h2 hkind a r census foundLoop online
  obtain ⟨hkind1, hcensus2⟩ : kind ≤ 1 ∧ (kind = 0 → census ≤ 2) := by
    rcases hkind with ⟨rfl, -, h⟩ | ⟨rfl, -⟩
    · exact ⟨by decide, fun _ => h⟩
    · exact ⟨by decide, nofun⟩
  have hparse (recordKind : Nat) : parseLoopReply a true recordKind o =
      .ok { mark, kind, position, poles := census, events := [], telegrams := [] } :=
    parseLoopReply_ok (events := 0) (telegrams := 0) ho h2 h4 hlen (Nat.zero_le 8) (Nat.zero_le 2) rfl
      (by rw [if_pos rfl]; omega) (fun _ => ⟨hkind1, hcensus2⟩) (by omega)
  refine ⟨fun hwrong => ?_, fun hright => ?_, fun k report hrole hk hreport => ?_⟩
  · have hkinds : r.role.kindCode ≠ some kind ∧ r.kindWord = word (1 - kind) := by
      rw [Station.kindWord]
      rcases hwrong with ⟨⟨_, _, hrole⟩, rfl⟩ | ⟨⟨_, hrole⟩, rfl⟩
      · rw [hrole]
        exact ⟨nofun, rfl⟩
      · rw [hrole]
        exact ⟨nofun, rfl⟩
    refine (exec_censusMismatch he hp hc hs (hparse _) hkinds.1).trans ?_
    rw [show s.loop.stations[e.station].kindWord = word (1 - kind) from hkinds.2, Role.told]
    cases r.role with
    | unset => rfl
    | boundary => rfl
    | switch bound =>
      cases bound with
      | none => rfl
      | some k =>
        simp only [Role.switchPoint, updateAt, SwitchPoint.takeState_eq]
        rfl
  · have hkinds : r.role.kindCode = some kind ∧ r.role.switchPoint = none := by
      rcases hright with ⟨⟨_, _, hrole⟩, rfl⟩ | ⟨hrole, rfl⟩
      · rw [hrole]
        exact ⟨rfl, rfl⟩
      · rw [hrole]
        exact ⟨rfl, rfl⟩
    exact exec_censusFound (v := s.foundBy a mark) he hp hc hs hf (hparse _) hkinds.1 rfl (tellOnline_unbound hkinds.2) rfl
  · intro w w₁ settled q₁ q₂ hpoles hquiet
    subst hk
    have hw₁ : (w.returned report).fielded = w₁ := by
      have hends (d : Direction) : (if d = w.target then 0 else w.failed) = if w.target = d then 0 else w.failed :=
        if_congr eq_comm rfl rfl
      cases report with
      | straight => exact congrArg (fun failed => { w₁ with failed }) (hends .straight)
      | turnout => exact congrArg (fun failed => { w₁ with failed }) (hends .turnout)
      | between => rfl
    have hsettled : ((w.returned report).settle census (w.returned report)).fielded = settled := by
      rw [SwitchPoint.fielded_settle, hw₁]
      cases report <;> rfl
    have hnotices : (w.returned report).resyncNotices k census s.clock q₁ = q₂ := by
      cases report <;> rfl
    have honline : swOnline k census report ((s.foundBy a mark).switch k w s.notices) =
        (s.foundBy a mark).switch k (settled.serve s.halted) q₂ := by
      rw [swOnline_eq hpoles (hcensus2 rfl) hquiet, hsettled, ← hnotices]
      cases report <;> rfl
    refine (exec_censusFound (v := (s.foundBy a mark).switch k (settled.serve s.halted) q₂) he hp hc hs hf (hparse _)
      (by rw [hrole]; rfl) rfl ?_ rfl).trans ?_
    · rw [tellOnline_bound (k := k) (p := report) (by rw [hrole]; rfl) hreport, ← honline]
      exact congrArg (swOnline k census report) ((s.foundBy a mark).switch_self k).symm
    · rfl

end Sys2Proof.Machine
end

section
/-!
A telegram's steps at a record (R95 to R104), and a new vehicle at a boundary station.
-/

namespace Sys2Proof.Machine

variable {s t u : State} {a : Sta} {e : Exchange} {q : NoticeQueue} {o : List Byte} {mark leak : Bool} {i : Slot}
  {v : Vehicle} {n : Sec} {role : Role} {tel : Telegram} {num : Nat}

/-! ### Reading a telegram (R95, R187) -/

/-- A telegram whose flags octet has the LEAK flag alone, or none. -/
theorem telegramAt_eq (h : octetAt o 8 = if leak then 1 else 0) : telegramAt o 5 =
    { number := halfAt o 5, route := octetAt o 7, leak, powerLost := false, direction := octetAt o 9 } := by
  have hflags : o.getD 8 0 = if leak then 1 else 0 := by
    refine BitVec.eq_of_toNat_eq (h.trans ?_)
    cases leak <;> rfl
  unfold telegramAt
  rw [hflags]
  cases leak <;> rfl

theorem badTelegram_of_good {boundary : Bool} (hpos : 1 ≤ tel.number) (hle : tel.number ≤ 9999) (hroute : tel.route ≤ 2)
    (hdir : boundary = true → 1 ≤ tel.direction ∧ tel.direction ≤ 2) : badTelegram boundary tel = none := by
  rw [badTelegram, if_neg (by omega), if_neg (by omega), if_neg fun h => by have := hdir h.1; omega]

/-! ### Which record takes it (R96, R97) -/

section
variable (hgood : badTelegram role.isBoundary tel = none)
include hgood

theorem takeTelegram_recorded (hf : s.findVehicle tel.number = some i) :
    takeTelegram a role tel s = takeSighting i a role tel s := by
  simp only [takeTelegram, hgood, hf]

theorem takeTelegram_new (hnone : s.findVehicle tel.number = none) (hf : s.freeSlot = some i) :
    takeTelegram a role tel s = takeSighting i a role tel (makeVehicle i tel.number a s) := by
  simp only [takeTelegram, hgood, hnone, hf]

theorem takeTelegram_full (hnone : s.findVehicle tel.number = none) (hf : s.freeSlot = none) :
    takeTelegram a role tel s = takeUnrecorded a role tel s := by
  simp only [takeTelegram, hgood, hnone, hf]

end

/-! ### The steps at the record (R98 to R104) -/

section
variable (hv : s.vt.slots[i] = some v)
include hv

theorem sightVehicle_active (ha : v.active = true) :
    sightVehicle i a s = s.putVehicle i (v.sighted a s.clock s.vt) := by
  simp only [sightVehicle, hv, ha, modSlot_eq hv, if_true]

theorem placeVehicle_stays (h : placedIn role tel s = none ∨ v.sec = placedIn role tel s) :
    placeVehicle i role tel s = s := by
  unfold placeVehicle
  rw [hv]
  cases hp : placedIn role tel s with
  | none => rfl
  | some n =>
    rcases h with h | h
    · rw [hp] at h
      cases h
    · exact if_pos (h.trans hp)

/-- A record that counts in no section is placed in one: only that section's holds change. -/
theorem placeVehicle_counts (hsec : v.sec = none) : ∃ secs arb, placeVehicle i role tel s =
      { s.putVehicle i { v with sec := placedIn role tel s } with secs, arb } ∧
    ∀ m : Sec, secs[m].settings = s.secs[m].settings ∧
      (placedIn role tel s ≠ some m → secs[m].holds = s.secs[m].holds) := by
  cases hp : placedIn role tel s with
  | none =>
    refine ⟨s.secs, s.arb, ?_, fun m => ⟨rfl, fun _ => rfl⟩⟩
    rw [placeVehicle_stays hv (.inl hp), ← hsec, State.putVehicle_self hv]
  | some n =>
    have heq : placeVehicle i role tel s = reportFacts n (s.putVehicle i { v with sec := some n }) := by
      unfold placeVehicle
      rw [hv, hp]
      refine (if_neg (by rw [hsec]; nofun)).trans ?_
      rw [hsec, modSlot_eq hv]
      rfl
    obtain ⟨secs, arb, htold, -, hsecs⟩ := reportFacts_told n (s.putVehicle i { v with sec := some n })
    refine ⟨secs, arb, heq.trans htold, fun m => ⟨(hsecs m).1, fun hm => ?_⟩⟩
    rw [(hsecs m).2, if_neg hm]
    rfl

theorem applyLeak_same (h : leak = v.leak) : applyLeak i leak s = s := by
  rw [applyLeak, hv]
  exact if_pos h

theorem applyLeak_gained (hl : v.leak = false) : FactsTold v.sec { s.putVehicle i { v with leak := true } with
    notices := s.noticed .vehicleFault 5 (.vehicle v.number) [0, 0, word (numberOr0 v.sec)] } (applyLeak i true s) := by
  have heq : applyLeak i true s = reportFactsOf v.sec { s.putVehicle i { v with leak := true } with
      notices := s.noticed .vehicleFault 5 (.vehicle v.number) [0, 0, word (numberOr0 v.sec)] } := by
    unfold applyLeak
    rw [hv]
    refine (if_neg (by rw [hl]; nofun)).trans ?_
    rw [modSlot_eq hv]
    rfl
  rw [heq]
  exact reportFactsOf_told ..

theorem applyPowerLost_clear (hd : v.dewired = false) : applyPowerLost i false s = s := by
  simp [applyPowerLost, hv, hd]

end

/-! ### A new vehicle at a boundary station (R92, R96, R98, R100, R103) -/

/-- The record a first telegram makes, placed in section `sec`. -/
def Vehicle.first (num : Nat) (a : Sta) (now : ClockValue) (table : VehicleTable) (sec : Option Sec) (leak : Bool) : Vehicle :=
  { number := num, active := true, sec, leak, dewired := false, lastStation := a, lastSeen := now
    lostTimer := some table.lostTime, forgetTimer := some table.forgetTime, overdue := false, queue := none
    occupied := none, deferred := none }

theorem makeVehicle_unqueued (hq : ∀ k : Sw, ∀ e ∈ s.sws[k].queue, e.number ≠ num) :
    sightVehicle i a (makeVehicle i num a s) = { s.putVehicle i (.first num a s.clock s.vt none false) with
      notices := s.noticed .vehicleNew 1 (.vehicle num) [word (number i), word (number a)] } := by
  have hnone : s.queueOf num = none := List.find?_eq_none.mpr fun k _ hk => by
    obtain ⟨e, he, hnum⟩ := List.any_eq_true.mp hk
    exact hq k e he (beq_iff_eq.mp hnum)
  let x : State := { s.putVehicle i (newVehicle num a s) with
    notices := s.noticed .vehicleNew 1 (.vehicle num) [word (number i), word (number a)] }
  have hslot : x.vt.slots[i] = some (newVehicle num a s) := s.putVehicle_slot i _
  have hsighted : (newVehicle num a s).sighted a s.clock s.vt = .first num a s.clock s.vt none false := by
    rw [newVehicle, hnone]
    rfl
  refine (sightVehicle_active (s := x) hslot rfl).trans ?_
  rw [show (newVehicle num a s).sighted a x.clock x.vt = _ from hsighted]
  exact congrArg (fun y : State => { y with notices := x.notices }) (s.putVehicle_put i ..)

/-- The section's LEAK fact stands once a record counted there has the fault. -/
theorem FactsTold.leak_of_slot (h : FactsTold v.sec s t) (hv : s.vt.slots[i] = some v) (hsec : v.sec = some n)
    (hl : v.leak = true) : t.secs[n].holds.leak = s.secs[n].settings.leakHold := by
  obtain ⟨secs, arb, rfl, -, hsecs⟩ := h
  have hcount : 0 < s.leaking n := State.countVehicles_pos.mpr ⟨i, v, hv, hsec, hl⟩
  have hholds := (hsecs n).2
  rw [if_pos hsec] at hholds
  refine (congrArg Holds.leak hholds).trans ?_
  change (decide (0 < s.leaking n) && s.secs[n].settings.leakHold) = _
  rw [decide_eq_true hcount, Bool.true_and]

theorem takeTelegram_first {sideA sideB : Option Sec} (hgood : badTelegram true tel = none)
    (hnone : s.findVehicle tel.number = none) (hfree : s.freeSlot = some i) (hpower : tel.powerLost = false)
    (hq : ∀ k : Sw, ∀ e ∈ s.sws[k].queue, e.number ≠ tel.number) :
    let sec := if tel.direction = 1 then sideB else sideA
    let made := s.noticed .vehicleNew 1 (.vehicle tel.number) [word (number i), word (number a)]
    ∃ secs arb, takeTelegram a (.boundary sideA sideB) tel s =
      { s.putVehicle i (.first tel.number a s.clock s.vt sec tel.leak) with
        secs, arb
        notices := if tel.leak then made.take s.clock .vehicleFault 5 (.vehicle tel.number) [0, 0, word (numberOr0 sec)]
          else made } ∧
      (∀ n : Sec, sec = some n → tel.leak = true → secs[n].holds.leak = s.secs[n].settings.leakHold) ∧
      ∀ n : Sec, sec ≠ some n → secs[n].holds = s.secs[n].holds := by
  intro sec made
  let placed : Vehicle := .first tel.number a s.clock s.vt sec false
  let x : State := { s.putVehicle i (.first tel.number a s.clock s.vt none false) with notices := made }
  obtain ⟨secs, arb, hplace, hholds⟩ := placeVehicle_counts (s := x) (i := i) (role := .boundary sideA sideB) (tel := tel)
    (s.putVehicle_slot i _) rfl
  have hplaced : placedIn (.boundary sideA sideB) tel x = sec := rfl
  rw [hplaced] at hplace hholds
  let y : State := { s.putVehicle i placed with secs, arb, notices := made }
  have hy : placeVehicle i (.boundary sideA sideB) tel x = y := hplace.trans
    (congrArg (fun z : State => { z with secs, arb, notices := made }) (s.putVehicle_put i ..))
  have hslot : y.vt.slots[i] = some placed := s.putVehicle_slot i placed
  have htake : takeTelegram a (.boundary sideA sideB) tel s = applyPowerLost i tel.powerLost (applyLeak i tel.leak y) := by
    rw [takeTelegram_new (role := .boundary sideA sideB) hgood hnone hfree, takeSighting,
      makeVehicle_unqueued hq, hy]
    rfl
  rw [htake, hpower]
  cases hl : tel.leak with
  | false =>
    rw [applyLeak_same (leak := false) hslot rfl, applyPowerLost_clear hslot rfl]
    exact ⟨secs, arb, rfl, nofun, fun n hn => (hholds n).2 hn⟩
  | true =>
    have htold := applyLeak_gained hslot rfl
    have hleak (n : Sec) (hn : sec = some n) : (applyLeak i true y).secs[n].holds.leak = s.secs[n].settings.leakHold :=
      (FactsTold.leak_of_slot (v := { placed with leak := true }) htold (State.putVehicle_slot y i _) hn rfl).trans
        (congrArg SectionSettings.leakHold (hholds n).1)
    obtain ⟨secs', arb', heq, -, hsecs⟩ := htold
    rw [heq] at hleak ⊢
    refine ⟨secs', arb', ?_, fun n hn _ => hleak n hn, fun n hn => ?_⟩
    · refine (applyPowerLost_clear (v := { placed with leak := true }) (by exact State.putVehicle_slot y i _) rfl).trans ?_
      exact congrArg (fun z : State => { z with
        secs := secs', arb := arb'
        notices := made.take s.clock .vehicleFault 5 (.vehicle tel.number) [0, 0, word (numberOr0 sec)] })
        (s.putVehicle_put i ..)
    · exact ((hsecs n).2.trans (if_neg hn)).trans ((hholds n).2 hn)

/-- Settles O39: the reply has one telegram, and its steps find a record just made. -/
theorem telegramOfANewVehicleMakesARecord : Obligations.TelegramOfANewVehicleMakesARecord := by
  intro s e o num mark leak sideA sideB i he hc hp hs r hrole hnew hlen hsum h0 haddress h2 h4 hnum hroute hflags hdir1 hdir2
    hnum1 hnum2 hmissing hqueues hfree hfirst sec made v
  subst hnum
  have hreply := parseLoopReply_ok (mark := mark) (census := false) (recordKind := 1) (kind := 0) (position := 3) (events := 0)
    (telegrams := 1) (es := []) ⟨hsum, h0.trans hlen.symm, haddress⟩ (h2.trans (by cases mark <;> rfl)) h4 hlen
    (Nat.zero_le 8) (by decide) rfl (.inl ⟨rfl, rfl⟩) nofun (Nat.zero_le 3)
  let tel : Telegram :=
    { number := halfAt o 5, route := octetAt o 7, leak, powerLost := false, direction := octetAt o 9 }
  have htel : telegramAt o (5 + 0 + 5 * 0) = tel := telegramAt_eq hflags
  have hgood : badTelegram true tel = none :=
    badTelegram_of_good (tel := tel) hnum1 hnum2 hroute fun _ => ⟨hdir1, hdir2⟩
  have hslot : (s.heard e.station mark).freeSlot = some i := by
    refine find_finRange_eq_some.mpr ⟨?_, fun j hj => ?_⟩
    · exact Option.isNone_iff_eq_none.mpr hfree
    · exact Option.isNone_eq_false_iff.mpr (hfirst j hj)
  obtain ⟨secs, arb, htake, hleak, hholds⟩ := takeTelegram_first (s := s.heard e.station mark) (a := e.station)
    (sideA := sideA) (sideB := sideB) hgood (findVehicle_eq_none.mpr hmissing) hslot rfl hqueues
  have hhand : handReply e.station s.loop.stations[e.station].role e.command
      (decide (s.loop.stations[e.station].mark ≠ some mark))
      { mark, kind := 0, position := 3, poles := octetAt o 3, events := []
        telegrams := (List.range 1).map fun j => telegramAt o (5 + 0 + 5 * j) } (s.heard e.station mark) =
      takeTelegram e.station (.boundary sideA sideB) tel (s.heard e.station mark) := by
    rw [show s.loop.stations[e.station].role = .boundary sideA sideB from hrole, decide_eq_true hnew, ← htel]
    rfl
  have hexec := exec_pollReply he hp (by rw [hc]; nofun) hs
    (by rw [show s.loop.stations[e.station].role = .boundary sideA sideB from hrole]; exact hreply) (hhand.trans htake) (by rfl)
  exact ⟨_, hexec, rfl, rfl, hleak, hholds, rfl, rfl, rfl, rfl, rfl, rfl, rfl, rfl, rfl⟩

end Sys2Proof.Machine
end

section
/-!
An approach in a telegram from a switch station: queued, replaced, deferred or refused (R107, R109, R119, R121, R122).
-/

namespace Sys2Proof.Machine

variable {s t u v : State} {k j : Sw} {a : Sta} {e : Exchange} {w w' : SwitchPoint} {q q' : NoticeQueue} {o : List Byte}
  {mark : Bool} {i : Slot} {x : Vehicle} {num : Nat} {route : Route} {d : Direction} {tel : Telegram}

/-! ### The pinned MISMATCH (R122) -/

/-- MISMATCH for a pinned frog that stands otherwise than a new head asks. -/
def SwitchPoint.pinNotices (w : SwitchPoint) (k : Sw) (before : Option QueueEntry) (clock : ClockValue) (q : NoticeQueue) :
    NoticeQueue :=
  match w.queue with
  | [] => q
  | h :: _ =>
    if w.lock = .pinned ∧ w.position ≠ h.dir.position ∧ before ≠ some h then
      q.take clock .mismatch 4 (.switch k) [word h.number, word h.dir.code, word w.position.code, 0]
    else q

theorem Direction.position_code (d : Direction) : d.position.code = d.code := by cases d <;> rfl

/-- At a frog that stands in direction `d`. -/
theorem SwitchPoint.pin_iff {before : Option QueueEntry} {h : QueueEntry} (hw : w.position = d.position) :
    w.lock = .pinned ∧ w.position ≠ h.dir.position ∧ before ≠ some h ↔
      w.lock = .pinned ∧ before ≠ some h ∧ h.dir ≠ d := by
  have hdir : d.position ≠ h.dir.position ↔ h.dir ≠ d := by
    cases d <;> cases h.dir <;> decide
  rw [hw, hdir]
  exact and_congr_right fun _ => and_comm

theorem SwitchPoint.pinNotices_of_head (h : w.queue.head? = w'.queue.head?) (clock : ClockValue) :
    w.pinNotices k w'.queue.head? clock q = q := by
  unfold pinNotices
  split
  · rfl
  next hq => exact if_neg fun hpin => hpin.2.2 (by rw [← h, hq]; rfl)

theorem pinnedMismatch_served (before : Option QueueEntry) :
    pinnedMismatch k before false (t.switch k (w.serve t.halted) q) =
      t.switch k (w.serve t.halted) (w.pinNotices k before t.clock q) := by
  by_cases hl : w.lock = .pinned
  · rw [SwitchPoint.serve_of_locked _ (by rw [hl]; nofun), pinnedMismatch, State.switch_sw]
    unfold SwitchPoint.pinNotices
    cases hq : w.queue with
    | nil => rfl
    | cons h rest =>
      have hcond : (decide (w.lock = .pinned) && decide (w.position ≠ h.dir.position) &&
          (false || decide (before ≠ some h))) = true ↔ w.lock = .pinned ∧ w.position ≠ h.dir.position ∧ before ≠ some h := by
        simp [and_assoc]
      rw [List.head?_cons]
      dsimp only
      rw [if_congr hcond rfl rfl]
      split
      · rfl
      · rfl
  · have hnone : w.pinNotices k before t.clock q = q := by
      unfold SwitchPoint.pinNotices
      split
      · rfl
      · exact if_neg fun h => hl h.1
    rw [hnone]
    refine pinnedMismatch_of_unpinned ?_ before false
    rw [State.switch_sw, (SwitchPoint.serve_kept ..).2.1]
    exact hl

/-! ### An approach taken (R119) -/

/-- The record with the direction of a number's entry replaced. -/
def SwitchPoint.redirected (num : Nat) (dir : Direction) (w : SwitchPoint) : SwitchPoint :=
  { w with queue := w.queue.map fun e => if e.number = num then ⟨num, dir⟩ else e }

/-- QUEUE FULL for an approach that finds no place. -/
def SwitchPoint.fullNotices (num : Nat) (dir : Direction) (w : SwitchPoint) (k : Sw) (clock : ClockValue)
    (q : NoticeQueue) : NoticeQueue :=
  q.take clock .queueFull 3 (.switch k) [word num, word ((w.queue.head?.map (·.number)).getD 0), word dir.code]

theorem swApproach_of (h : (if w.holds num then t.switch k (w.redirected num (route.getD w.default)) q
      else if 4 ≤ w.queue.length then t.switch k w (w.fullNotices num (route.getD w.default) k t.clock q)
      else vehicleQueued num k (t.switch k (w.approached num (route.getD w.default)) q)) = u.switch k w' q') :
    swApproach k num route (t.switch k w q) =
      u.switch k (w'.serve u.halted) (w'.pinNotices k w.queue.head? u.clock q') := by
  have hentries : (w.queue.map fun e => if e.number = num then { e with dir := route.getD w.default } else e) =
      (w.redirected num (route.getD w.default)).queue := by
    refine List.map_congr_left fun e _ => ?_
    by_cases he : e.number = num
    · rw [if_pos he, if_pos he, ← he]
    · rw [if_neg he, if_neg he]
  have hredirects : (t.switch k w q).modSw k (fun w' => { w' with
      queue := w'.queue.map fun e => if e.number = num then { e with dir := route.getD w.default } else e }) =
      t.switch k (w.redirected num (route.getD w.default)) q := by
    rw [modSw_switch, hentries]
    rfl
  rw [swApproach]
  refine (swEvent_switch (t := u) (w := w') (q := q') ?_).trans ?_
  · dsimp only
    rw [← h, State.switch_sw, hredirects, modSw_switch, queueNotice_switch, SwitchPoint.headWord, vehicleWord_eq]
    rfl
  · rw [State.switch_sw]
    exact pinnedMismatch_served _

/-! ### The approach step of a vehicle with a record (R107) -/

section
variable (ht : TableOk t) (hv : t.vt.slots[i] = some x)
include hv

theorem settleApproach_eq : settleApproach i k route (t.switch k w q) =
    match x.queue with
    | none => swApproach k x.number route (t.switch k w q)
    | some j =>
      if j = k then swApproach k x.number route (t.switch k w q)
      else if x.occupied = some j then (t.putVehicle i { x with deferred := some (k, route) }).switch k w q
      else if (t.switch k w q).sws[j].yields x.number then
        swApproach k x.number route (swWithdraw j x.number (t.switch k w q))
      else (t.putVehicle i { x with deferred := some (k, route) }).switch k w q := by
  have hdefer : deferApproach i k route (t.switch k w q) =
      (t.putVehicle i { x with deferred := some (k, route) }).switch k w q := modSlot_eq (s := t.switch k w q) hv _
  unfold settleApproach
  rw [show (t.switch k w q).vt.slots[i] = some x from hv, hdefer] <;> rfl

/-- The queue has no place: QUEUE FULL. -/
theorem settleApproach_full (hx : x.queue = none) (hh : w.holds x.number = false) (hl : 4 ≤ w.queue.length) :
    settleApproach i k route (t.switch k w q) =
      t.switch k (w.serve t.halted) (w.fullNotices x.number (route.getD w.default) k t.clock q) := by
  rw [settleApproach_eq hv, hx]
  refine (swApproach_of (u := t) (w' := w) (q' := w.fullNotices x.number (route.getD w.default) k t.clock q) ?_).trans ?_
  · rw [if_neg (by rw [hh]; nofun), if_pos hl]
  · rw [SwitchPoint.pinNotices_of_head rfl]

/-- The vehicle stands here already: its direction is replaced in place. -/
theorem settleApproach_redirects (hx : x.queue = some k) (hh : w.holds x.number = true) :
    let redirected := w.redirected x.number (route.getD w.default)
    settleApproach i k route (t.switch k w q) = t.switch k (redirected.serve t.halted)
      (redirected.pinNotices k w.queue.head? t.clock q) := by
  rw [settleApproach_eq hv, hx]
  dsimp only
  rw [if_pos rfl]
  exact swApproach_of (u := t) (by rw [if_pos hh])

/-- An occupant's approach elsewhere is deferred. -/
theorem settleApproach_defers (hx : x.queue = some j) (hj : j ≠ k) (ho : x.occupied = some j) :
    settleApproach i k route (t.switch k w q) = (t.putVehicle i { x with deferred := some (k, route) }).switch k w q := by
  rw [settleApproach_eq hv, hx]
  dsimp only
  rw [if_neg hj, if_pos ho]

include ht

/-- The vehicle stands in no queue, and the approach is appended. -/
theorem settleApproach_appends (hx : x.queue = none) (hh : w.holds x.number = false) (hl : w.queue.length < 4) :
    let appended := w.approached x.number (route.getD w.default)
    settleApproach i k route (t.switch k w q) = (t.putVehicle i { x with queue := some k }).switch k
      (appended.serve t.halted) (appended.pinNotices k w.queue.head? t.clock q) := by
  rw [settleApproach_eq hv, hx]
  refine swApproach_of (u := t.putVehicle i { x with queue := some k }) ?_
  rw [if_neg (by rw [hh]; nofun), if_neg (by omega)]
  exact vehicleQueued_eq ht hv

/-- The vehicle leaves the queue it stood in, and the approach is appended. -/
theorem settleApproach_moves (hx : x.queue = some j) (hj : j ≠ k) (ho : x.occupied = none) (hd : x.deferred = none)
    (hy : t.sws[j].yields x.number = true) (hlj : t.sws[j].lock ≠ .pinned) (hh : w.holds x.number = false)
    (hl : w.queue.length < 4) :
    let appended := w.approached x.number (route.getD w.default)
    settleApproach i k route (t.switch k w q) =
      ((t.putVehicle i { x with queue := some k }).switch j ((t.sws[j].without x.number).serve t.halted) q).switch k
        (appended.serve t.halted) (appended.pinNotices k w.queue.head? t.clock q) := by
  have hsw : (t.switch k w q).sws[j] = t.sws[j] := State.switch_other _ _ _ _ hj
  have hunqueued : x.unqueued = { x with queue := none } := by
    rw [Vehicle.unqueued, ← ho]
  obtain ⟨notices, hwithdraw, hsilent⟩ := swWithdraw_eq (s := t.switch k w q) ht hv hd j
  rw [hsilent (by rw [hsw]; exact hlj), hsw, if_pos hy, SwitchPoint.withdrawn, if_pos hy, hunqueued] at hwithdraw
  let y := (t.putVehicle i { x with queue := none }).switch j ((t.sws[j].without x.number).serve t.halted) q
  have hy' : swWithdraw j x.number (t.switch k w q) = y.switch k w q := by
    rw [hwithdraw]
    exact State.switch_comm (t := t.putVehicle i { x with queue := none }) (q₁ := q) (q₂ := q) hj
  rw [settleApproach_eq hv, hx]
  dsimp only
  rw [if_neg hj, if_neg (by rw [ho]; nofun), hsw, if_pos hy, hy']
  have hyt : TableOk y := TableOk.putVehicle ht hv rfl
  have hput : y.putVehicle i { x with queue := some k } =
      (t.putVehicle i { x with queue := some k }).switch j ((t.sws[j].without x.number).serve t.halted) q := by
    rw [State.putVehicle_switch, State.putVehicle_put]
  rw [← hput]
  refine swApproach_of (u := y.putVehicle i { x with queue := some k }) ?_
  rw [if_neg (by rw [hh]; nofun), if_neg (by omega)]
  exact vehicleQueued_eq (v := { x with queue := none }) hyt (State.putVehicle_slot t i _)

end

/-! ### The telegram with nothing new but its approach (R98 to R104, R109) -/

/-- The record of a vehicle already ACTIVE, seen again. -/
def Vehicle.seen (a : Sta) (now : ClockValue) (table : VehicleTable) (v : Vehicle) : Vehicle :=
  { v with
    lastStation := a, lastSeen := now, lostTimer := some table.lostTime, forgetTimer := some table.forgetTime
    overdue := false }

theorem routeOf_code (route : Route) : routeOf (routeCode route) = route := by
  rcases route with _ | _ | _ <;> rfl

theorem routeCode_le (route : Route) : routeCode route ≤ 2 := by
  rcases route with _ | _ | _ <;> decide

theorem takeTelegram_approach (hgood : badTelegram false tel = none) (ht : TableOk t) (hv : t.vt.slots[i] = some x)
    (hnum : x.number = tel.number) (ha : x.active = true) (hleak : tel.leak = x.leak) (hpower : tel.powerLost = false)
    (hd : x.dewired = false) (hsec : x.sec = w.feeding) :
    takeTelegram a (.switch (some k)) tel (t.switch k w q) =
      settleApproach i k (routeOf tel.route) ((t.putVehicle i (x.seen a t.clock t.vt)).switch k w q) := by
  have hfind : (t.switch k w q).findVehicle tel.number = some i := hnum ▸ findVehicle_of_slot ht hv
  have hseen : x.sighted a t.clock t.vt = x.seen a t.clock t.vt := by
    unfold Vehicle.sighted Vehicle.seen
    rw [← ha]
  let y := (t.putVehicle i (x.seen a t.clock t.vt)).switch k w q
  have hslot : y.vt.slots[i] = some (x.seen a t.clock t.vt) := State.putVehicle_slot t i _
  have hsight : sightVehicle i a (t.switch k w q) = y :=
    (sightVehicle_active (s := t.switch k w q) hv ha).trans (congrArg (State.putVehicle (t.switch k w q) i) hseen)
  have hfeeding : placedIn (.switch (some k)) tel y = w.feeding := congrArg SwitchPoint.feeding (State.switch_sw ..)
  rw [takeTelegram_recorded (role := .switch (some k)) hgood hfind, takeSighting, hsight,
    placeVehicle_stays hslot (.inr (hsec.trans hfeeding.symm)), applyLeak_same hslot hleak, hpower,
    applyPowerLost_clear hslot hd]
  rfl

/-- TABLE FULL, once until a slot is freed (R97). -/
def VehicleTable.fullNotices (table : VehicleTable) (a : Sta) (num : Nat) (clock : ClockValue) (q : NoticeQueue) :
    NoticeQueue :=
  if table.fullArmed then q.take clock .tableFull 3 (.station (number a)) [word num, word (number a)] else q

theorem takeTelegram_unrecorded (hgood : badTelegram false tel = none) (hfull : ∀ i : Slot, t.vt.slots[i].isSome = true)
    (hnone : ∀ (i : Slot) (v : Vehicle), t.vt.slots[i] = some v → v.number ≠ tel.number) :
    takeTelegram a (.switch (some k)) tel (t.switch k w q) = approachUnrecorded k tel.number (routeOf tel.route)
      (State.switch { t with vt := { t.vt with fullArmed := false } } k w
        (t.vt.fullNotices a tel.number t.clock q)) := by
  have hfree : (t.switch k w q).freeSlot = none := List.find?_eq_none.mpr fun i _ h => by
    have hsome := hfull i
    rw [show t.vt.slots[i] = none from Option.isNone_iff_eq_none.mp h] at hsome
    cases hsome
  have hfind : (t.switch k w q).findVehicle tel.number = none := findVehicle_eq_none.mpr hnone
  rw [takeTelegram_full (role := .switch (some k)) hgood hfind hfree, takeUnrecorded, VehicleTable.fullNotices]
  cases harmed : t.vt.fullArmed with
  | true =>
    rw [show (t.switch k w q).vt.fullArmed = true from harmed]
    rfl
  | false =>
    have hunarmed : ({ t with vt := { t.vt with fullArmed := false } } : State) = t := by rw [← harmed]
    rw [show (t.switch k w q).vt.fullArmed = false from harmed, hunarmed]
    rfl

theorem vehicleQueued_missing (h : ∀ (i : Slot) (v : Vehicle), t.vt.slots[i] = some v → v.number ≠ num) :
    vehicleQueued num k (t.switch k w q) = t.switch k w q := by
  rw [vehicleQueued, State.modVehicle, findVehicle_eq_none (s := t.switch k w q) |>.mpr h]

/-- No other switch point lets the number go. -/
theorem approachUnrecorded_eq (h : ∀ j : Sw, j ≠ k → s.sws[j].yields num = false) : approachUnrecorded k num route s =
    if (List.finRange 16).any fun j => decide (j ≠ k) && decide (s.sws[j].occupant = some num) then s
    else swApproach k num route s := by
  have hkeep : forEach ((List.finRange 16).filter (· ≠ k))
      (fun j s => if s.sws[j].yields num then swWithdraw j num s else s) s = s := by
    refine forEach_keeps (P := fun x => x = s) _ (fun j hj x hx => ?_) s rfl
    subst hx
    have hjk : j ≠ k := of_decide_eq_true (List.mem_filter.mp hj).2
    exact if_neg (by rw [h j hjk]; nofun)
  rw [approachUnrecorded, hkeep]

/-! ### The obligation -/

/-- The last poll's reply, from a switch station, with one telegram and a position held that asks for no drive. -/
theorem exec_switchTelegram (he : s.loop.exchange = some e) (hp : e.phase ≠ .sending) (hc : e.command = .poll)
    (hs : s.loop.Spent) (hrole : s.loop.stations[e.station].role = .switch (some k))
    (hnew : s.loop.stations[e.station].mark ≠ some mark) (ho : ReplyOf e.station o) (hlen : o.length = 11)
    (hmark : octetAt o 2 = d.code + (if mark then 128 else 0)) (hcounts : octetAt o 4 = 1)
    (hd : s.sws[k].position = d.position) (hserve : s.sws[k].serve s.halted = s.sws[k])
    (hv : takeTelegram e.station (.switch (some k)) (telegramAt o 5)
      ((s.heard e.station mark).switch k (s.sws[k].reporting d.report) s.notices) = v)
    (hloop : v.loop = (s.heard e.station mark).loop) : exec (.loopReplyComplete o) s = .next { v with
      loop := s.loop.restingWith e.station { s.loop.stations[e.station] with failures := 0, mark := some mark } } := by
  have hposition : swPosition k d.report (s.heard e.station mark) =
      (s.heard e.station mark).switch k (s.sws[k].reporting d.report) s.notices := by
    rw [heard_switch s e.station mark k]
    refine (swPosition_stays (.inr ⟨d, hd, rfl⟩)).trans ?_
    rw [SwitchPoint.serve_reporting, show s.sws[k].serve (s.heard e.station mark).halted = _ from hserve,
      State.switch_switch]
  refine exec_pollReply (v := v) he hp (by rw [hc]; nofun) hs (by
    rw [hrole]
    exact parseLoopReply_switch (report := d.report) (events := 0) (telegrams := 1) (es := []) ho (by rw [hmark, d.report_code])
      hcounts hlen (Nat.zero_le 8) (by decide) rfl) ?_ hloop
  rw [← hv, ← hposition, hrole, hc, decide_eq_true hnew, handReply, Role.switchPoint]
  unfold handToSwitch handPosition
  dsimp only
  rw [stationPositionOf_code]
  rfl

/-- Settles O49: the telegram's other steps find nothing new, and its approach is one of the cases of R107 and R119. -/
theorem approachesAreQueuedAndServed : Obligations.ApproachesAreQueuedAndServed := by
  intro s e k o num mark d route he hp hc hs hrole hnew ho hlen hmark hcounts hnum hroute hnum1 hnum2 hd hserve
    r w dir appended loop pinned becomes queueFull
  let t := s.heard e.station mark
  have hw : w = s.sws[k].reporting d.report := by cases d <;> rfl
  have hexec {v : State} (hv : takeTelegram e.station (.switch (some k)) (telegramAt o 5) (t.switch k w s.notices) = v)
      (hloop : v.loop = t.loop) : exec (.loopReplyComplete o) s = .next { v with loop } :=
    exec_switchTelegram he hp hc hs hrole hnew ho hlen hmark hcounts hd hserve (hw ▸ hv) hloop
  have hserved : w.serve s.halted = w := by
    rw [hw, SwitchPoint.serve_reporting, hserve]
  have hpinned (w' : SwitchPoint) (q : NoticeQueue) (hl : w'.lock = w.lock) (hpos : w'.position = d.position) :
      w'.pinNotices k w.queue.head? s.clock q = pinned w' q := by
    have hcond (h : QueueEntry) : w'.lock = .pinned ∧ w'.position ≠ h.dir.position ∧ w.queue.head? ≠ some h ↔
        w.lock = .pinned ∧ w.queue.head? ≠ some h ∧ h.dir ≠ d := hl ▸ SwitchPoint.pin_iff hpos
    have hcode : w'.position.code = d.code := by rw [hpos, d.position_code]
    unfold SwitchPoint.pinNotices
    simp only [pinned, hcond, hcode] <;> cases w'.queue <;> rfl
  have hquiet (q : NoticeQueue) : pinned w q = q := (hpinned w q rfl hd).symm.trans (SwitchPoint.pinNotices_of_head rfl _)
  have hroute' : routeOf (telegramAt o 5).route = route ∧ (telegramAt o 5).route ≤ 2 := by
    rw [show (telegramAt o 5).route = routeCode route from hroute]
    exact ⟨routeOf_code route, routeCode_le route⟩
  have hgood : badTelegram false (telegramAt o 5) = none :=
    badTelegram_of_good (tel := telegramAt o 5) (hnum1.trans_eq hnum.symm) (hnum.trans_le hnum2) hroute'.2 nofun
  refine ⟨?_, ?_⟩
  · intro i v ht hv hvnum ha hflags hdew hsec seen put
    subst hvnum
    let y := t.putVehicle i seen
    have hy : TableOk y := TableOk.putVehicle (s := t) ht hv rfl
    have hyv : y.vt.slots[i] = some seen := State.putVehicle_slot t i seen
    have hsettle {u : State} (hu : settleApproach i k route (y.switch k w s.notices) = u) (hloop : u.loop = t.loop) :
        exec (.loopReplyComplete o) s = .next { u with loop } := by
      refine hexec ((takeTelegram_approach (t := t) hgood ht hv hnum.symm ha
        (congrArg Telegram.leak (telegramAt_eq hflags)) (congrArg Telegram.powerLost (telegramAt_eq hflags)) hdew
        hsec).trans ?_) hloop
      rw [hroute'.1]
      exact hu
    have hput (v' : Vehicle) : y.putVehicle i v' = t.putVehicle i v' := State.putVehicle_put ..
    refine ⟨fun hq hh => ⟨fun hl => ?_, fun hl => ?_⟩, fun hq hh => ?_, fun j hq hj hocc hdef hhj hoj hlj hh hl => ?_,
      fun j hq hj hocc => ?_⟩
    · have happend : settleApproach i k route (y.switch k w s.notices) = _ := settleApproach_appends hy hyv hq hh hl
      rw [hput] at happend
      exact (hsettle happend rfl).trans (congrArg (fun notices => Host.Outcome.next { becomes appended s.notices with
        vt := put { seen with queue := some k }, notices }) (hpinned appended s.notices rfl hd))
    · have hfull : settleApproach i k route (y.switch k w s.notices) = _ := settleApproach_full hyv hq hh hl
      exact (hsettle hfull rfl).trans (congrArg (fun notices => Host.Outcome.next { becomes w (queueFull s.notices) with
        vt := put seen, notices }) (hquiet (queueFull s.notices)).symm)
    · have hredirect : settleApproach i k route (y.switch k w s.notices) = _ := settleApproach_redirects hyv hq hh
      exact (hsettle hredirect rfl).trans (congrArg (fun notices => Host.Outcome.next
        { becomes (w.redirected v.number dir) s.notices with vt := put seen, notices })
        (hpinned (w.redirected v.number dir) s.notices rfl hd))
    · have hmove : settleApproach i k route (y.switch k w s.notices) = _ :=
        settleApproach_moves hy hyv hq hj hocc hdef (by
          rw [show y.sws[j] = s.sws[j] from rfl, SwitchPoint.yields, show s.sws[j].holds seen.number = true from hhj,
            decide_eq_true hoj]
          rfl) hlj hh hl
      rw [hput] at hmove
      exact (hsettle hmove rfl).trans (congrArg (fun notices => Host.Outcome.next { becomes appended s.notices with
        sws := (s.sws.set j ((s.sws[j].without v.number).serve s.halted)).set k (appended.serve s.halted)
        vt := put { seen with queue := some k }, notices }) (hpinned appended s.notices rfl hd))
    · have hdefer : settleApproach i k route (y.switch k w s.notices) = _ := settleApproach_defers hyv hq hj hocc
      rw [hput] at hdefer
      refine (hsettle hdefer rfl).trans (congrArg Host.Outcome.next ?_)
      simp only [becomes]
      rw [hserved, hquiet]
      rfl
  · intro hfull hmissing told vt
    subst hnum
    let y : State := { t with vt := vt }
    have htake : takeTelegram e.station (.switch (some k)) (telegramAt o 5) (t.switch k w s.notices) =
        approachUnrecorded k (halfAt o 5) route (y.switch k w told) :=
      (takeTelegram_unrecorded (t := t) hgood hfull hmissing).trans
        (congrArg (approachUnrecorded k (halfAt o 5) · (y.switch k w told)) hroute'.1)
    have hother (j : Sw) (hj : j ≠ k) : (y.switch k w told).sws[j] = s.sws[j] := State.switch_other _ _ _ _ hj
    refine ⟨fun hothers hh hl => ?_, fun j hj hocc hyields => ?_⟩
    · have hnobody : ((List.finRange 16).any fun j =>
          decide (j ≠ k) && decide ((y.switch k w told).sws[j].occupant = some (halfAt o 5))) ≠ true := by
        intro hany
        obtain ⟨j, -, hj⟩ := List.any_eq_true.mp hany
        rw [Bool.and_eq_true, decide_eq_true_iff, decide_eq_true_iff] at hj
        exact (hothers j hj.1).2 (hother j hj.1 ▸ hj.2)
      have htaken : approachUnrecorded k (halfAt o 5) route (y.switch k w told) = _ :=
        (approachUnrecorded_eq fun j hj => by rw [hother j hj]; exact (hothers j hj).1).trans
          ((if_neg hnobody).trans (swApproach_of (u := y) (w' := appended) (q' := told) (by
            rw [if_neg (by rw [hh]; nofun), if_neg (by omega)]
            exact vehicleQueued_missing hmissing)))
      exact (hexec (htake.trans htaken) rfl).trans (congrArg (fun notices => Host.Outcome.next
        { becomes appended told with vt, notices }) (hpinned appended told rfl hd))
    · have hsomebody : ((List.finRange 16).any fun j =>
          decide (j ≠ k) && decide ((y.switch k w told).sws[j].occupant = some (halfAt o 5))) = true := by
        refine List.any_eq_true.mpr ⟨j, List.mem_finRange j, ?_⟩
        rw [hother j hj, hocc, decide_eq_true hj, decide_eq_true rfl]
        rfl
      have htaken : approachUnrecorded k (halfAt o 5) route (y.switch k w told) = y.switch k w told :=
        (approachUnrecorded_eq fun j hj => by rw [hother j hj]; exact hyields j hj).trans (if_pos hsomebody)
      refine (hexec (htake.trans htaken) rfl).trans (congrArg Host.Outcome.next ?_)
      simp only [becomes]
      rw [hserved, hquiet]
      rfl

end Sys2Proof.Machine
end
